-- ==== Sys2Proof/Word.lean ====
section
/-! DEFINITION. The bytes and masks of the console line, the nine channel names, and the fixed-size
records (one value per channel, per wheel, per presence line, per overtravel line, per stop cause)
that the whole model is built from. Each such record is plain data with one field per member; `ofFn`
builds it and `get` reads it, and every other operation is written with these two. -/

namespace Sys2Proof

/-- One byte of a frame or of a drive record. -/
abbrev Byte := BitVec 8

/-- A channel mask as it travels on the line: two bytes, bit c for channel c (R194). -/
abbrev ChannelMask := BitVec 16

/-- The nine motion channels, in index order 0 to 8 (R1). -/
inductive Chan
  | track | swing | boom | reach | pan | tilt | focus | iris | zoom
  deriving DecidableEq, Repr

/-- One value for each of the nine channels. -/
structure PerChannel (α : Type) where
  track : α
  swing : α
  boom : α
  reach : α
  pan : α
  tilt : α
  focus : α
  iris : α
  zoom : α
  deriving DecidableEq, Repr

/-- One value for each of four like things: the handwheels W1 to W4, the brake outputs, the lens banks. -/
structure PerFour (α : Type) where
  a0 : α
  a1 : α
  a2 : α
  a3 : α
  deriving DecidableEq, Repr

/-- One value for each overtravel line OT1 to OT8; index 0 is OT1. -/
structure PerEight (α : Type) where
  a0 : α
  a1 : α
  a2 : α
  a3 : α
  a4 : α
  a5 : α
  a6 : α
  a7 : α
  deriving DecidableEq, Repr

/-- One value for each presence line PRES1 to PRES12; index 0 is PRES1. -/
structure PerLine (α : Type) where
  a0 : α
  a1 : α
  a2 : α
  a3 : α
  a4 : α
  a5 : α
  a6 : α
  a7 : α
  a8 : α
  a9 : α
  a10 : α
  a11 : α
  deriving DecidableEq, Repr

variable {α : Type}

def PerChannel.ofFn (f : Chan → α) : PerChannel α :=
  ⟨f .track, f .swing, f .boom, f .reach, f .pan, f .tilt, f .focus, f .iris, f .zoom⟩

def PerChannel.get (p : PerChannel α) : Chan → α
  | .track => p.track
  | .swing => p.swing
  | .boom => p.boom
  | .reach => p.reach
  | .pan => p.pan
  | .tilt => p.tilt
  | .focus => p.focus
  | .iris => p.iris
  | .zoom => p.zoom

def PerChannel.set (p : PerChannel α) (c : Chan) (a : α) : PerChannel α :=
  .ofFn fun d => if d = c then a else p.get d

def PerFour.ofFn (f : Fin 4 → α) : PerFour α := ⟨f 0, f 1, f 2, f 3⟩

def PerFour.get (p : PerFour α) : Fin 4 → α
  | 0 => p.a0
  | 1 => p.a1
  | 2 => p.a2
  | 3 => p.a3

def PerFour.set (p : PerFour α) (i : Fin 4) (a : α) : PerFour α :=
  .ofFn fun j => if j = i then a else p.get j

def PerEight.ofFn (f : Fin 8 → α) : PerEight α := ⟨f 0, f 1, f 2, f 3, f 4, f 5, f 6, f 7⟩

def PerEight.get (p : PerEight α) : Fin 8 → α
  | 0 => p.a0
  | 1 => p.a1
  | 2 => p.a2
  | 3 => p.a3
  | 4 => p.a4
  | 5 => p.a5
  | 6 => p.a6
  | 7 => p.a7

def PerEight.set (p : PerEight α) (i : Fin 8) (a : α) : PerEight α :=
  .ofFn fun j => if j = i then a else p.get j

def PerLine.ofFn (f : Fin 12 → α) : PerLine α :=
  ⟨f 0, f 1, f 2, f 3, f 4, f 5, f 6, f 7, f 8, f 9, f 10, f 11⟩

def PerLine.get (p : PerLine α) : Fin 12 → α
  | 0 => p.a0
  | 1 => p.a1
  | 2 => p.a2
  | 3 => p.a3
  | 4 => p.a4
  | 5 => p.a5
  | 6 => p.a6
  | 7 => p.a7
  | 8 => p.a8
  | 9 => p.a9
  | 10 => p.a10
  | 11 => p.a11

def PerLine.set (p : PerLine α) (i : Fin 12) (a : α) : PerLine α :=
  .ofFn fun j => if j = i then a else p.get j

end Sys2Proof
end

