-- ==== Sys2Proof/Config.lean ====
section
/-! DEFINITION. The fixed capacities of the part, and the values that the manual leaves open: each of
these is an opaque constant with no body, so that nothing can be proved of the value it gives. -/

namespace Sys2Proof.Config

/-- R106: marks 1 to 128. -/
def markCapacity : Nat := 128
/-- R119: takes 1 to 16. -/
def takeCapacity : Nat := 16
/-- R119, R120: a take holds at most 64 cues. -/
def cuesPerTake : Nat := 64
/-- R122: the cue pool holds 256 cues. -/
def poolCapacity : Nat := 256
/-- R66: zones 1 to 24. -/
def zoneCapacity : Nat := 24
/-- R156: four lens map banks. -/
def bankCount : Nat := 4
/-- R161: targets 1 to 8. -/
def targetCapacity : Nat := 8
/-- R141: the frame wait, in ms. -/
def frameWait : Nat := 250
/-- R134: the lag saturates at 65,535 ms in units of 1/1,024 ms. -/
def lagLimit : Nat := 67107840

/-- FREE VALUE (log entry 1). R184: where both supervision timers reach the period at one timer event, the
manual says that one expiry is taken first and not which. Applied to the model's own counter `State.freeCount`;
`true` means the periodic timer's expiry is taken first. -/
opaque periodicExpiresFirst : Nat → Bool

/-- FREE VALUE (log entry 2). R197 sends velocities in a signed 32-bit field; the manual states no field value
for a velocity outside that range (a path step can make one, R8). -/
opaque wideField : Int → BitVec 32

/-- FREE VALUE (log entry 3). R197: an absent limit pair of a lens map is sent all the same; the manual states
no value for its four bytes in the reply to LENS_MAP_GET. Arguments: the bank and the field's place. -/
opaque absentLimitField : Fin 4 → Fin 4 → BitVec 16

end Sys2Proof.Config
end

