-- ==== Sys2Proof/Syntax.lean ====
section
/-! DEFINITION. The commands of the part, one constructor per row of spec/opcode_table.json: the console
requests (operands exactly as wide as the fields of R199, so that every operand value can be sent) and the
events that the part's lines, buses and clocks bring about. A request's constructor is the arrival of one whole
frame that carries it; `dataCharacter` and its neighbours are the same traffic one character at a time. -/

namespace Sys2Proof

/-- How a frame was addressed (R174): to the unit, or to every unit. -/
inductive Origin
  | unit | broadcast
  deriving DecidableEq, Repr

/-- The cue of TAKE_CUE_INSERT and TAKE_CUE_REPLACE as sent (R197: 12 bytes). -/
structure CueOperands where
  mark : Byte
  travel : BitVec 32
  dwell : BitVec 32
  curve : Byte
  mask : ChannelMask
  deriving DecidableEq, Repr

/-- The operands of ZONE_SET as sent (R197, R199). The box bounds are signed. -/
structure ZoneOperands where
  number : Byte
  kind : Byte
  line : Byte
  xLo : BitVec 32
  xHi : BitVec 32
  yLo : BitVec 32
  yHi : BitVec 32
  zLo : BitVec 32
  zHi : BitVec 32
  stopMargin : BitVec 32
  slowMargin : BitVec 32
  deriving DecidableEq, Repr

/-- One point of a lens map as sent: distance in mm and focus count (R156, R197). -/
structure MapPointOperands where
  distance : BitVec 32
  count : BitVec 16
  deriving DecidableEq, Repr

/-- The operands of LENS_MAP_SET as sent (R197). `pointCount` is the count byte; `points` are the points that
follow. -/
structure LensMapOperands where
  bank : Byte
  tag : BitVec 16
  pointCount : Byte
  limitFlags : Byte
  irisLo : BitVec 16
  irisHi : BitVec 16
  zoomLo : BitVec 16
  zoomHi : BitVec 16
  points : List MapPointOperands
  deriving DecidableEq, Repr

/-- One sample of the eleven safety lines (R83): `true` is open for an E-stop contact, held for GRIP, active for
an overtravel line; bit 0 of `overtravel` is OT1. -/
structure SafetySample where
  estop1 : Bool
  estop2 : Bool
  grip : Bool
  overtravel : BitVec 8
  deriving DecidableEq, Repr

/-- The levels of the straps as a reset reads them (R173). -/
structure Straps where
  address : BitVec 5
  rate : BitVec 2
  deriving DecidableEq, Repr

/-- The commands: requests of the console first, in the order of the opcode table, then the link's characters
and the part's events. -/
inductive Instr
  | ident
  | status
  | notice
  | noticeMask (mask : Byte)
  | configSet (item : Byte) (value : BitVec 32)
  | configGet (item : Byte)
  | arm
  | park
  | jog (channel : Byte) (velocity : BitVec 32)
  | goto (mask : ChannelMask) (positions : List (BitVec 32))
  | gotoMark (mark : Byte) (mask : ChannelMask)
  | release (mask : ChannelMask)
  | channelGet (channel : Byte)
  | wheelAssign (wheel : Byte) (channel : Byte) (gain : BitVec 16)
  | stop (origin : Origin)
  | ackStop
  | inputs
  | zoneSet (zone : ZoneOperands)
  | zoneGet (number : Byte)
  | zoneList
  | zoneRetire (number : Byte)
  | markSet (number : Byte) (tag : BitVec 16) (mask : ChannelMask) (values : List (BitVec 32))
  | markCapture (number : Byte) (tag : BitVec 16) (mask : ChannelMask)
  | markGet (number : Byte)
  | markList (number : Byte)
  | markRetire (number : Byte)
  | takeCreate (number : Byte) (tag : BitVec 16)
  | takeCueInsert (number : Byte) (position : Byte) (cue : CueOperands)
  | takeCueReplace (number : Byte) (position : Byte) (cue : CueOperands)
  | takeCueDelete (number : Byte) (position : Byte)
  | takeGet (number : Byte) (position : Byte)
  | takeList
  | takeRetire (number : Byte)
  | takeArm (number : Byte)
  | takeGo (origin : Origin) (mode : Byte)
  | takePause
  | takeResume
  | takeAbort
  | lensMapSet (map : LensMapOperands)
  | lensMapGet (bank : Byte)
  | lensMapRetire (bank : Byte)
  | lensSelect (bank : Byte)
  | targetSet (origin : Origin) (number : Byte) (x : BitVec 32) (y : BitVec 32) (z : BitVec 32) (maxAge : BitVec 16)
  | targetGet (number : Byte)
  | targetRetire (number : Byte)
  | trackOn (number : Byte)
  | trackOff
  /-- An accepted unit frame whose CODE names no request, or whose length is not its request's. -/
  | unknownCode (code : Byte) (operands : List Byte)
  /-- An accepted broadcast frame with a code other than STOP, TAKE_GO and TARGET_SET. -/
  | broadcastIgnored (code : Byte) (operands : List Byte)
  | addressCharacter (value : Byte) (framingError : Bool)
  | dataCharacter (value : Byte) (framingError : Bool)
  | interCharacterGap
  | lineBreak
  | replyComplete
  | periodicTimerExpiry
  | noticeTimerExpiry
  | consoleTimerEvent
  | channelUpdate
  | inPosition (channel : Chan)
  | decelerationEnd (channel : Chan)
  /-- One quadrature edge of wheel W(wheel + 1); `aLeads` says that phase A leads phase B. -/
  | wheelEdge (wheel : Fin 4) (aLeads : Bool)
  | wheelIdleRelease (channel : Chan)
  /-- One exchange with the nine drives: the reply record of each drive as its bytes arrived, or none. -/
  | driveExchange (replies : PerChannel (Option (List Byte)))
  | slotEvent
  | armingSlotEnd
  | parkingSlotEnd
  | geometryUpdate
  /-- One sample of the twelve presence lines: bit k is the level of PRES(k + 1), set for high. -/
  | presenceSample (levels : BitVec 12)
  | occupancyRelease (line : Fin 12) (levels : BitVec 12)
  | zoneEvaluation
  | inputSample (lines : SafetySample)
  | discrepancyLatch (lines : SafetySample)
  | standstill
  | deadlineExpiry (lines : SafetySample)
  | frameEdge
  | framePresentLapse (lines : SafetySample)
  | engineMillisecond
  | cueInComplete
  | cueEnd
  | pauseReached
  | playEnd
  | frameWaitExpiry
  | lensUpdate
  | targetStale (number : Byte)
  | resetAssert
  /-- RESET rising, `holdMs` milliseconds after it fell, with the strap levels read at the end of the reset. -/
  | resetRelease (holdMs : Nat) (straps : Straps)
  | powerLoss
  | powerUp (straps : Straps)
  | backupSupplyLoss
  deriving DecidableEq, Repr

end Sys2Proof
end

