-- ==== Sys2Proof/Decode.lean ====
section
/-! DEFINITION. The command that a word spells by the bits of spec/opcode_table.json. No row of that table gives
bits (its "fields" are empty and no row has "fixed"), so no word spells a command. The frames of the console
line, which do carry commands, are read by `Machine.decodeRequest` (Machine/Operands.lean). -/

namespace Sys2Proof

/-- The table gives no row any bits: no word spells a command. -/
def decodeTableWord (_nbits _w : Nat) : Option Instr := none

end Sys2Proof
end

