-- ==== Sys2Proof/Machine/State.lean ====
section
/-! DEFINITION. The state of the part as plain data, block by block in the manual's names, the reasons a step
can stop, and the state right after reset. -/

namespace Sys2Proof.Machine

/-! ## Enumerations (R194) -/

/-- R30. -/
inductive CraneState
  | parked | arming | ready | stopping | halted | tripped | parking
  deriving DecidableEq, Repr

/-- R30: which way the slot pointer moves. -/
inductive Sequence
  | up | down | none
  deriving DecidableEq, Repr

/-- R1: the three groups of channels. -/
inductive Group
  | arm | head | lens
  deriving DecidableEq, Repr

/-- R2. -/
inductive DriveState
  | off | enabling | active | fault
  deriving DecidableEq, Repr

/-- R2. -/
inductive Mode
  | hold | velocity | position | path
  deriving DecidableEq, Repr

/-- R2, R16. -/
inductive Owner
  | none | console | wheel | take | track
  deriving DecidableEq, Repr

/-- R62: the polarity of a presence line. -/
inductive Polarity
  | highOccupied | lowOccupied
  deriving DecidableEq, Repr

/-- R181. -/
inductive SupervisionMode
  | periodic | periodicNotice
  deriving DecidableEq, Repr

/-- R66. -/
inductive ZoneKind
  | guard | slow
  deriving DecidableEq, Repr

/-- R74. -/
inductive Band
  | clear | slow | stop
  deriving DecidableEq, Repr

/-- R121. -/
inductive Curve
  | linear | ease
  deriving DecidableEq, Repr

/-- R120, R123. -/
inductive TakeResult
  | none | done | slowed | partial_ | stopped | aborted | failed
  deriving DecidableEq, Repr

/-- R134. -/
inductive EngineState
  | idle | cueing | armed | waitFrame | playing | paused
  deriving DecidableEq, Repr

/-- R164. -/
inductive TrackState
  | off | active | suspended
  deriving DecidableEq, Repr

/-- R44: the kind of a reset. -/
inductive ResetKind
  | cold | warm
  deriving DecidableEq, Repr

/-- R48: the cause of a reset. -/
inductive ResetCause
  | powerInvalid | powerValid | resetHold | resetPulse
  deriving DecidableEq, Repr

/-- R84: the kinds of the DRIVE cause. -/
inductive DriveKind
  | fault | stale | following | dropout
  deriving DecidableEq, Repr

/-- R84, R184: which supervision timer raised LINK. -/
inductive LinkKind
  | supervision | notice
  deriving DecidableEq, Repr

/-- R84: the eight stop causes. -/
inductive Cause
  | estop | overtravel | drive | deadline | zone | grip | link | request
  deriving DecidableEq, Repr

/-- R84: a stop cause with the detail it arose with. -/
inductive CauseDetail
  /-- the open contacts, and whether the discrepancy latch is set -/
  | estop (open1 open2 discrepancy : Bool)
  /-- the channel, and whether it is the PLUS end -/
  | overtravel (channel : Chan) (plus : Bool)
  | drive (channel : Chan) (kind : DriveKind)
  | deadline
  | zone (number : Nat)
  /-- the channel concerned, or none for ENGINE -/
  | grip (channel : Option Chan)
  | link (kind : LinkKind)
  | request (origin : Origin)
  deriving DecidableEq, Repr

/-- R180: the result codes. -/
inductive ResultCode
  | ok | clamped | badLength | badCode | badOperand | notFound | exists_ | full | inUse | locked | occupied
  | state | owned | moving | causeActive | latched | noGrip | tooFast | noMap
  deriving DecidableEq, Repr

/-! ## Configuration items (R190) -/

/-- R1: the configured parameters of one channel. The limits are the configured ones; a selected lens map may
cover them (R159). -/
structure ChannelConfig where
  lo : Int
  hi : Int
  vmax : Nat
  accel : Nat
  stopStep : Nat
  followLimit : Nat
  releaseSlot : Nat
  keepActive : Bool
  deriving DecidableEq, Repr

/-- R62: the configured parameters of one presence line. -/
structure LineConfig where
  polarity : Polarity
  delay : Nat
  deriving DecidableEq, Repr

/-- R190: every configuration item. -/
structure ConfigItems where
  slotDuration : Nat
  wheelIdle : Nat
  stopDeadline : Nat
  rateSlew : Nat
  creep : Nat
  armBase : Nat
  pivotHeight : Nat
  headRadius : Nat
  supervisionPeriod : Nat
  supervisionMode : SupervisionMode
  channels : PerChannel ChannelConfig
  lines : PerLine LineConfig
  deriving DecidableEq, Repr

/-! ## Channel Controller, Drive Link, Wheel Inputs -/

/-- R2: the dynamic record of one channel. `commanded` is the enable field the Drive Link sends (R12);
`faultPresent` is the channel's DRIVE condition of kind FAULT (R14, R87). -/
structure Channel where
  drive : DriveState
  commanded : Bool
  faultPresent : Bool
  mode : Mode
  owner : Owner
  setpoint : Int
  fraction : Nat
  velocity : Int
  demand : Option Int
  target : Option Int
  feedback : Int
  known : Bool
  stale : Nat
  stopDecel : Bool
  atLimit : Bool
  outside : Bool
  inhibitMinus : Bool
  inhibitPlus : Bool
  inPosition : Bool
  deriving DecidableEq, Repr

/-- R27: one open console move: the mask its request gave, and its channels not yet in position. -/
structure ConsoleMove where
  mask : ChannelMask
  remaining : PerChannel Bool
  deriving DecidableEq, Repr

/-- R21: one handwheel with its entry of the wheel assignment table. `idle` is the time since the last motion,
or none once the timer has expired. -/
structure WheelInput where
  channel : Option Chan
  gain : Int
  counter : Int
  carry : Nat
  idle : Option Nat
  deriving DecidableEq, Repr

/-! ## State Controller and Geometry Unit -/

/-- R30, R35: the crane state record and the four brake outputs (`true` is applied; index 0 is BRAKE1). -/
structure CraneRecord where
  state : CraneState
  retreat : Bool
  slotPointer : Option Nat
  slotTimer : Nat
  sequence : Sequence
  brakes : PerFour Bool
  deriving DecidableEq, Repr

/-- R55 to R57: the published head point and its valid flag. -/
structure HeadPoint where
  x : Int
  y : Int
  z : Int
  valid : Bool
  deriving DecidableEq, Repr

/-! ## Presence Filter and Zone Monitor -/

/-- R62, R83: the three-sample majority filter of one input line with its change flag. The meaning of `true`
is asserted, open, held or active, by the line. -/
structure LineFilter where
  old : Bool
  mid : Bool
  new : Bool
  filtered : Bool
  changed : Bool
  deriving DecidableEq, Repr

/-- R62: the record of one presence line, less its configuration items. -/
structure PresenceLine where
  filter : LineFilter
  occupancy : Bool
  releaseTimer : Option Nat
  deriving DecidableEq, Repr

/-- R66, R67: one zone record with its derived fields. `line` is 0 or the presence line 1 to 12. -/
structure Zone where
  number : Nat
  kind : ZoneKind
  line : Nat
  xLo : Int
  xHi : Int
  yLo : Int
  yHi : Int
  zLo : Int
  zHi : Int
  stopMargin : Nat
  slowMargin : Nat
  active : Bool
  occupied : Bool
  clearance : Option Nat
  band : Band
  contribution : Option Nat
  deriving DecidableEq, Repr

/-- The Zone Monitor: the zone table in ascending number (R66), and the published results (R76). -/
structure ZoneMonitor where
  zones : List Zone
  scale : Nat
  limiting : Option Nat
  deriving DecidableEq, Repr

/-! ## Stop Monitor -/

/-- One entry for each of the eight causes. -/
structure PerCause where
  estop : Option CauseDetail
  overtravel : Option CauseDetail
  drive : Option CauseDetail
  deadline : Option CauseDetail
  zone : Option CauseDetail
  grip : Option CauseDetail
  link : Option CauseDetail
  request : Option CauseDetail
  deriving DecidableEq, Repr

/-- R82: a timer that is running, with the value at which it expires. -/
structure RunningTimer where
  elapsed : Nat
  expiry : Nat
  deriving DecidableEq, Repr

/-- R79: one zone of the retreat set with its reference clearance. -/
structure RetreatZone where
  zone : Nat
  reference : Nat
  deriving DecidableEq, Repr

/-- R83: the FRAME present flag with its change flag; `age` is the time since the last edge (log entry 9). -/
structure FramePresence where
  present : Bool
  changed : Bool
  age : Nat
  deriving DecidableEq, Repr

/-- R82, R83: the Stop Monitor's record. In `conditions` and `latches` an entry is present or set when it holds
a detail. -/
structure StopRecord where
  conditions : PerCause
  latches : PerCause
  first : Option CauseDetail
  deadlineTimer : Option RunningTimer
  discrepancyTimer : Option Nat
  discrepancy : Bool
  bothOpenSeen : Bool
  retreatSet : List RetreatZone
  breachSet : List Nat
  estop1 : LineFilter
  estop2 : LineFilter
  grip : LineFilter
  overtravel : PerEight LineFilter
  frame : FramePresence
  deriving DecidableEq, Repr

/-! ## Record Store and Playback Engine -/

/-- R107. -/
structure Mark where
  number : Nat
  tag : BitVec 16
  values : PerChannel (Option Int)
  refCount : Nat
  locked : Bool
  deriving DecidableEq, Repr

/-- R121. -/
structure Cue where
  mark : Nat
  travel : Nat
  dwell : Nat
  curve : Curve
  mask : ChannelMask
  deriving DecidableEq, Repr

/-- R120. -/
structure Take where
  number : Nat
  tag : BitVec 16
  cues : List Cue
  lastResult : TakeResult
  lastLag : Nat
  passCount : Nat
  active : Bool
  deriving DecidableEq, Repr

/-- R134: start and end point of one channel in the cue in play. -/
structure Span where
  start : Int
  stop : Int
  deriving DecidableEq, Repr

/-- R134: the engine record. `untaken` is the model's own: the channels for which the engine has written a value that no
channel update has taken yet (R8, R153; log entry 33). -/
structure Engine where
  state : EngineState
  take : Option Nat
  cueIndex : Nat
  cueTime : Nat
  rate : Nat
  pause : Bool
  lag : Nat
  set : PerChannel Bool
  overtaken : Bool
  path : PerChannel (Option Int)
  untaken : PerChannel Bool
  spans : PerChannel (Option Span)
  frameWait : Option Nat
  deriving DecidableEq, Repr

/-! ## Lens Controller -/

/-- R156. -/
structure MapPoint where
  distance : Nat
  count : Nat
  deriving DecidableEq, Repr

/-- R156: a pair of limits of a lens map. -/
structure LimitPair where
  lo : Nat
  hi : Nat
  deriving DecidableEq, Repr

/-- R156. -/
structure LensMap where
  tag : BitVec 16
  points : List MapPoint
  iris : Option LimitPair
  zoom : Option LimitPair
  deriving DecidableEq, Repr

/-- R161. The state FRESH or STALE follows from age and max age. -/
structure Target where
  number : Nat
  x : Int
  y : Int
  z : Int
  maxAge : Nat
  age : Nat
  deriving DecidableEq, Repr

/-- R164. -/
structure Tracking where
  state : TrackState
  target : Option Nat
  distance : Option Nat
  count : Option Nat
  range : Bool
  deriving DecidableEq, Repr

/-- The Lens Controller: banks (R156), selected bank (R159), targets (R161), tracking record (R164). -/
structure LensRecord where
  banks : PerFour (Option LensMap)
  selected : Option (Fin 4)
  targets : List Target
  tracking : Tracking
  deriving DecidableEq, Repr

/-! ## Console Link and Notice Unit -/

/-- R174: the receiver states. -/
inductive Receiver
  | unaddressed
  | addressed (origin : Origin)
  | receiving (origin : Origin)
  | answering
  deriving DecidableEq, Repr

/-- R181: a supervision timer. -/
inductive LinkTimer
  | disarmed
  | stopped
  | running (elapsed period : Nat)
  deriving DecidableEq, Repr

/-- The Console Link: receiver, receive frame buffer (R174, R178), gap count running (R176), DE output (R178),
held unit address and bit rate code (R173), supervision timers (R181). -/
structure LinkRecord where
  receiver : Receiver
  buffer : List Byte
  gapRunning : Bool
  de : Bool
  address : Nat
  rate : BitVec 2
  periodic : LinkTimer
  noticeTimer : LinkTimer
  deriving DecidableEq, Repr

/-- R31: the added item of a STATE detail. -/
inductive StateExtra
  | none
  | armFail (channel : Chan)
  | reset (kind : ResetKind)
  deriving DecidableEq, Repr

/-- R185, R200: the detail of the STATE source. -/
structure StateDetail where
  state : CraneState
  first : Option CauseDetail
  extra : StateExtra
  deriving DecidableEq, Repr

/-- R74, R200: the detail of the ZONE source; `occupied` is none for a zone on line 0. -/
structure ZoneDetail where
  zone : Nat
  band : Band
  occupied : Option Bool
  deriving DecidableEq, Repr

/-- R154, R200: the detail of the TAKE source. -/
structure TakeDetail where
  take : Nat
  state : EngineState
  result : TakeResult
  cueIndex : Nat
  deriving DecidableEq, Repr

/-- R27, R200: the detail of the MOVE source; `reached` or else INTERRUPTED. -/
structure MoveDetail where
  mask : ChannelMask
  reached : Bool
  deriving DecidableEq, Repr

/-- R170, R200: the detail of the TRACK source. -/
structure TrackDetail where
  state : TrackState
  range : Bool
  target : Option Nat
  deriving DecidableEq, Repr

/-- R200: a line set. Bit 0 is ESTOP1, 1 ESTOP2, 2 GRIP, 3 to 10 OT1 to OT8, 11 to 22 PRES1 to PRES12,
23 FRAME present. -/
abbrev LineSet := BitVec 24

/-- R185: one notice source: pending when it holds a detail. -/
structure NoticeSource (δ : Type) where
  detail : Option δ
  overrun : Bool
  deriving DecidableEq, Repr

/-- The Notice Unit: the six sources (R185), the mask with source k in bit k − 1 (R187, R194), and the ATTN
output (R187; `true` is asserted). -/
structure NoticeUnit where
  state : NoticeSource StateDetail
  zone : NoticeSource ZoneDetail
  take : NoticeSource TakeDetail
  move : NoticeSource MoveDetail
  track : NoticeSource TrackDetail
  input : NoticeSource LineSet
  mask : Byte
  attn : Bool
  deriving DecidableEq, Repr

/-! ## Power, retention and reset -/

/-- Main power and RESET (R46), the backup supply and the retention RAM's validity mark (R45), and the reset fields of
IDENT (R48). -/
structure PowerRecord where
  mainOn : Bool
  resetLow : Bool
  backupOn : Bool
  retentionValid : Bool
  lastKind : ResetKind
  lastCause : ResetCause
  survived : Bool
  deriving DecidableEq, Repr

/-- The whole part. `driveBus` is the nine command records last sent (R12, R196; empty while the bus is silent);
`freeCount` is the model's own counter for free values (log entry 1); `pending` is the queue of commands. -/
structure State where
  config : ConfigItems
  channels : PerChannel Channel
  moves : List ConsoleMove
  wheels : PerFour WheelInput
  driveBus : List (List Byte)
  crane : CraneRecord
  head : HeadPoint
  presence : PerLine PresenceLine
  zoneMonitor : ZoneMonitor
  stops : StopRecord
  marks : List Mark
  takes : List Take
  engine : Engine
  lens : LensRecord
  link : LinkRecord
  notices : NoticeUnit
  power : PowerRecord
  freeCount : Nat
  pending : List Instr
  deriving DecidableEq, Repr

/-- The machine has no fault: every command has an effect, or leaves the state as it is. -/
inductive Fault
  deriving DecidableEq, Repr

/-- Reasons for which a command has no meaning. -/
inductive Refusal
  /-- Raised only by an arm of `exec` whose command has no meaning yet. Safe: the machine stops. No arm of this
  model raises it. -/
  | notModelled (mnemonic : String)
  deriving DecidableEq, Repr

/-! ## The state after reset -/

/-- R1: the cold-reset defaults. -/
def defaultChannelConfig : PerChannel ChannelConfig where
  track := ⟨0, 200000, 20000, 40, 80, 500, 4, false⟩
  swing := ⟨-30000, 30000, 8192, 16, 32, 364, 3, false⟩
  boom := ⟨-8192, 12288, 4096, 8, 16, 364, 2, false⟩
  reach := ⟨0, 60000, 10000, 20, 40, 500, 1, false⟩
  pan := ⟨-32768, 32767, 16384, 64, 128, 364, 5, false⟩
  tilt := ⟨-16384, 16384, 16384, 64, 128, 364, 5, false⟩
  focus := ⟨0, 65535, 40000, 200, 400, 2000, 6, true⟩
  iris := ⟨0, 65535, 20000, 100, 200, 2000, 6, true⟩
  zoom := ⟨0, 65535, 30000, 150, 300, 2000, 6, true⟩

/-- R190 with R1, R19, R32, R54, R62, R77, R82, R134, R181: the defaults of every configuration item. -/
def defaultConfig : ConfigItems where
  slotDuration := 250
  wheelIdle := 1000
  stopDeadline := 2000
  rateSlew := 16
  creep := 64
  armBase := 30000
  pivotHeight := 15000
  headRadius := 3000
  supervisionPeriod := 1000
  supervisionMode := .periodic
  channels := defaultChannelConfig
  lines := .ofFn fun _ => ⟨.highOccupied, 2000⟩

/-- R2: a channel's dynamic record after either reset. -/
def resetChannel : Channel where
  drive := .off
  commanded := false
  faultPresent := false
  mode := .hold
  owner := .none
  setpoint := 0
  fraction := 0
  velocity := 0
  demand := none
  target := none
  feedback := 0
  known := false
  stale := 0
  stopDecel := false
  atLimit := false
  outside := false
  inhibitMinus := false
  inhibitPlus := false
  inPosition := false

/-- R21: a wheel after a cold reset. -/
def resetWheel : WheelInput := ⟨none, 256, 0, 0, none⟩

/-- A line filter holding three equal samples. -/
def steadyFilter (b : Bool) : LineFilter := ⟨b, b, b, b, false⟩

/-- R62: a presence line after either reset. -/
def resetPresence : PresenceLine := ⟨steadyFilter true, true, none⟩

/-- No cause. -/
def noCauses : PerCause := ⟨none, none, none, none, none, none, none, none⟩

/-- R82, R83: the Stop Monitor's record after either reset. -/
def resetStops : StopRecord where
  conditions := noCauses
  latches := noCauses
  first := none
  deadlineTimer := none
  discrepancyTimer := none
  discrepancy := false
  bothOpenSeen := false
  retreatSet := []
  breachSet := []
  estop1 := steadyFilter false
  estop2 := steadyFilter false
  grip := steadyFilter false
  overtravel := .ofFn fun _ => steadyFilter false
  frame := ⟨false, false, 0⟩

/-- No channel. -/
def noChannels : PerChannel Bool := .ofFn fun _ => false

/-- R134: the engine record after either reset. -/
def resetEngine : Engine where
  state := .idle
  take := none
  cueIndex := 0
  cueTime := 0
  rate := 0
  pause := false
  lag := 0
  set := noChannels
  overtaken := false
  path := .ofFn fun _ => none
  untaken := noChannels
  spans := .ofFn fun _ => none
  frameWait := none

/-- R164: the tracking record after either reset. -/
def resetTracking : Tracking := ⟨.off, none, none, none, false⟩

/-- R173: the unit address the straps give. -/
def strapAddress (a : BitVec 5) : Nat := if a = 0 then 1 else a.toNat

/-- R173, R174, R181: the Console Link after either reset. -/
def resetLink (straps : Straps) : LinkRecord where
  receiver := .unaddressed
  buffer := []
  gapRunning := false
  de := false
  address := strapAddress straps.address
  rate := straps.rate
  periodic := .disarmed
  noticeTimer := .disarmed

/-- R48, R185, R187: the Notice Unit after a reset of the given kind: STATE alone is pending, every source is
enabled, ATTN is asserted. -/
def resetNotices (kind : ResetKind) : NoticeUnit where
  state := ⟨some ⟨.parked, none, .reset kind⟩, false⟩
  zone := ⟨none, false⟩
  take := ⟨none, false⟩
  move := ⟨none, false⟩
  track := ⟨none, false⟩
  input := ⟨none, false⟩
  mask := 0x3F#8
  attn := true

/-- R30, R35: the crane state record after either reset. -/
def resetCrane : CraneRecord := ⟨.parked, false, none, 0, .none, .ofFn fun _ => true⟩

/-- R47: the part right after a cold reset of the given cause with the given strap levels. -/
def State.coldReset (cause : ResetCause) (straps : Straps) : State where
  config := defaultConfig
  channels := .ofFn fun _ => resetChannel
  moves := []
  wheels := .ofFn fun _ => resetWheel
  driveBus := []
  crane := resetCrane
  head := ⟨0, 0, 0, false⟩
  presence := .ofFn fun _ => resetPresence
  zoneMonitor := ⟨[], 0, none⟩
  stops := resetStops
  marks := []
  takes := []
  engine := resetEngine
  lens := ⟨.ofFn fun _ => none, none, [], resetTracking⟩
  link := resetLink straps
  notices := resetNotices .cold
  power := ⟨true, false, true, true, .cold, cause, false⟩
  freeCount := 0
  pending := []

/-- The part after its first power-up with an invalid retention RAM (R44, R47): a cold reset with every strap
low, so that the unit address is 1 (R173). The strap levels are a choice of the model (log entry 4). -/
def State.reset : State := State.coldReset .powerInvalid ⟨0#5, 0#2⟩

end Sys2Proof.Machine
end

