-- ==== Sys2Proof/Machine/Basics.lean ====
section
/-! DEFINITION. Numbering and grouping of the channels, masks, the integer arithmetic of the manual (clamps, the
floor square root, the two roundings), and the three-sample majority filter. -/

namespace Sys2Proof.Machine

/-! ## Channels (R1) -/

def chanIndex : Chan → Nat
  | .track => 0
  | .swing => 1
  | .boom => 2
  | .reach => 3
  | .pan => 4
  | .tilt => 5
  | .focus => 6
  | .iris => 7
  | .zoom => 8

def allChans : List Chan := [.track, .swing, .boom, .reach, .pan, .tilt, .focus, .iris, .zoom]

/-- The channel of an index 0 to 8; none beyond. -/
def chanOfIndex (n : Nat) : Option Chan := allChans[n]?

def groupOf : Chan → Group
  | .track | .swing | .boom | .reach => .arm
  | .pan | .tilt => .head
  | .focus | .iris | .zoom => .lens

def isArm (c : Chan) : Bool := groupOf c == .arm
def isHead (c : Chan) : Bool := groupOf c == .head
def isLens (c : Chan) : Bool := groupOf c == .lens

/-- ARM or HEAD: the channels that stops bring to standstill and that GRIP bears on. -/
def isBody (c : Chan) : Bool := !isLens c

/-- R1: the overtake flag is fixed by group. -/
def overtakeFlag (c : Chan) : Bool := !isArm c

/-- R1: the brake output of an ARM channel; index 0 is BRAKE1. -/
def brakeOf : Chan → Option (Fin 4)
  | .track => some 0
  | .swing => some 1
  | .boom => some 2
  | .reach => some 3
  | _ => none

/-! ## Channel masks (R194) -/

def maskHas (m : ChannelMask) (c : Chan) : Bool := m.getLsbD (chanIndex c)

/-- The mask that names the channels of a set. -/
def maskOf (p : PerChannel Bool) : ChannelMask :=
  allChans.foldl (fun m c => if p.get c then m ||| (1#16 <<< chanIndex c) else m) 0#16

/-- The set of channels that a mask names; bits 9 to 15 name none. -/
def setOfMask (m : ChannelMask) : PerChannel Bool := .ofFn (maskHas m)

/-- R194: a mask with any of bits 9 to 15 set, or naming no channel, is refused BAD_OPERAND. -/
def maskValid (m : ChannelMask) : Bool := m != 0#16 && decide (m.toNat < 512)

/-- R180: the number of members that the mask names, whatever their index. -/
def maskCount (m : ChannelMask) : Nat := ((List.range 16).filter fun i => m.getLsbD i).length

/-- The channels that a mask names, in index order. -/
def maskChans (m : ChannelMask) : List Chan := allChans.filter (maskHas m)

/-- True when some channel of the set is an ARM channel. -/
def setHasArm (p : PerChannel Bool) : Bool := allChans.any fun c => p.get c && isArm c

/-- True when some channel of the set is an ARM or HEAD channel. -/
def setHasBody (p : PerChannel Bool) : Bool := allChans.any fun c => p.get c && isBody c

def setEmpty (p : PerChannel Bool) : Bool := allChans.all fun c => !p.get c

/-! ## Arithmetic -/

/-- A value brought within lo to hi. -/
def clampInt (lo hi v : Int) : Int := if v < lo then lo else if hi < v then hi else v

/-- Division truncated toward zero. -/
def truncDiv (a b : Int) : Int := Int.tdiv a b

/-- Division rounded toward minus infinity; every divisor of the manual is positive. -/
def floorDiv (a b : Int) : Int := a / b

/-- The search of `isqrt`: the bits of the root from `k − 1` down, `m` being the part found so far. -/
def isqrtBits (n : Nat) : Nat → Nat → Nat
  | 0, m => m
  | k + 1, m => if (m + 2 ^ k) * (m + 2 ^ k) ≤ n then isqrtBits n k (m + 2 ^ k) else isqrtBits n k m

/-- R60: the greatest integer whose square does not exceed n, for n up to 2^64 − 1; R61: a greater operand is
taken as 2^64 − 1. -/
def isqrt (n : Nat) : Nat := isqrtBits (min n (2 ^ 64 - 1)) 32 0

/-! ## The majority filter (R63, R83) -/

def majority (a b c : Bool) : Bool := (a && b) || (a && c) || (b && c)

/-- One sample taken into a filter: the oldest leaves, the filtered state becomes the majority, and a change of it
sets the change flag. -/
def filterSample (f : LineFilter) (sample : Bool) : LineFilter :=
  let m := majority f.mid f.new sample
  ⟨f.mid, f.new, sample, m, f.changed || (m != f.filtered)⟩

/-! ## Tables keyed by number, in ascending order (R66, R106, R119, R161) -/

/-- A record stored under its number: in place of the one that has it, or at its place in the order. -/
def upsert {α : Type} (key : α → Nat) (x : α) : List α → List α
  | [] => [x]
  | y :: ys =>
    if key x < key y then x :: y :: ys
    else if key x = key y then x :: ys
    else y :: upsert key x ys

/-- The record of a number removed. -/
def eraseKey {α : Type} (key : α → Nat) (n : Nat) (xs : List α) : List α := xs.filter fun x => key x != n

end Sys2Proof.Machine
end

