-- ==== Sys2Proof/Machine/Flags.lean ====
section
/-! DEFINITION. The flags: AT_LIMIT, OUTSIDE and the barred directions of a channel (R6, R9, R10), the sets of
causes, notice sources and input lines that replies and notices carry (R194, R200), and the ATTN line (R187). -/

namespace Sys2Proof.Machine

/-- R9: the setpoint lies outside lo to hi. -/
def outsideOf (lo hi setpoint : Int) : Bool := decide (setpoint < lo) || decide (hi < setpoint)

/-- The setpoint stands exactly on a limit. -/
def onLimit (lo hi setpoint : Int) : Bool := decide (setpoint = lo) || decide (setpoint = hi)

/-- R9: a positive demand or velocity is barred by INHIBIT_PLUS, a negative one by INHIBIT_MINUS. -/
def inhibited (r : Channel) (v : Int) : Bool :=
  (decide (0 < v) && r.inhibitPlus) || (decide (v < 0) && r.inhibitMinus)

/-- R4, R9: v points toward the outside of a limit beyond which the channel already stands. -/
def outward (lo hi setpoint v : Int) : Bool :=
  (decide (0 < v) && decide (hi < setpoint)) || (decide (v < 0) && decide (setpoint < lo))

/-- R9: the new setpoint lies further beyond the limit that the old one is outside of. -/
def furtherOutside (lo hi old new : Int) : Bool :=
  (decide (hi < old) && decide (old < new)) || (decide (old < lo) && decide (new < old))

/-- R9: OUTSIDE as the setpoint stands, where a reply or the enabling of the drive has set it. AT_LIMIT waits for the next
update (R6). -/
def withOutside (lo hi : Int) (r : Channel) : Channel := { r with outside := outsideOf lo hi r.setpoint }

/-- R6, R9, R10: the flags of a channel at an update, or under its (new) limits in force: OUTSIDE follows the setpoint,
AT_LIMIT clears off both limits. -/
def withLimits (lo hi : Int) (r : Channel) : Channel :=
  { r with outside := outsideOf lo hi r.setpoint, atLimit := r.atLimit && onLimit lo hi r.setpoint }

/-- R197: the status flags of a channel record. -/
def statusFlags (r : Channel) (inMove : Bool) : Byte :=
  (if r.atLimit then 0x01#8 else 0#8) ||| (if r.outside then 0x02#8 else 0#8) |||
    (if r.inhibitMinus then 0x04#8 else 0#8) ||| (if r.inhibitPlus then 0x08#8 else 0#8) |||
    (if r.stopDecel then 0x10#8 else 0#8) ||| (if inMove then 0x20#8 else 0#8) |||
    (if r.inPosition then 0x40#8 else 0#8) ||| (if r.known then 0x80#8 else 0#8)

/-! ## Causes -/

def causeOf : CauseDetail → Cause
  | .estop .. => .estop
  | .overtravel .. => .overtravel
  | .drive .. => .drive
  | .deadline => .deadline
  | .zone .. => .zone
  | .grip .. => .grip
  | .link .. => .link
  | .request .. => .request

def allCauses : List Cause := [.estop, .overtravel, .drive, .deadline, .zone, .grip, .link, .request]

/-- R84: true for the causes of category A. -/
def categoryA : Cause → Bool
  | .estop | .overtravel | .drive | .deadline => true
  | .zone | .grip | .link | .request => false

def getCause (p : PerCause) : Cause → Option CauseDetail
  | .estop => p.estop
  | .overtravel => p.overtravel
  | .drive => p.drive
  | .deadline => p.deadline
  | .zone => p.zone
  | .grip => p.grip
  | .link => p.link
  | .request => p.request

def setCause (p : PerCause) (c : Cause) (d : Option CauseDetail) : PerCause :=
  match c with
  | .estop => { p with estop := d }
  | .overtravel => { p with overtravel := d }
  | .drive => { p with drive := d }
  | .deadline => { p with deadline := d }
  | .zone => { p with zone := d }
  | .grip => { p with grip := d }
  | .link => { p with link := d }
  | .request => { p with request := d }

/-- R194: the set of causes that hold a detail, cause k in bit k − 1. -/
def causeSet (p : PerCause) : Byte :=
  (if p.estop.isSome then 0x01#8 else 0#8) ||| (if p.overtravel.isSome then 0x02#8 else 0#8) |||
    (if p.drive.isSome then 0x04#8 else 0#8) ||| (if p.deadline.isSome then 0x08#8 else 0#8) |||
    (if p.zone.isSome then 0x10#8 else 0#8) ||| (if p.grip.isSome then 0x20#8 else 0#8) |||
    (if p.link.isSome then 0x40#8 else 0#8) ||| (if p.request.isSome then 0x80#8 else 0#8)

/-- No latch is set. -/
def noneLatched (p : PerCause) : Bool := allCauses.all fun c => (getCause p c).isNone

/-! ## Notice sources -/

/-- R194: the set of pending sources, source k in bit k − 1, masked ones included. -/
def pendingSources (n : NoticeUnit) : Byte :=
  (if n.state.detail.isSome then 0x01#8 else 0#8) ||| (if n.zone.detail.isSome then 0x02#8 else 0#8) |||
    (if n.take.detail.isSome then 0x04#8 else 0#8) ||| (if n.move.detail.isSome then 0x08#8 else 0#8) |||
    (if n.track.detail.isSome then 0x10#8 else 0#8) ||| (if n.input.detail.isSome then 0x20#8 else 0#8)

/-- R187: ATTN is asserted while any enabled source is pending. -/
def attnWanted (n : NoticeUnit) : Bool := (pendingSources n &&& n.mask) != 0#8

/-- The Notice Unit with ATTN following the sources and the mask. -/
def withAttn (n : NoticeUnit) : NoticeUnit := { n with attn := attnWanted n }

/-! ## Line sets (R200) -/

/-- A line set from one Boolean for each input line. -/
def lineSet (e1 e2 g : Bool) (ot : Fin 8 → Bool) (pres : Fin 12 → Bool) (frame : Bool) : LineSet :=
  let bits : List Bool :=
    [e1, e2, g, ot 0, ot 1, ot 2, ot 3, ot 4, ot 5, ot 6, ot 7, pres 0, pres 1, pres 2, pres 3, pres 4, pres 5,
      pres 6, pres 7, pres 8, pres 9, pres 10, pres 11, frame]
  BitVec.ofNat 24 (bits.foldr (fun b n => b.toNat + 2 * n) 0)

/-- The lines whose change flags stand set (R63, R83). -/
def changeFlags (s : State) : LineSet :=
  lineSet s.stops.estop1.changed s.stops.estop2.changed s.stops.grip.changed
    (fun i => (s.stops.overtravel.get i).changed) (fun i => (s.presence.get i).filter.changed)
    s.stops.frame.changed

/-- R199: the states of the input lines as INPUTS reports them. -/
def lineStates (s : State) : LineSet :=
  lineSet s.stops.estop1.filtered s.stops.estop2.filtered s.stops.grip.filtered
    (fun i => (s.stops.overtravel.get i).filtered) (fun i => (s.presence.get i).filter.filtered)
    s.stops.frame.present

end Sys2Proof.Machine
end

