-- ==== Sys2Proof/Machine/Format.lean ====
section
/-! DEFINITION. The codings of chapter 11: enumerations (R194), multi-byte fields, cause and notice details
(R194, R200), the drive records (R196) and the check byte (R175, R195). The record layouts that need the whole
state stand with their blocks. -/

namespace Sys2Proof.Machine

/-! ## Fields (R194): most significant byte first -/

def u8 (n : Nat) : List Byte := [BitVec.ofNat 8 n]
def u16 (n : Nat) : List Byte := [BitVec.ofNat 8 (n / 256), BitVec.ofNat 8 n]
def u32 (n : Nat) : List Byte :=
  [BitVec.ofNat 8 (n / 16777216), BitVec.ofNat 8 (n / 65536), BitVec.ofNat 8 (n / 256), BitVec.ofNat 8 n]

def flagByte (b : Bool) : List Byte := [if b then 0x01#8 else 0x00#8]

def int32Max : Int := 2147483647
def int32Min : Int := -2147483648

/-- A signed 32-bit field, two's complement. A value that the field cannot hold has no stated coding (log
entry 2). -/
def s32 (v : Int) : List Byte :=
  if int32Min ≤ v ∧ v ≤ int32Max then u32 (BitVec.ofInt 32 v).toNat else u32 (Config.wideField v).toNat

/-- A 32-bit field saturated at its ends (R56). -/
def s32Saturated (v : Int) : List Byte := s32 (clampInt int32Min int32Max v)

def maskBytes (m : ChannelMask) : List Byte := u16 m.toNat

/-- Reading fields: a value from its bytes, most significant first. -/
def readWord (bytes : List Byte) : Nat := bytes.foldl (fun n b => n * 256 + b.toNat) 0

/-! ## Enumerations (R194) -/

def craneCode : CraneState → Byte
  | .parked => 0#8
  | .arming => 1#8
  | .ready => 2#8
  | .stopping => 3#8
  | .halted => 4#8
  | .tripped => 5#8
  | .parking => 6#8

def ownerCode : Owner → Byte
  | .none => 0#8
  | .console => 1#8
  | .wheel => 2#8
  | .take => 3#8
  | .track => 4#8

def modeCode : Mode → Byte
  | .hold => 0#8
  | .velocity => 1#8
  | .position => 2#8
  | .path => 3#8

def driveCode : DriveState → Byte
  | .off => 0#8
  | .enabling => 1#8
  | .active => 2#8
  | .fault => 3#8

def engineCode : EngineState → Byte
  | .idle => 0#8
  | .cueing => 1#8
  | .armed => 2#8
  | .waitFrame => 3#8
  | .playing => 4#8
  | .paused => 5#8

def takeResultCode : TakeResult → Byte
  | .none => 0#8
  | .done => 1#8
  | .slowed => 2#8
  | .partial_ => 3#8
  | .stopped => 4#8
  | .aborted => 5#8
  | .failed => 6#8

def trackCode : TrackState → Byte
  | .off => 0#8
  | .active => 1#8
  | .suspended => 2#8

def zoneKindCode : ZoneKind → Byte
  | .guard => 0#8
  | .slow => 1#8

def bandCode : Band → Byte
  | .clear => 0#8
  | .slow => 1#8
  | .stop => 2#8

def curveCode : Curve → Byte
  | .linear => 0#8
  | .ease => 1#8

def causeCode : Cause → Byte
  | .estop => 1#8
  | .overtravel => 2#8
  | .drive => 3#8
  | .deadline => 4#8
  | .zone => 5#8
  | .grip => 6#8
  | .link => 7#8
  | .request => 8#8

def resetKindCode : ResetKind → Byte
  | .cold => 0#8
  | .warm => 1#8

def resetCauseCode : ResetCause → Byte
  | .powerInvalid => 0#8
  | .powerValid => 1#8
  | .resetHold => 2#8
  | .resetPulse => 3#8

/-- R180. -/
def resultByte : ResultCode → Byte
  | .ok => 0#8
  | .clamped => 1#8
  | .badLength => 2#8
  | .badCode => 3#8
  | .badOperand => 4#8
  | .notFound => 5#8
  | .exists_ => 6#8
  | .full => 7#8
  | .inUse => 8#8
  | .locked => 9#8
  | .occupied => 10#8
  | .state => 11#8
  | .owned => 12#8
  | .moving => 13#8
  | .causeActive => 14#8
  | .latched => 15#8
  | .noGrip => 16#8
  | .tooFast => 17#8
  | .noMap => 18#8

def chanByte (c : Chan) : Byte := BitVec.ofNat 8 (chanIndex c)

def originCode : Origin → Byte
  | .unit => 0#8
  | .broadcast => 1#8

def driveKindCode : DriveKind → Byte
  | .fault => 0#8
  | .stale => 1#8
  | .following => 2#8
  | .dropout => 3#8

def linkKindCode : LinkKind → Byte
  | .supervision => 0#8
  | .notice => 1#8

/-! ## Details -/

/-- R194: the two bytes a and b of a cause detail. -/
def causeDetailBytes : CauseDetail → List Byte
  | .estop o1 o2 d => [(if o1 then 1#8 else 0#8) ||| (if o2 then 2#8 else 0#8), if d then 1#8 else 0#8]
  | .overtravel c plus => [chanByte c, if plus then 1#8 else 0#8]
  | .drive c k => [chanByte c, driveKindCode k]
  | .deadline => [0#8, 0#8]
  | .zone n => [BitVec.ofNat 8 n, 0#8]
  | .grip (some c) => [chanByte c, 0#8]
  | .grip none => [0xFF#8, 0#8]
  | .link k => [linkKindCode k, 0#8]
  | .request o => [originCode o, 0#8]

/-- R198: an absent detail is coded 0, 0. -/
def optCauseBytes : Option CauseDetail → List Byte
  | none => [0#8, 0#8]
  | some d => causeDetailBytes d

/-- R198: the first cause and its detail; none is 0 with detail 0, 0. -/
def firstCauseBytes : Option CauseDetail → List Byte
  | none => [0#8, 0#8, 0#8]
  | some d => causeCode (causeOf d) :: causeDetailBytes d

/-- R200. -/
def stateDetailBytes (d : StateDetail) : List Byte :=
  craneCode d.state :: firstCauseBytes d.first ++
    (match d.extra with
     | .none => [0#8, 0#8]
     | .armFail c => [1#8, chanByte c]
     | .reset k => [2#8, resetKindCode k])

/-- R200. -/
def zoneDetailBytes (d : ZoneDetail) : List Byte :=
  [BitVec.ofNat 8 d.zone, bandCode d.band,
    match d.occupied with
    | none => 2#8
    | some true => 1#8
    | some false => 0#8]

/-- R200. -/
def takeDetailBytes (d : TakeDetail) : List Byte :=
  [BitVec.ofNat 8 d.take, engineCode d.state, takeResultCode d.result, BitVec.ofNat 8 d.cueIndex]

/-- R200. -/
def moveDetailBytes (d : MoveDetail) : List Byte :=
  maskBytes d.mask ++ [if d.reached then 0#8 else 1#8]

/-- R200. -/
def trackDetailBytes (d : TrackDetail) : List Byte :=
  [trackCode d.state, (if d.range then 1#8 else 0#8), BitVec.ofNat 8 (d.target.getD 0)]

/-- R200: a line set is three bytes, bit 0 in the third. -/
def lineSetBytes (l : LineSet) : List Byte :=
  [BitVec.ofNat 8 (l.toNat / 65536), BitVec.ofNat 8 (l.toNat / 256), BitVec.ofNat 8 l.toNat]

/-- R199: a notice detail followed by bytes of 0 up to six bytes. -/
def padSix (b : List Byte) : List Byte := b ++ List.replicate (6 - b.length) 0#8

/-! ## Checks and drive records -/

/-- The sum of bytes modulo 256. -/
def byteSum (b : List Byte) : Byte := b.foldl (· + ·) 0#8

/-- R175, R195, R196: the check that makes the sum 0 modulo 256. -/
def checkByte (b : List Byte) : Byte := -byteSum b

/-- R195: LEN, the data bytes, and CHECK. -/
def framed (data : List Byte) : List Byte :=
  let b := BitVec.ofNat 8 data.length :: data
  b ++ [checkByte b]

/-- R196: the command record of one drive. -/
def driveCommand (c : Chan) (r : Channel) : List Byte :=
  let b := chanByte c :: (if r.commanded then 1#8 else 0#8) :: s32 r.setpoint
  b ++ [checkByte b]

/-- R196: the drive states that a reply may report. -/
inductive ReplyState
  | off | busy | active | fault
  deriving DecidableEq, Repr

/-- R196: a good reply's drive state and feedback; none for a corrupt record. -/
def readReply (c : Chan) : List Byte → Option (ReplyState × Int)
  | [n, st, f3, f2, f1, f0, check] =>
    if n = chanByte c ∧ byteSum [n, st, f3, f2, f1, f0, check] = 0#8 then
      let fb : Int := (BitVec.ofNat 32 (readWord [f3, f2, f1, f0])).toInt
      match st.toNat with
      | 0 => some (.off, fb)
      | 1 => some (.busy, fb)
      | 2 => some (.active, fb)
      | 3 => some (.fault, fb)
      | _ => none
    else none
  | _ => none

/-- R13: the reply of a drive that is missing or corrupt counts as a miss. -/
def goodReply (c : Chan) (reply : Option (List Byte)) : Option (ReplyState × Int) :=
  reply.bind (readReply c)

end Sys2Proof.Machine
end

