-- ==== Sys2Proof/Machine/Ops.lean ====
section
/-! DEFINITION. The named operations that the meanings share: reading and writing a channel, the limits in
force, raising notices (with the notice timer and ATTN), console moves, the release of a channel, the setting
off of tracking, the end step of a play, and a change of crane state. -/

namespace Sys2Proof.Machine

/-! ## Reading the state -/

/-- R46: the part is held in reset while main power is off or RESET is low. -/
def State.running (s : State) : Bool := s.power.mainOn && !s.power.resetLow

def State.chan (s : State) (c : Chan) : Channel := s.channels.get c
def State.setChan (s : State) (c : Chan) (r : Channel) : State := { s with channels := s.channels.set c r }
def State.cfg (s : State) (c : Chan) : ChannelConfig := s.config.channels.get c

/-- R83: GRIP as filtered. -/
def State.gripHeld (s : State) : Bool := s.stops.grip.filtered

def State.findMark (s : State) (n : Nat) : Option Mark := s.marks.find? fun m => m.number == n
def State.findTake (s : State) (n : Nat) : Option Take := s.takes.find? fun t => t.number == n
def State.findZone (s : State) (n : Nat) : Option Zone := s.zoneMonitor.zones.find? fun z => z.number == n
def State.findTarget (s : State) (n : Nat) : Option Target := s.lens.targets.find? fun t => t.number == n

/-- The occupancy of presence line 1 to 12 as it stands, be it published at a sample (R64) or made TRUE by a write of the
polarity (R65; log entry 32); line 0 has none. -/
def State.lineOccupied (s : State) (line : Nat) : Bool :=
  if h : 1 ≤ line ∧ line ≤ 12 then (s.presence.get ⟨line - 1, by omega⟩).occupancy else false

/-! ## Limits in force (R1, R159) -/

/-- The map of the selected bank, or none (R159). -/
def State.selectedMap (s : State) : Option LensMap := s.lens.selected.bind fun b => s.lens.banks.get b

/-- R156: the least and the greatest focus count among the points. -/
def focusSpan (m : LensMap) : Int × Int :=
  match m.points with
  | [] => (0, 65535)
  | p :: ps => (Int.ofNat (ps.foldl (fun a q => min a q.count) p.count),
      Int.ofNat (ps.foldl (fun a q => max a q.count) p.count))

/-- R159: the limits that the selected map gives a lens channel; none where the configured limits stand. -/
def mapLimits (m : LensMap) : Chan → Option (Int × Int)
  | .focus => some (focusSpan m)
  | .iris => m.iris.map fun p => (Int.ofNat p.lo, Int.ofNat p.hi)
  | .zoom => m.zoom.map fun p => (Int.ofNat p.lo, Int.ofNat p.hi)
  | _ => none

/-- R159: the soft limits in force, lo and hi. -/
def State.limits (s : State) (c : Chan) : Int × Int :=
  ((s.selectedMap.bind fun m => mapLimits m c).getD ((s.cfg c).lo, (s.cfg c).hi))

def State.lo (s : State) (c : Chan) : Int := (s.limits c).1
def State.hi (s : State) (c : Chan) : Int := (s.limits c).2

/-- R10: the limits in force act on the channel at once. -/
def applyLimits (s : State) (c : Chan) : State := s.setChan c (withLimits (s.lo c) (s.hi c) (s.chan c))

/-! ## The Notice Unit (R183, R185, R187) -/

/-- R185: a detail handed to a source: it becomes pending, or its detail is replaced with overrun set. -/
def raised {δ : Type} (src : NoticeSource δ) (d : δ) : NoticeSource δ := ⟨some d, src.detail.isSome⟩

/-- R183: STATE or ZONE is pending. -/
def watchedPending (n : NoticeUnit) : Bool := n.state.detail.isSome || n.zone.detail.isSome

/-- R181: the supervision timers have been armed. -/
def armed (l : LinkRecord) : Bool := l.periodic != .disarmed

/-- R183: a raise of STATE or ZONE that finds neither pending, while LINK is absent, starts the notice timer. -/
def startNoticeTimer (s : State) : State :=
  if s.config.supervisionMode = .periodicNotice ∧ armed s.link ∧ watchedPending s.notices = false ∧
      s.stops.conditions.link = none then
    { s with link := { s.link with noticeTimer := .running 0 s.config.supervisionPeriod } }
  else s

def setNotices (s : State) (n : NoticeUnit) : State := { s with notices := withAttn n }

def raiseState (d : StateDetail) (s : State) : State :=
  let s := startNoticeTimer s
  setNotices s { s.notices with state := raised s.notices.state d }

def raiseZone (d : ZoneDetail) (s : State) : State :=
  let s := startNoticeTimer s
  setNotices s { s.notices with zone := raised s.notices.zone d }

def raiseTake (d : TakeDetail) (s : State) : State :=
  setNotices s { s.notices with take := raised s.notices.take d }

def raiseMove (d : MoveDetail) (s : State) : State :=
  setNotices s { s.notices with move := raised s.notices.move d }

def raiseTrack (d : TrackDetail) (s : State) : State :=
  setNotices s { s.notices with track := raised s.notices.track d }

/-- R63, R83: the INPUT notice carries the lines whose change flags stand set. -/
def raiseInput (s : State) : State :=
  setNotices s { s.notices with input := raised s.notices.input (changeFlags s) }

/-! ## The crane state (R31, R43) -/

/-- R43: the retreat set is emptied and RETREAT clears. -/
def clearRetreat (s : State) : State :=
  { s with stops := { s.stops with retreatSet := [] }, crane := { s.crane with retreat := false } }

/-- A change of crane state: R43 at a leaving of READY, and the STATE notice of R31. -/
def enterCrane (st : CraneState) (extra : StateExtra) (s : State) : State :=
  let s := if s.crane.state = .ready ∧ st ≠ .ready then clearRetreat s else s
  let s := { s with crane := { s.crane with state := st } }
  raiseState ⟨st, s.stops.first, extra⟩ s

/-! ## Channel records -/

/-- R3: HOLD: velocity 0, neither demand nor target. -/
def holdChannel (r : Channel) : Channel :=
  { r with mode := .hold, velocity := 0, demand := none, target := none, stopDecel := false, inPosition := false }

/-- R14, R3: the part commands the drive off: the drive state becomes OFF at that command and the mode is HOLD. -/
def commandOff (r : Channel) : Channel := { holdChannel r with drive := .off, commanded := false }

/-- R20: the owner becomes NONE: HOLD at standstill, else VELOCITY with a demand of 0. -/
def releaseChannel (r : Channel) : Channel :=
  if r.velocity = 0 then { holdChannel r with owner := .none }
  else { r with owner := .none, mode := .velocity, demand := some 0, target := none, inPosition := false }

/-- R95, R97: a stop clears the owner: a moving channel gets stop deceleration, one at standstill goes to HOLD. -/
def stopChannel (r : Channel) : Channel :=
  if r.velocity = 0 then { holdChannel r with owner := .none }
  else { r with owner := .none, mode := .velocity, demand := some 0, target := none, inPosition := false,
                stopDecel := true }

/-- R8, R9: a channel in PATH mode takes the value last written for it. The value is clamped first, so that the bar of R9
on a step further outside is judged on the clamped value (log entry 27). -/
def takePath (lo hi w : Int) (r : Channel) : Channel :=
  let v := clampInt lo hi w
  let held := inhibited r (v - r.setpoint) || furtherOutside lo hi r.setpoint v
  let sp := if held then r.setpoint else v
  { r with
    setpoint := sp
    fraction := if held then r.fraction else 0
    velocity := (sp - r.setpoint) * 1000
    atLimit := decide (v ≠ w) || (r.atLimit && onLimit lo hi sp)
    outside := outsideOf lo hi sp }

/-- Apply a change to every channel. -/
def mapChannels (s : State) (f : Chan → Channel → Channel) : State :=
  { s with channels := .ofFn fun c => f c (s.chan c) }

/-! ## Console moves (R27) -/

def moveHits (hit : Chan → Bool) (m : ConsoleMove) : Bool := allChans.any fun c => m.remaining.get c && hit c

/-- R27: every open move that still holds one of these channels ends: it is removed and MOVE is raised with its
mask and INTERRUPTED, in the order of opening. -/
def interruptMoves (hit : Chan → Bool) (s : State) : State :=
  (s.moves.filter (moveHits hit)).foldl (fun s m => raiseMove ⟨m.mask, false⟩ s)
    { s with moves := s.moves.filter fun m => !moveHits hit m }

/-- R27: the channel leaves its move as reached; when it was the last, the move is removed and MOVE raised. -/
def reachMove (c : Chan) (s : State) : State :=
  let left := s.moves.map fun m => { m with remaining := m.remaining.set c false }
  (left.filter fun m => setEmpty m.remaining).foldl (fun s m => raiseMove ⟨m.mask, true⟩ s)
    { s with moves := left.filter fun m => !setEmpty m.remaining }

def State.inMove (s : State) (c : Chan) : Bool := s.moves.any fun m => m.remaining.get c

/-- R20, R27: the channel's owner becomes NONE and its open console move ends. -/
def releaseOwner (c : Chan) (s : State) : State :=
  interruptMoves (fun d => d == c) (s.setChan c (releaseChannel (s.chan c)))

/-! ## Tracking (R169) -/

/-- Tracking goes OFF, if it is on: target none, RANGE clear, TRACK raised. The owner of FOCUS is the caller's. -/
def trackingOff (s : State) : State :=
  if s.lens.tracking.state = .off then s
  else
    raiseTrack ⟨.off, false, none⟩
      { s with lens := { s.lens with tracking := { s.lens.tracking with state := .off, target := none, range := false } } }

/-! ## The end of a play (R109, R123, R153) -/

/-- The take's cues name this mark. -/
def namesMark (t : Take) (n : Nat) : Bool := t.cues.any fun q => q.mark == n

/-- R144, R123: the lag in whole milliseconds, rounded down and saturated. -/
def lagMs (lag : Nat) : Nat := min 65535 (lag / 1024)

/-- R123: the stored fields of a take after a play with this result and lag; it is no longer active. -/
def storePlay (result : TakeResult) (lag : Nat) (t : Take) : Take :=
  { t with
    lastResult := result
    lastLag := lagMs lag
    passCount := if result = .done ∨ result = .slowed ∨ result = .partial_ then min 65535 (t.passCount + 1) else t.passCount
    active := false }

/-- R109, R123: the Record Store's share of the end step: the stored fields are written and the marks unlocked. -/
def recordPlay (n : Nat) (result : TakeResult) (s : State) : State :=
  let names := fun (k : Nat) => (s.findTake n).any fun t => namesMark t k
  { s with
    takes := s.takes.map fun t => if t.number = n then storePlay result s.engine.lag t else t
    marks := s.marks.map fun m => if names m.number then { m with locked := false } else m }

/-- R153, step 2: the value last written, if no channel update has taken it yet; a value already taken is not taken again,
and leaves the velocity that its taking gave (R8, R11, R150; log entry 33). -/
def takeWritten (lo hi : Int) (written : Option Int) (untaken : Bool) (r : Channel) : Channel :=
  match written, untaken with
  | some w, true => takePath lo hi w r
  | _, _ => r

/-- R153, step 2: each channel of the set that TAKE still owns takes the value last written, and is released. -/
def releaseTakeChannels (s : State) : State :=
  mapChannels s fun c r =>
    if s.engine.set.get c ∧ r.owner = .take then
      releaseChannel (takeWritten (s.lo c) (s.hi c) (s.engine.path.get c) (s.engine.untaken.get c) r)
    else r

/-- R153, step 3. Cue index, cue time, rate and lag keep the values the play left (R134). -/
def engineIdle (e : Engine) : Engine :=
  { e with
    state := .idle
    take := none
    pause := false
    set := noChannels
    overtaken := false
    path := .ofFn fun _ => none
    untaken := noChannels
    spans := .ofFn fun _ => none
    frameWait := none }

/-- R153: the end step of every play. With no active take there is nothing to end. -/
def endTake (result : TakeResult) (s : State) : State :=
  match s.engine.take with
  | none => s
  | some n =>
    let s := releaseTakeChannels (recordPlay n result s)
    raiseTake ⟨n, .idle, result, s.engine.cueIndex⟩ { s with engine := engineIdle s.engine }

/-- R154: the TAKE notice of a running take: result NONE, or PARTIAL once a channel has been overtaken. -/
def raiseTakeRunning (s : State) : State :=
  raiseTake ⟨s.engine.take.getD 0, s.engine.state, if s.engine.overtaken then .partial_ else .none, s.engine.cueIndex⟩ s

/-! ## Replies -/

/-- What a request answers with: the result code and the payload (R178). -/
structure Reply where
  code : ResultCode
  payload : List Byte
  deriving DecidableEq, Repr

/-- R180: a refused request changes no state. -/
def refuse (s : State) (code : ResultCode) : State × Reply := (s, ⟨code, []⟩)

/-- An accepted request: result OK. -/
def accept (s : State) (payload : List Byte) : State × Reply := (s, ⟨.ok, payload⟩)

end Sys2Proof.Machine
end

