-- ==== Sys2Proof/Machine/Operands.lean ====
section
/-! DEFINITION. The operands of the requests: the request codes (R193), the reading of a frame's CODE and
operands as a request (R180, R199), and the CODE and operands that a request is sent with. -/

namespace Sys2Proof.Machine

/-! ## Operand bytes -/

def word16 (b1 b0 : Byte) : BitVec 16 := BitVec.ofNat 16 (b1.toNat * 256 + b0.toNat)

def word32 (b3 b2 b1 b0 : Byte) : BitVec 32 :=
  BitVec.ofNat 32 (((b3.toNat * 256 + b2.toNat) * 256 + b1.toNat) * 256 + b0.toNat)

def bytes16 (w : BitVec 16) : List Byte := u16 w.toNat
def bytes32 (w : BitVec 32) : List Byte := u32 w.toNat

/-- The 32-bit fields of a byte list, four bytes each; none when bytes are left over. -/
def words32 : List Byte → Option (List (BitVec 32))
  | [] => some []
  | b3 :: b2 :: b1 :: b0 :: rest => (words32 rest).map fun ws => word32 b3 b2 b1 b0 :: ws
  | _ => none

/-- The points of a lens map, six bytes each; none when bytes are left over. -/
def mapPoints : List Byte → Option (List MapPointOperands)
  | [] => some []
  | d3 :: d2 :: d1 :: d0 :: c1 :: c0 :: rest =>
    (mapPoints rest).map fun ps => ⟨word32 d3 d2 d1 d0, word16 c1 c0⟩ :: ps
  | _ => none

/-- The 12 bytes of a cue (R197). -/
def readCue : List Byte → Option CueOperands
  | [m, t3, t2, t1, t0, d3, d2, d1, d0, cv, k1, k0] =>
    some ⟨m, word32 t3 t2 t1 t0, word32 d3 d2 d1 d0, cv, word16 k1 k0⟩
  | _ => none

/-- The 35 bytes of ZONE_SET: three bytes and eight 32-bit fields (R197, R199). -/
def readZone : List Byte → Option ZoneOperands
  | n :: k :: l :: rest =>
    match words32 rest with
    | some [xl, xh, yl, yh, zl, zh, st, sl] => some ⟨n, k, l, xl, xh, yl, yh, zl, zh, st, sl⟩
    | _ => none
  | _ => none

/-- The operands of LENS_MAP_SET: 13 bytes and then six for each point counted (R197, R180). -/
def readLensMap : List Byte → Option LensMapOperands
  | b :: t1 :: t0 :: n :: f :: i1 :: i0 :: j1 :: j0 :: z1 :: z0 :: y1 :: y0 :: rest =>
    if rest.length = 6 * n.toNat then
      (mapPoints rest).map fun ps => ⟨b, word16 t1 t0, n, f, word16 i1 i0, word16 j1 j0, word16 z1 z0, word16 y1 y0, ps⟩
    else none
  | _ => none

/-- The fields counted by a mask: four bytes for each of its sixteen bits that is set (R180). -/
def maskedWords (mask : ChannelMask) (rest : List Byte) : Option (List (BitVec 32)) :=
  if rest.length = 4 * maskCount mask then words32 rest else none

/-! ## Reading a request (R180, tests 1 and 2) -/

/-- R193: the CODE names a request. -/
def knownCode (code : Byte) : Bool :=
  let n := code.toNat
  decide (1 ≤ n ∧ n ≤ 6) || decide (0x10 ≤ n ∧ n ≤ 0x17) || decide (0x20 ≤ n ∧ n ≤ 0x26) ||
    decide (0x30 ≤ n ∧ n ≤ 0x34) || decide (0x40 ≤ n ∧ n ≤ 0x4B) || decide (0x50 ≤ n ∧ n ≤ 0x58)

/-! The operand layouts of R199 by their sizes; each answers none when the number of bytes is another. -/

def noOperand (i : Instr) : List Byte → Option Instr
  | [] => some i
  | _ => none

def oneByte (f : Byte → Instr) : List Byte → Option Instr
  | [a] => some (f a)
  | _ => none

def twoBytes (f : Byte → Byte → Instr) : List Byte → Option Instr
  | [a, b] => some (f a b)
  | _ => none

def oneMask (f : ChannelMask → Instr) : List Byte → Option Instr
  | [m1, m0] => some (f (word16 m1 m0))
  | _ => none

def byteWord16 (f : Byte → BitVec 16 → Instr) : List Byte → Option Instr
  | [a, m1, m0] => some (f a (word16 m1 m0))
  | _ => none

def byteWord32 (f : Byte → BitVec 32 → Instr) : List Byte → Option Instr
  | [a, v3, v2, v1, v0] => some (f a (word32 v3 v2 v1 v0))
  | _ => none

def twoBytesWord16 (f : Byte → Byte → BitVec 16 → Instr) : List Byte → Option Instr
  | [a, b, g1, g0] => some (f a b (word16 g1 g0))
  | _ => none

def byteTwoWords16 (f : Byte → BitVec 16 → BitVec 16 → Instr) : List Byte → Option Instr
  | [a, t1, t0, m1, m0] => some (f a (word16 t1 t0) (word16 m1 m0))
  | _ => none

def gotoOperands : List Byte → Option Instr
  | m1 :: m0 :: rest => (maskedWords (word16 m1 m0) rest).map fun ws => .goto (word16 m1 m0) ws
  | _ => none

def markSetOperands : List Byte → Option Instr
  | n :: t1 :: t0 :: m1 :: m0 :: rest =>
    (maskedWords (word16 m1 m0) rest).map fun ws => .markSet n (word16 t1 t0) (word16 m1 m0) ws
  | _ => none

def cueOperands (f : Byte → Byte → CueOperands → Instr) : List Byte → Option Instr
  | n :: k :: rest => (readCue rest).map fun q => f n k q
  | _ => none

def targetOperands (origin : Origin) : List Byte → Option Instr
  | [t, x3, x2, x1, x0, y3, y2, y1, y0, z3, z2, z1, z0, a1, a0] =>
    some (.targetSet origin t (word32 x3 x2 x1 x0) (word32 y3 y2 y1 y0) (word32 z3 z2 z1 z0) (word16 a1 a0))
  | _ => none

/-- R193, R199: the request that a known CODE and its operand bytes spell; none when their number is not the
layout's. -/
def readRequest (origin : Origin) (code : Byte) (ops : List Byte) : Option Instr :=
  match code.toNat with
  | 0x01 => noOperand .ident ops
  | 0x02 => noOperand .status ops
  | 0x03 => noOperand .notice ops
  | 0x04 => oneByte .noticeMask ops
  | 0x05 => byteWord32 .configSet ops
  | 0x06 => oneByte .configGet ops
  | 0x10 => noOperand .arm ops
  | 0x11 => noOperand .park ops
  | 0x12 => byteWord32 .jog ops
  | 0x13 => gotoOperands ops
  | 0x14 => byteWord16 .gotoMark ops
  | 0x15 => oneMask .release ops
  | 0x16 => oneByte .channelGet ops
  | 0x17 => twoBytesWord16 .wheelAssign ops
  | 0x20 => noOperand (.stop origin) ops
  | 0x21 => noOperand .ackStop ops
  | 0x22 => noOperand .inputs ops
  | 0x23 => (readZone ops).map .zoneSet
  | 0x24 => oneByte .zoneGet ops
  | 0x25 => noOperand .zoneList ops
  | 0x26 => oneByte .zoneRetire ops
  | 0x30 => markSetOperands ops
  | 0x31 => byteTwoWords16 .markCapture ops
  | 0x32 => oneByte .markGet ops
  | 0x33 => oneByte .markList ops
  | 0x34 => oneByte .markRetire ops
  | 0x40 => byteWord16 .takeCreate ops
  | 0x41 => cueOperands .takeCueInsert ops
  | 0x42 => cueOperands .takeCueReplace ops
  | 0x43 => twoBytes .takeCueDelete ops
  | 0x44 => twoBytes .takeGet ops
  | 0x45 => noOperand .takeList ops
  | 0x46 => oneByte .takeRetire ops
  | 0x47 => oneByte .takeArm ops
  | 0x48 => oneByte (.takeGo origin) ops
  | 0x49 => noOperand .takePause ops
  | 0x4A => noOperand .takeResume ops
  | 0x4B => noOperand .takeAbort ops
  | 0x50 => (readLensMap ops).map .lensMapSet
  | 0x51 => oneByte .lensMapGet ops
  | 0x52 => oneByte .lensMapRetire ops
  | 0x53 => oneByte .lensSelect ops
  | 0x54 => targetOperands origin ops
  | 0x55 => oneByte .targetGet ops
  | 0x56 => oneByte .targetRetire ops
  | 0x57 => oneByte .trackOn ops
  | 0x58 => noOperand .trackOff ops
  | _ => none

/-- R180: tests 1 and 2: the request, or BAD_CODE or BAD_LENGTH. -/
def decodeRequest (origin : Origin) (code : Byte) (ops : List Byte) : Except ResultCode Instr :=
  if knownCode code = false then .error .badCode
  else match readRequest origin code ops with
    | some i => .ok i
    | none => .error .badLength

/-- R179: the codes that are executed in a broadcast frame. -/
def broadcastCode (code : Byte) : Bool := (code == 0x20#8) || (code == 0x48#8) || (code == 0x54#8)

/-! ## Sending a request (R193, R199) -/

def cueBytes (q : CueOperands) : List Byte :=
  q.mark :: bytes32 q.travel ++ bytes32 q.dwell ++ [q.curve] ++ bytes16 q.mask

def zoneBytes (z : ZoneOperands) : List Byte :=
  [z.number, z.kind, z.line] ++ bytes32 z.xLo ++ bytes32 z.xHi ++ bytes32 z.yLo ++ bytes32 z.yHi ++
    bytes32 z.zLo ++ bytes32 z.zHi ++ bytes32 z.stopMargin ++ bytes32 z.slowMargin

def lensMapBytes (m : LensMapOperands) : List Byte :=
  m.bank :: bytes16 m.tag ++ [m.pointCount, m.limitFlags] ++ bytes16 m.irisLo ++ bytes16 m.irisHi ++
    bytes16 m.zoomLo ++ bytes16 m.zoomHi ++ m.points.flatMap fun p => bytes32 p.distance ++ bytes16 p.count

/-- CODE and operands of the frame that carries a request; none for a command that is not a request. -/
def requestBytes : Instr → Option (List Byte)
  | .ident => some [0x01#8]
  | .status => some [0x02#8]
  | .notice => some [0x03#8]
  | .noticeMask m => some [0x04#8, m]
  | .configSet i v => some (0x05#8 :: i :: bytes32 v)
  | .configGet i => some [0x06#8, i]
  | .arm => some [0x10#8]
  | .park => some [0x11#8]
  | .jog c v => some (0x12#8 :: c :: bytes32 v)
  | .goto m ps => some (0x13#8 :: bytes16 m ++ ps.flatMap bytes32)
  | .gotoMark n m => some (0x14#8 :: n :: bytes16 m)
  | .release m => some (0x15#8 :: bytes16 m)
  | .channelGet c => some [0x16#8, c]
  | .wheelAssign w c g => some (0x17#8 :: w :: c :: bytes16 g)
  | .stop _ => some [0x20#8]
  | .ackStop => some [0x21#8]
  | .inputs => some [0x22#8]
  | .zoneSet z => some (0x23#8 :: zoneBytes z)
  | .zoneGet n => some [0x24#8, n]
  | .zoneList => some [0x25#8]
  | .zoneRetire n => some [0x26#8, n]
  | .markSet n t m vs => some (0x30#8 :: n :: bytes16 t ++ bytes16 m ++ vs.flatMap bytes32)
  | .markCapture n t m => some (0x31#8 :: n :: bytes16 t ++ bytes16 m)
  | .markGet n => some [0x32#8, n]
  | .markList n => some [0x33#8, n]
  | .markRetire n => some [0x34#8, n]
  | .takeCreate n t => some (0x40#8 :: n :: bytes16 t)
  | .takeCueInsert n k q => some (0x41#8 :: n :: k :: cueBytes q)
  | .takeCueReplace n k q => some (0x42#8 :: n :: k :: cueBytes q)
  | .takeCueDelete n k => some [0x43#8, n, k]
  | .takeGet n k => some [0x44#8, n, k]
  | .takeList => some [0x45#8]
  | .takeRetire n => some [0x46#8, n]
  | .takeArm n => some [0x47#8, n]
  | .takeGo _ m => some [0x48#8, m]
  | .takePause => some [0x49#8]
  | .takeResume => some [0x4A#8]
  | .takeAbort => some [0x4B#8]
  | .lensMapSet m => some (0x50#8 :: lensMapBytes m)
  | .lensMapGet b => some [0x51#8, b]
  | .lensMapRetire b => some [0x52#8, b]
  | .lensSelect b => some [0x53#8, b]
  | .targetSet _ t x y z a => some (0x54#8 :: t :: bytes32 x ++ bytes32 y ++ bytes32 z ++ bytes16 a)
  | .targetGet t => some [0x55#8, t]
  | .targetRetire t => some [0x56#8, t]
  | .trackOn t => some [0x57#8, t]
  | .trackOff => some [0x58#8]
  | .unknownCode code ops => some (code :: ops)
  | .broadcastIgnored code ops => some (code :: ops)
  | .addressCharacter .. => none
  | .dataCharacter .. => none
  | .interCharacterGap => none
  | .lineBreak => none
  | .replyComplete => none
  | .periodicTimerExpiry => none
  | .noticeTimerExpiry => none
  | .consoleTimerEvent => none
  | .channelUpdate => none
  | .inPosition .. => none
  | .decelerationEnd .. => none
  | .wheelEdge .. => none
  | .wheelIdleRelease .. => none
  | .driveExchange .. => none
  | .slotEvent => none
  | .armingSlotEnd => none
  | .parkingSlotEnd => none
  | .geometryUpdate => none
  | .presenceSample .. => none
  | .occupancyRelease .. => none
  | .zoneEvaluation => none
  | .inputSample .. => none
  | .discrepancyLatch .. => none
  | .standstill => none
  | .deadlineExpiry .. => none
  | .frameEdge => none
  | .framePresentLapse .. => none
  | .engineMillisecond => none
  | .cueInComplete => none
  | .cueEnd => none
  | .pauseReached => none
  | .playEnd => none
  | .frameWaitExpiry => none
  | .lensUpdate => none
  | .targetStale .. => none
  | .resetAssert => none
  | .resetRelease .. => none
  | .powerLoss => none
  | .powerUp .. => none
  | .backupSupplyLoss => none

/-- How the frame of a request is addressed; only three requests are taken as broadcasts (R179). -/
def requestOrigin : Instr → Origin
  | .stop o => o
  | .takeGo o _ => o
  | .targetSet o _ _ _ _ _ => o
  | .broadcastIgnored _ _ => .broadcast
  | _ => .unit

/-! ## Operand values -/

/-- R194: a flag or an enumeration of two members. -/
def twoValued (b : Byte) : Option Bool :=
  if b = 0#8 then some false else if b = 1#8 then some true else none

def inRange (lo hi v : Int) : Bool := decide (lo ≤ v) && decide (v ≤ hi)
def natRange (lo hi v : Nat) : Bool := decide (lo ≤ v) && decide (v ≤ hi)

end Sys2Proof.Machine
end

