-- ==== Sys2Proof/Machine/Ownership.lean ====
section
/-! DEFINITION. Claims of ownership: the state restrictions and the GRIP test of R16, the owner test of R17, the
grant of R18 with what it tells the party that loses the channel, and the overtake of R151. -/

namespace Sys2Proof.Machine

/-- R16: the four parties. -/
inductive Party
  | console | wheel | take | track
  deriving DecidableEq, Repr

def partyOwner : Party → Owner
  | .console => .console
  | .wheel => .wheel
  | .take => .take
  | .track => .track

/-- R16: the state restrictions on a claim. -/
def claimAllowed (s : State) (c : Chan) : Bool :=
  match groupOf c with
  | .arm => s.crane.state == .ready
  | .head =>
    (s.crane.state == .ready) ||
      ((s.crane.state == .parked) && (s.cfg c).keepActive && ((s.chan c).drive == .active))
  | .lens => (s.chan c).drive == .active

/-- R17: the owner test; none grants. A wheel claim that is not granted has no result code of its own. -/
def ownerTest (p : Party) (c : Chan) (r : Channel) : Option ResultCode :=
  match p, r.owner with
  | _, .none => none
  | .console, .console => none
  | .console, _ => some .owned
  | .wheel, .take => if overtakeFlag c then none else some .owned
  | .wheel, _ => none
  | .take, .console => if r.velocity = 0 then none else some .moving
  | .take, _ => some .owned
  | .track, .console => if r.velocity = 0 then none else some .moving
  | .track, .track => none
  | .track, _ => some .owned

/-- R16: the code by which a claim on one channel is refused; none grants. `moves` says that a console claim would
move the channel. -/
def claimCode (p : Party) (moves : Bool) (s : State) (c : Chan) : Option ResultCode :=
  if claimAllowed s c = false then some .state
  else if p = .console ∧ moves ∧ isBody c ∧ s.gripHeld = false then some .noGrip
  else ownerTest p c (s.chan c)

/-- R16: all or none: the code of the lowest-indexed refused channel. -/
def claimAllCode (p : Party) (moves : Bool) (s : State) (cs : List Chan) : Option ResultCode :=
  cs.findSome? (claimCode p moves s)

/-- R18: the record of a channel granted to a party. Stop deceleration ends; the velocity carries over. -/
def grantRecord (p : Party) (mode : Mode) (demand target : Option Int) (r : Channel) : Channel :=
  { r with owner := partyOwner p, mode := mode, demand := demand, target := target, stopDecel := false, inPosition := false }

/-- R151: a channel overtaken by a wheel leaves the take; with the last one the take ends PARTIAL. -/
def overtake (c : Chan) (s : State) : State :=
  let e := s.engine
  let s := { s with engine := { e with 
    set := e.set.set c false, path := e.path.set c none, untaken := e.untaken.set c false, spans := e.spans.set c none
    overtaken := true } }
  if setEmpty s.engine.set then endTake .partial_ s else raiseTakeRunning s

/-- R18: the grant is reported to the party that lost the channel. -/
def reportLoss (p : Party) (c : Chan) (before : Owner) (s : State) : State :=
  match before with
  | .console => interruptMoves (fun d => d == c) s
  | .take => if p = .wheel then overtake c s else s
  | .track => if p = .track then s else trackingOff s
  | .wheel => s
  | .none => s

/-- R18: a granted claim on one channel. -/
def grant (p : Party) (mode : Mode) (demand target : Option Int) (c : Chan) (s : State) : State :=
  reportLoss p c (s.chan c).owner (s.setChan c (grantRecord p mode demand target (s.chan c)))

end Sys2Proof.Machine
end

