-- ==== Sys2Proof/Machine/Stops.lean ====
section
/-! DEFINITION. The rise of a stop cause: latch and first cause (R90, R91), the category A entry (R93), the
category B entries of READY and of the other states (R95, R97), the bringing to rest of console-owned lens
channels under LINK (R96), and the notices of R92. The parking slot's start stands here because a category B
cause in ARMING begins one (R38, R97). -/

namespace Sys2Proof.Machine

/-! ## Slots -/

/-- R40: the start of a parking slot: the brakes of the slot's ARM channels are applied, the slot timer starts. -/
def startParkingSlot (slot : Nat) (s : State) : State :=
  { s with crane := { s.crane with
      slotPointer := some slot
      slotTimer := 0
      brakes := allChans.foldl
        (fun b c => match brakeOf c with
          | some i => if (s.cfg c).releaseSlot = slot then b.set i true else b
          | none => b) s.crane.brakes } }

/-- R36, R41, R93: the slot pointer is removed, the slot timer stops, the sequence becomes none. That the timer stops at 0,
its reset value, is a DESIGN CHOICE, log entry 34: only a reset is said to leave it there. -/
def clearSequence (s : State) : State :=
  { s with crane := { s.crane with slotPointer := none, slotTimer := 0, sequence := .none } }

/-! ## Category A (R93) -/

def allBrakes : PerFour Bool := .ofFn fun _ => true

/-- R93: every drive is commanded off and every owner becomes NONE. -/
def dropChannels (s : State) : State :=
  mapChannels s fun _ r => { commandOff r with owner := .none }

/-- R93: the category A entry. -/
def entryA (s : State) : State :=
  let s := interruptMoves (fun _ => true) (dropChannels s)
  let s := trackingOff (endTake .stopped s)
  let s := clearSequence { s with
    crane := { s.crane with brakes := allBrakes }
    stops := { s.stops with deadlineTimer := none } }
  enterCrane .tripped .none s

/-! ## Category B (R95 to R97) -/

/-- R96: a rise of LINK brings every console-owned lens channel of an ACTIVE drive to rest under its owner. -/
def restLens (s : State) : State :=
  let hit := fun c => isLens c && ((s.chan c).owner == .console) && ((s.chan c).drive == .active)
  interruptMoves hit
    (mapChannels s fun c r =>
      if hit c then { r with mode := .velocity, demand := some 0, target := none, inPosition := false } else r)

/-- R95: a category B rise in READY: arm and head owners are cleared with stop deceleration, the take ends
STOPPED with its lens channels released, the deadline timer starts. -/
def entryBReady (s : State) : State :=
  let takes := fun c => isLens c && ((s.chan c).owner == .take)
  let s := mapChannels s fun c r => if isBody c then stopChannel r else if takes c then releaseChannel r else r
  let s := endTake .stopped (interruptMoves isBody s)
  enterCrane .stopping .none
    { s with stops := { s.stops with deadlineTimer := some ⟨0, s.config.stopDeadline⟩ } }

/-- R97: the keep-active HEAD channels whose drives are ACTIVE. -/
def liveHead (s : State) (c : Chan) : Bool :=
  isHead c && (s.cfg c).keepActive && ((s.chan c).drive == .active)

/-- R97: those channels have their owner cleared, as a stop clears it. -/
def stopLiveHead (s : State) : State :=
  let hit := liveHead s
  interruptMoves hit (mapChannels s fun c r => if hit c then stopChannel r else r)

/-- R38, R97: a category B rise in ARMING starts PARKING from the present slot. -/
def entryBArming (s : State) : State :=
  let s := stopLiveHead s
  let s := { s with crane := { s.crane with sequence := .down } }
  enterCrane .parking .none (startParkingSlot (s.crane.slotPointer.getD 1) s)

/-- R95, R97: what a latching category B rise does by the crane state. -/
def entryB (s : State) : State :=
  match s.crane.state with
  | .ready => entryBReady s
  | .arming => entryBArming s
  | .parked | .parking => stopLiveHead s
  | .stopping | .halted | .tripped => s

/-! ## The rise of a cause -/

/-- R90: ZONE does not latch while the crane is PARKED, TRIPPED or PARKING. -/
def latches (d : CauseDetail) (st : CraneState) : Bool :=
  !((causeOf d == .zone) && ((st == .parked) || (st == .tripped) || (st == .parking)))

/-- R90, R91: the latch is set, keeping the detail it has; the first cause is recorded when no latch was set. -/
def latchCause (d : CauseDetail) (s : State) : State :=
  if (getCause s.stops.latches (causeOf d)).isSome then s
  else
    { s with stops := { s.stops with
        first := if noneLatched s.stops.latches then some d else s.stops.first
        latches := setCause s.stops.latches (causeOf d) (some d) } }

/-- R93 to R97: what a latching rise does to the crane. At a LINK rise the moves of the lens channels that R96 brings to rest
end first, in their order of opening, and those of the ARM and HEAD channels of R95 and R97 after them, in theirs, whichever
were opened first: DESIGN CHOICE, log entry 13 (the two rules do not say which interruption comes first). -/
def actOnCrane (d : CauseDetail) (s : State) : State :=
  let s := if causeOf d = .link then restLens s else s
  if categoryA (causeOf d) then (if s.crane.state = .tripped then s else entryA s) else entryB s

/-- R90 to R92: a cause rises with this detail. A latch newly set without a change of crane state raises the
STATE notice by itself. -/
def rise (d : CauseDetail) (s : State) : State :=
  if latches d s.crane.state = false then s
  else
    let newly := (getCause s.stops.latches (causeOf d)).isNone
    let t := actOnCrane d (latchCause d s)
    if newly ∧ t.crane.state = s.crane.state then raiseState ⟨t.crane.state, t.stops.first, .none⟩ t else t

/-- A condition is set to the given detail, or becomes absent. -/
def setCondition (c : Cause) (d : Option CauseDetail) (s : State) : State :=
  { s with stops := { s.stops with conditions := setCause s.stops.conditions c d } }

end Sys2Proof.Machine
end

