-- ==== Sys2Proof/Machine/Link.lean ====
section
/-! DEFINITION. The Console Link: the reading of a character from the line (R172), the acceptance of a frame and
its reply (R177, R178), the supervision timers (R181 to R184), and the link's events other than characters of a
frame. The reading of address and data characters stands in Machine/Frames.lean, after the requests. -/

namespace Sys2Proof.Machine

/-! ## Characters on the line (R172, R173) -/

/-- What a falling edge of the line leads to. -/
inductive LineReading
  /-- the start bit's majority was high: no character -/
  | noise
  | character (value : Byte) (address : Bool) (framingError : Bool)
  deriving DecidableEq, Repr

/-- R172: the eleven bits of a character as it is sent: start bit (low), eight data bits with the least significant first,
address flag, stop bit (high). -/
def characterBits (value : Byte) (address : Bool) : List Bool :=
  [false, value.getLsbD 0, value.getLsbD 1, value.getLsbD 2, value.getLsbD 3, value.getLsbD 4, value.getLsbD 5,
    value.getLsbD 6, value.getLsbD 7, address, true]

/-- R172: bits on the line as the receiver samples them, sixteen times a bit. -/
def sampled (bits : List Bool) : List Bool := bits.flatMap (List.replicate 16)

/-- R172: bit k of a character, counted from its start bit 0: the majority of the 7th, 8th and 9th of its samples. -/
def sampledBit (samples : List Bool) (k : Nat) : Bool :=
  majority (samples.getD (16 * k + 6) true) (samples.getD (16 * k + 7) true) (samples.getD (16 * k + 8) true)

/-- R172: the eight data bits. -/
def sampledByte (samples : List Bool) : Byte :=
  BitVec.ofNat 8 ([0, 1, 2, 3, 4, 5, 6, 7].foldr (fun i n => (sampledBit samples (i + 1)).toNat + 2 * n) 0)

/-- R172: what the samples from a falling edge on are read as. -/
def readCharacter (samples : List Bool) : LineReading :=
  if sampledBit samples 0 then .noise
  else .character (sampledByte samples) (sampledBit samples 9) (!sampledBit samples 10)

/-- The samples after which the receiver looks for the next falling edge: those of the whole character, or, after noise,
those that decided it (log entry 16). -/
def samplesUsed : LineReading → Nat
  | .noise => 9
  | .character .. => 176

/-- R172: the search for falling edges in the samples of the line, and what each leads to. `level` is the sample before
them, `fuel` at least their number. A character whose samples are not all there is not read. -/
def readLine : (fuel : Nat) → (level : Bool) → (samples : List Bool) → List LineReading
  | 0, _, _ => []
  | _, _, [] => []
  | fuel + 1, level, x :: rest =>
    if level && !x then
      let r := readCharacter (x :: rest)
      let used := samplesUsed r
      if rest.length + 1 < used then []
      else r :: readLine fuel (rest.getD (used - 2) true) (rest.drop (used - 1))
    else readLine fuel x rest

/-- The row that a reading is: R172, an address flag of 1 makes an address character, noise is no character. -/
def readingCommand : LineReading → Option Instr
  | .noise => none
  | .character v true e => some (.addressCharacter v e)
  | .character v false e => some (.dataCharacter v e)

/-- R172: the commands that the samples of a line, idle before them, bring to the receiver. -/
def lineCommands (samples : List Bool) : List Instr :=
  (readLine samples.length true samples).filterMap readingCommand

/-- R173: the bit rate, in bit/s, of a RATE strap value. -/
def bitRate (code : BitVec 2) : Nat :=
  match code.toNat with
  | 0 => 115200
  | 1 => 230400
  | 2 => 460800
  | _ => 921600

/-! ## Supervision timers (R181 to R184) -/

def tickTimer : LinkTimer → LinkTimer
  | .running t p => .running (t + 1) p
  | other => other

/-- The timer stands at its period. -/
def timerReached : LinkTimer → Bool
  | .running t p => decide (p ≤ t)
  | _ => false

/-- The next timer event brings the timer to its period. -/
def timerDue (t : LinkTimer) : Bool := timerReached (tickTimer t)

/-- R183: the notice timer at a start that asks whether STATE or ZONE is pending. -/
def noticeTimerIfPending (s : State) : LinkTimer :=
  if watchedPending s.notices then .running 0 s.config.supervisionPeriod else .stopped

/-- R177, step 1, with R182 to R184: the periodic timer starts at 0; a LINK condition ends; the notice timer
starts when this frame arms the timers or ends a LINK condition, with STATE or ZONE pending. -/
def serveSupervision (s : State) : State :=
  let restart := !armed s.link || s.stops.conditions.link.isSome
  let nt := match s.config.supervisionMode with
    | .periodic => .stopped
    | .periodicNotice => if restart then noticeTimerIfPending s else s.link.noticeTimer
  setCondition .link none
    { s with link := { s.link with periodic := .running 0 s.config.supervisionPeriod, noticeTimer := nt } }

/-- R184: an expiry stops both timers and hands LINK over; one that finds LINK present is no rise (R89). -/
def expireLink (k : LinkKind) (s : State) : State :=
  let s' := { s with link := { s.link with periodic := .stopped, noticeTimer := .stopped } }
  if s.stops.conditions.link.isSome then s'
  else rise (.link k) (setCondition .link (some (.link k)) s')

def tickLinkTimers (s : State) : State :=
  { s with link := { s.link with periodic := tickTimer s.link.periodic, noticeTimer := tickTimer s.link.noticeTimer } }

/-- R181, R184: a timer event: each running timer rises by 1 ms, and one that reaches its period expires. Which of
two expiries is taken first is a free value (log entry 1). -/
def consoleTimer (s : State) : State :=
  let t := tickLinkTimers s
  match timerReached t.link.periodic, timerReached t.link.noticeTimer with
  | false, false => t
  | true, false => expireLink .supervision t
  | false, true => expireLink .notice t
  | true, true =>
    expireLink (if Config.periodicExpiresFirst s.freeCount then .supervision else .notice)
      { t with freeCount := s.freeCount + 1 }

/-! ## Acceptance and reply (R177, R178) -/

/-- A frame can be received: the part runs and the receiver is not ANSWERING (R46, R174, R178). -/
def State.canReceive (s : State) : Bool := s.running && !(s.link.receiver == .answering)

/-- R178, R195: LEN, RESULT, crane state, payload and CHECK. -/
def replyBytes (r : Reply) (st : CraneState) : List Byte := framed (resultByte r.code :: craneCode st :: r.payload)

/-- R178, R195: the characters of the reply that stands in the buffer of an ANSWERING receiver, each with its
address flag: the address character of 128 plus the unit address, then the buffer's data characters. -/
def replyCharacters (l : LinkRecord) : List (Byte × Bool) :=
  (BitVec.ofNat 8 (128 + l.address), true) :: l.buffer.map fun b => (b, false)

/-- R172, R178: the bits that the part drives onto the line to send that reply. -/
def replyBits (l : LinkRecord) : List Bool := (replyCharacters l).flatMap fun p => characterBits p.1 p.2

/-- R178: the reply stands in the receive frame buffer, DE is asserted, and the receiver is ANSWERING. -/
def sendReply (r : Reply) (s : State) : State :=
  { s with link := { s.link with receiver := .answering, buffer := replyBytes r s.crane.state, gapRunning := false, de := true } }

/-- R174, R175: an accepted broadcast frame leaves the receiver UNADDRESSED. -/
def endBroadcast (data : List Byte) (s : State) : State :=
  { s with link := { s.link with receiver := .unaddressed, buffer := framed data, gapRunning := false } }

/-- R177: the acceptance of a unit frame that carries a request. While no frame can be received, nothing is seen. -/
def acceptUnit (request : State → State × Reply) (s : State) : State :=
  if s.canReceive then
    let t := request (serveSupervision s)
    sendReply t.2 t.1
  else s

/-- R177, R179: the acceptance of a broadcast frame; it is not answered. -/
def acceptBroadcast (data : List Byte) (request : State → State × Reply) (s : State) : State :=
  if s.canReceive then endBroadcast data (request (serveSupervision s)).1 else s

/-- A request that may come as a unit frame or as a broadcast (R179). -/
def acceptFrom (origin : Origin) (data : List Byte) (request : State → State × Reply) (s : State) : State :=
  match origin with
  | .unit => acceptUnit request s
  | .broadcast => acceptBroadcast data request s

/-- A block's periodic event: nothing happens while the part is held in reset (R46). -/
def whileRunning (f : State → State) (s : State) : State := if s.running then f s else s

/-- A named event is the periodic event at which it comes about; where that event would not bring it about, it has
not happened and nothing changes (log entry 5). -/
def eventOf (tick : State → State) (happens : State → State → Bool) (s : State) : State :=
  whileRunning (fun s => let t := tick s; if happens s t then t else s) s

/-! ## The link's events -/

/-- R174, R176: the frame in progress is discarded. -/
def discardFrame (s : State) : State :=
  { s with link := { s.link with receiver := .unaddressed, gapRunning := false } }

/-- A frame is in progress: ADDRESSED or RECEIVING. -/
def frameInProgress (l : LinkRecord) : Bool :=
  match l.receiver with
  | .addressed _ | .receiving _ => true
  | .unaddressed | .answering => false

/-- R176: a gap of more than three character times discards the frame. -/
def execInterCharacterGap (s : State) : Host.Outcome State Fault Refusal :=
  .next (whileRunning (fun s => if frameInProgress s.link && s.link.gapRunning then discardFrame s else s) s)

/-- R174, R176: a break discards the frame in progress; UNADDRESSED and ANSWERING do not see it. -/
def execLineBreak (s : State) : Host.Outcome State Fault Refusal :=
  .next (whileRunning (fun s => if frameInProgress s.link then discardFrame s else s) s)

/-- R178: the reply has left the line: DE is released and the receiver is UNADDRESSED. -/
def execReplyComplete (s : State) : Host.Outcome State Fault Refusal :=
  .next (whileRunning (fun s => if s.link.receiver = .answering then
    { s with link := { s.link with receiver := .unaddressed, de := false } } else s) s)

/-- R181. -/
def execConsoleTimerEvent (s : State) : Host.Outcome State Fault Refusal := .next (whileRunning consoleTimer s)

/-- R182, R184: the timer event at which the periodic timer reaches its period, its expiry taken first. -/
def execPeriodicTimerExpiry (s : State) : Host.Outcome State Fault Refusal :=
  .next (whileRunning (fun s => if timerDue s.link.periodic then expireLink .supervision (tickLinkTimers s) else s) s)

/-- R183, R184: the timer event at which the notice timer reaches its period, its expiry taken first. -/
def execNoticeTimerExpiry (s : State) : Host.Outcome State Fault Refusal :=
  .next (whileRunning (fun s => if timerDue s.link.noticeTimer then expireLink .notice (tickLinkTimers s) else s) s)

end Sys2Proof.Machine
end

