-- ==== Sys2Proof/Machine/Motion.lean ====
section
/-! DEFINITION. The console's motion requests and the wheel assignment: JOG, GOTO, GOTO_MARK, RELEASE,
CHANNEL_GET, WHEEL_ASSIGN (R24 to R29), and the edge of a handwheel (R21). -/

namespace Sys2Proof.Machine

/-! ## JOG (R25) -/

def jogLimit : Int := 1000000

def requestJog (channel : Byte) (velocity : BitVec 32) (s : State) : State × Reply :=
  match chanOfIndex channel.toNat with
  | none => refuse s .badOperand
  | some c =>
    let v := velocity.toInt
    if inRange (-jogLimit) jogLimit v = false then refuse s .badOperand
    else match claimCode .console (decide (v ≠ 0)) s c with
      | some code => refuse s code
      | none =>
        let vmax : Int := Int.ofNat (s.cfg c).vmax
        let d := clampInt (-vmax) vmax v
        (grant .console .velocity (some d) none c s, ⟨if d = v then .ok else .clamped, []⟩)

def execJog (channel : Byte) (velocity : BitVec 32) (s : State) : Host.Outcome State Fault Refusal :=
  .next (acceptUnit (requestJog channel velocity) s)

/-! ## GOTO and GOTO_MARK (R26) -/

/-- R26, R27: targets for some channels, claimed all or none; an accepted request opens a console move. -/
def goto (mask : ChannelMask) (targets : List (Chan × Int)) (s : State) : State × Reply :=
  let cs := targets.map (·.1)
  match claimAllCode .console true s cs with
  | some code => refuse s code
  | none =>
    let hit := fun c => cs.contains c
    let granted := targets.foldl
      (fun t p => grant .console .position none (some (clampInt (s.lo p.1) (s.hi p.1) p.2)) p.1 t)
      (interruptMoves hit s)
    let opened := { granted with moves := granted.moves ++ [⟨mask, .ofFn hit⟩] }
    let clamped := targets.any fun p => clampInt (s.lo p.1) (s.hi p.1) p.2 != p.2
    (opened, ⟨if clamped then .clamped else .ok, []⟩)

def requestGoto (mask : ChannelMask) (positions : List (BitVec 32)) (s : State) : State × Reply :=
  if positions.length ≠ maskCount mask then refuse s .badLength
  else if maskValid mask = false then refuse s .badOperand
  else goto mask ((maskChans mask).zip (positions.map BitVec.toInt)) s

def execGoto (mask : ChannelMask) (positions : List (BitVec 32)) (s : State) : Host.Outcome State Fault Refusal :=
  .next (acceptUnit (requestGoto mask positions) s)

/-- The masked channels that a mark holds, with their values (R117). -/
def markTargets (m : Mark) (mask : ChannelMask) : List (Chan × Int) :=
  (maskChans mask).filterMap fun c => (m.values.get c).map fun v => (c, v)

def requestGotoMark (mark : Byte) (mask : ChannelMask) (s : State) : State × Reply :=
  if natRange 1 Config.markCapacity mark.toNat = false ∨ maskValid mask = false then refuse s .badOperand
  else match s.findMark mark.toNat with
    | none => refuse s .notFound
    | some m =>
      match markTargets m mask with
      | [] => refuse s .badOperand
      | targets => goto mask targets s

def execGotoMark (mark : Byte) (mask : ChannelMask) (s : State) : Host.Outcome State Fault Refusal :=
  .next (acceptUnit (requestGotoMark mark mask) s)

/-! ## RELEASE (R28) -/

def requestRelease (mask : ChannelMask) (s : State) : State × Reply :=
  if maskValid mask = false then refuse s .badOperand
  else
    let hit := fun c => maskHas mask c && ((s.chan c).owner == .console)
    accept (interruptMoves hit (mapChannels s fun c r => if hit c then releaseChannel r else r)) []

def execRelease (mask : ChannelMask) (s : State) : Host.Outcome State Fault Refusal :=
  .next (acceptUnit (requestRelease mask) s)

/-! ## CHANNEL_GET (R29, R197) -/

/-- R197: the channel record: 51 bytes. -/
def channelRecord (s : State) (c : Chan) : List Byte :=
  let r := s.chan c
  let g := s.cfg c
  [chanByte c, driveCode r.drive, modeCode r.mode, ownerCode r.owner] ++ s32 r.setpoint ++ u16 r.fraction ++
    s32 r.velocity ++ s32 (if r.mode = .velocity then r.demand.getD 0 else 0) ++
    s32 (if r.mode = .position then r.target.getD 0 else 0) ++ s32 r.feedback ++ u8 r.stale ++
    [statusFlags r (s.inMove c)] ++ s32 (s.lo c) ++ s32 (s.hi c) ++ u32 g.vmax ++ u16 g.accel ++ u16 g.stopStep ++
    u32 g.followLimit ++ u8 g.releaseSlot ++ flagByte g.keepActive ++ flagByte (overtakeFlag c)

def requestChannelGet (channel : Byte) (s : State) : State × Reply :=
  match chanOfIndex channel.toNat with
  | none => refuse s .badOperand
  | some c => accept s (channelRecord s c)

def execChannelGet (channel : Byte) (s : State) : Host.Outcome State Fault Refusal :=
  .next (acceptUnit (requestChannelGet channel) s)

/-! ## WHEEL_ASSIGN (R24) and the wheels' edges (R21) -/

/-- The wheel of a number 1 to 4. -/
def wheelOfNumber (n : Nat) : Option (Fin 4) := if h : 1 ≤ n ∧ n ≤ 4 then some ⟨n - 1, by omega⟩ else none

/-- R199: the channel operand of WHEEL_ASSIGN: 0 to 8, or 0xFF for none; the outer none is a refusal. -/
def wheelChannel (b : Byte) : Option (Option Chan) :=
  if b = 0xFF#8 then some none else (chanOfIndex b.toNat).map some

/-- R24: a channel that the wheel was assigned to and that WHEEL owns is released at once. -/
def releaseWheelChannel (before : Option Chan) (s : State) : State :=
  match before with
  | some c => if (s.chan c).owner = .wheel then s.setChan c (releaseChannel (s.chan c)) else s
  | none => s

def requestWheelAssign (wheel channel : Byte) (gain : BitVec 16) (s : State) : State × Reply :=
  match wheelOfNumber wheel.toNat, wheelChannel channel with
  | some w, some c =>
    let before := (s.wheels.get w).channel
    accept (releaseWheelChannel before { s with wheels := s.wheels.set w ⟨c, gain.toInt, 0, 0, none⟩ }) []
  | _, _ => refuse s .badOperand

def execWheelAssign (wheel channel : Byte) (gain : BitVec 16) (s : State) : Host.Outcome State Fault Refusal :=
  .next (acceptUnit (requestWheelAssign wheel channel gain) s)

/-- R21: an edge adds 1 when phase A leads and subtracts 1 when phase B leads. -/
def wheelEdge (w : Fin 4) (aLeads : Bool) (s : State) : State :=
  let r := s.wheels.get w
  { s with wheels := s.wheels.set w { r with counter := r.counter + (if aLeads then 1 else -1) } }

def execWheelEdge (w : Fin 4) (aLeads : Bool) (s : State) : Host.Outcome State Fault Refusal :=
  .next (whileRunning (wheelEdge w aLeads) s)

end Sys2Proof.Machine
end

