-- ==== Sys2Proof/Machine/ChannelUpdate.lean ====
section
/-! DEFINITION. The channel update (R3 to R9, R20): the hand-over of the wheels with their claims (R22), the
profile of each channel, arrival of console moves (R27), the idle release of wheels (R23), and the standstill
that ends STOPPING (R98). -/

namespace Sys2Proof.Machine

/-! ## The profile generator -/

/-- R5: the step: A, or the larger of S and A under stop deceleration. -/
def stepSize (g : ChannelConfig) (r : Channel) : Nat := if r.stopDecel then max g.stopStep g.accel else g.accel

/-- R5: the velocity moves toward the demand by at most the step. -/
def velocityStep (step : Nat) (v demand : Int) : Int :=
  if v < demand then min (v + step) demand else max (v - step) demand

/-- R6: the speed from which a deceleration of A stops the channel in d counts. -/
def brakingCap (accel : Nat) (d : Int) : Int := if 0 < d then Int.ofNat (isqrt (2000 * accel * d.toNat)) else 0

/-- R6: the limit-braking cap on a demand. -/
def capDemand (lo hi : Int) (accel : Nat) (setpoint demand : Int) : Int :=
  if 0 < demand then min demand (brakingCap accel (hi - setpoint))
  else max demand (-(brakingCap accel (setpoint - lo)))

/-- R4, steps 3 and 4: a barred or outward demand becomes 0, then the cap. -/
def boundDemand (lo hi : Int) (accel : Nat) (r : Channel) (demand : Int) : Int :=
  if inhibited r demand || outward lo hi r.setpoint demand then 0 else capDemand lo hi accel r.setpoint demand

/-- The arm velocity scale acts on ARM channels alone (R4, R7). -/
def scaled (c : Chan) (scale : Nat) (v : Int) : Int := if isArm c then truncDiv (v * scale) 1024 else v

/-- R4: the demand of VELOCITY mode, after steps 1 and 2. -/
def velocityDemand (c : Chan) (g : ChannelConfig) (scale : Nat) (demand : Int) : Int :=
  scaled c scale (clampInt (-(Int.ofNat g.vmax)) (Int.ofNat g.vmax) demand)

/-- R7: the demand of POSITION mode toward a target already clamped. -/
def positionDemand (c : Chan) (g : ChannelConfig) (scale : Nat) (target setpoint : Int) : Int :=
  let d := target - setpoint
  Int.sign d * min (scaled c scale (Int.ofNat g.vmax)) (Int.ofNat (isqrt (2000 * g.accel * d.natAbs)))

/-- R5, R6, R9: the velocity step toward an effective demand, the advance of the setpoint, the barring of outward
steps and the limit clamp. -/
def advance (lo hi : Int) (step : Nat) (demand : Int) (r : Channel) : Channel :=
  let v0 := velocityStep step r.velocity demand
  let v := if inhibited r v0 then 0 else v0
  let acc := r.setpoint * 1000 + Int.ofNat r.fraction + v
  let sp := floorDiv acc 1000
  if furtherOutside lo hi r.setpoint sp then { r with velocity := 0 }
  else if 0 < v ∧ r.setpoint ≤ hi ∧ hi ≤ sp then { r with setpoint := hi, fraction := 0, velocity := 0, atLimit := true }
  else if v < 0 ∧ lo ≤ r.setpoint ∧ sp ≤ lo then { r with setpoint := lo, fraction := 0, velocity := 0, atLimit := true }
  else { r with setpoint := sp, fraction := (acc - sp * 1000).toNat, velocity := v }

/-- R7: the arrival test and what arrival does. -/
def arrive (accel : Nat) (target : Int) (r : Channel) : Channel :=
  if (target - r.setpoint).natAbs ≤ 1 ∧ r.velocity.natAbs ≤ accel then
    { r with setpoint := target, fraction := 0, velocity := 0, inPosition := true }
  else { r with inPosition := false }

/-- R5, R20: at velocity 0 stop deceleration ends, and a channel with owner NONE goes to HOLD. -/
def settle (r : Channel) : Channel :=
  if r.velocity = 0 then
    if r.owner = .none then holdChannel r else { r with stopDecel := false }
  else r

/-- R3: the update of a channel whose drive is not ACTIVE. Until the first good reply after a reset, OUTSIDE stays as the
reset left it (R2, R159; log entry 28). -/
def restChannel (lo hi : Int) (r : Channel) : Channel :=
  let h := withLimits lo hi (holdChannel r)
  if r.known then h else { h with outside := r.outside }

/-- One channel's update by its mode; `path` is the value the engine last wrote for it. -/
def profile (c : Chan) (g : ChannelConfig) (lo hi : Int) (scale : Nat) (path : Option Int) (r : Channel) : Channel :=
  if r.drive ≠ .active then restChannel lo hi r
  else match r.mode with
    | .hold => withLimits lo hi r
    | .velocity =>
      let d := boundDemand lo hi g.accel r (velocityDemand c g scale (r.demand.getD 0))
      settle (withLimits lo hi (advance lo hi (stepSize g r) d r))
    | .position =>
      let t := clampInt lo hi (r.target.getD r.setpoint)
      let d := boundDemand lo hi g.accel r (positionDemand c g scale t r.setpoint)
      settle (withLimits lo hi (arrive g.accel t (advance lo hi (stepSize g r) d { r with target := some t })))
    | .path =>
      match path with
      | some w => takePath lo hi w r
      | none => { r with velocity := 0 }

/-! ## The wheels' hand-over (R22) -/

/-- R23: the idle timer without motion, against the wheel idle time in force at this update (log entry 29). -/
def tickIdle (limit : Nat) : Option Nat → Option Nat
  | some t => if limit ≤ t + 1 then none else some (t + 1)
  | none => none

/-- R22: the sum that a granted count gives, in 1/256 of a count. -/
def wheelSum (w : WheelInput) : Int := w.counter * w.gain + Int.ofNat w.carry

/-- R22: the whole counts handed to the target, and the carry kept. -/
def wheelWhole (w : WheelInput) : Int := floorDiv (wheelSum w) 256
def wheelCarry (w : WheelInput) : Nat := (wheelSum w - 256 * wheelWhole w).toNat

/-- R22: the target a granted wheel claim sets: from the setpoint when WHEEL did not own the channel. -/
def wheelTarget (r : Channel) (w : WheelInput) : Int :=
  (if r.owner = .wheel then r.target.getD r.setpoint else r.setpoint) + wheelWhole w

/-- R22: the hand-over of one wheel. The target is clamped to the limits by the profile of this same update (R7).
A count that is discarded for want of a channel or of gain leaves the idle timer running (log entry 29). -/
def handOver (i : Fin 4) (s : State) : State :=
  let w := s.wheels.get i
  let still := { w with counter := 0, idle := tickIdle s.config.wheelIdle w.idle }
  match w.channel with
  | none => { s with wheels := s.wheels.set i still }
  | some c =>
    if w.gain = 0 ∨ w.counter = 0 then { s with wheels := s.wheels.set i still }
    else match claimCode .wheel false s c with
      | some _ => { s with wheels := s.wheels.set i { w with counter := 0, idle := some 0 } }
      | none =>
        grant .wheel .position none (some (wheelTarget (s.chan c) w)) c
          { s with wheels := s.wheels.set i { w with counter := 0, idle := some 0, carry := wheelCarry w } }

def handOverAll (s : State) : State := handOver 3 (handOver 2 (handOver 1 (handOver 0 s)))

/-! ## Idle release and standstill -/

/-- R23: every wheel assigned to the channel has an expired idle timer. -/
def wheelsIdle (s : State) (c : Chan) : Bool :=
  [0, 1, 2, 3].all fun (i : Fin 4) => !((s.wheels.get i).channel == some c) || (s.wheels.get i).idle.isNone

/-- R23: the idle release of the channels that WHEEL owns at standstill. -/
def releaseIdle (s : State) : State :=
  mapChannels s fun c r =>
    if r.owner = .wheel ∧ r.velocity = 0 ∧ wheelsIdle s c then releaseChannel r else r

/-- R98: every ARM and HEAD channel has velocity 0. -/
def bodyStill (s : State) : Bool := allChans.all fun c => isLens c || decide ((s.chan c).velocity = 0)

/-- R98: STOPPING ends in HALTED at the update that publishes standstill. -/
def checkStandstill (s : State) : State :=
  if s.crane.state = .stopping ∧ bodyStill s then
    enterCrane .halted .none
      (mapChannels { s with stops := { s.stops with deadlineTimer := none } } fun _ r => { r with stopDecel := false })
  else s

/-! ## The update -/

/-- The profiles of all nine channels, which do not depend on one another (section 1.2). With it every path value
written so far has been taken (R8). -/
def runProfiles (s : State) : State :=
  let t := mapChannels s fun c r =>
    profile c (s.cfg c) (s.lo c) (s.hi c) s.zoneMonitor.scale (s.engine.path.get c) r
  { t with engine := { t.engine with untaken := noChannels } }

/-- R27: the channels found in position by this update leave their moves, in index order. So moves whose last channels
arrive at one update end, and raise MOVE, by the index of that last channel: DESIGN CHOICE, log entry 13 (R27 has each
channel leave in turn and does not say which move is first). -/
def reachMoves (s : State) : State :=
  allChans.foldl (fun t c => if (s.chan c).inPosition ∧ t.inMove c then reachMove c t else t) s

/-- R3 to R9, R20, R22, R23, R27, R98: one channel update. -/
def channelUpdate (s : State) : State := checkStandstill (releaseIdle (reachMoves (runProfiles (handOverAll s))))

def execChannelUpdate (s : State) : Host.Outcome State Fault Refusal := .next (whileRunning channelUpdate s)

/-- R7: the update at which a channel comes to be in position. -/
def execInPosition (c : Chan) (s : State) : Host.Outcome State Fault Refusal :=
  .next (eventOf channelUpdate (fun s t => !(s.chan c).inPosition && (t.chan c).inPosition) s)

/-- R20: the update at which the deceleration of a channel with owner NONE ends. -/
def execDecelerationEnd (c : Chan) (s : State) : Host.Outcome State Fault Refusal :=
  .next (eventOf channelUpdate
    (fun s t => ((s.chan c).owner == .none) && ((s.chan c).mode == .velocity) &&
      ((t.chan c).owner == .none) && ((t.chan c).mode == .hold)) s)

/-- R23: the update at which WHEEL loses a channel through idle timers. -/
def execWheelIdleRelease (c : Chan) (s : State) : Host.Outcome State Fault Refusal :=
  .next (eventOf channelUpdate
    (fun s t => ((s.chan c).owner == .wheel) && ((t.chan c).owner == .none)) s)

/-- R98: the update at which STOPPING becomes HALTED. -/
def execStandstill (s : State) : Host.Outcome State Fault Refusal :=
  .next (eventOf channelUpdate (fun s t => (s.crane.state == .stopping) && (t.crane.state == .halted)) s)

end Sys2Proof.Machine
end

