-- ==== Sys2Proof/Machine/Presence.lean ====
section
/-! DEFINITION. The Presence Filter: one sample of the twelve lines (R63, R64), and the refilling of a line whose
polarity is written (R65). -/

namespace Sys2Proof.Machine

/-- R63: a level counts as asserted by the line's polarity. -/
def assertedLevel (p : Polarity) (high : Bool) : Bool :=
  match p with
  | .highOccupied => high
  | .lowOccupied => !high

/-- R64: occupancy and release timer after a sample, by the filtered state before (`was`) and after (`now`). -/
def stepOccupancy (delay : Nat) (was now : Bool) (p : PresenceLine) : Bool × Option Nat :=
  if now then (true, none)
  else if p.occupancy = false then (false, none)
  else
    let count := if was then 0 else p.releaseTimer.getD 0 + 1
    if delay ≤ count then (false, none) else (true, some count)

/-- R63, R64: one line's sample. -/
def samplePresence (g : LineConfig) (high : Bool) (p : PresenceLine) : PresenceLine :=
  let f := filterSample p.filter (assertedLevel g.polarity high)
  let o := stepOccupancy g.delay p.filter.filtered f.filtered p
  ⟨f, o.1, o.2⟩

/-- R63: one line's sample in the state; a filtered change raises INPUT. -/
def samplePresenceLine (levels : BitVec 12) (i : Fin 12) (s : State) : State :=
  let p := s.presence.get i
  let q := samplePresence (s.config.lines.get i) (levels.getLsbD i.val) p
  let s := { s with presence := s.presence.set i q }
  if q.filter.filtered ≠ p.filter.filtered then raiseInput s else s

def allLines : List (Fin 12) := [0, 1, 2, 3, 4, 5, 6, 7, 8, 9, 10, 11]

/-- R63: one sample event. -/
def presenceSample (levels : BitVec 12) (s : State) : State :=
  allLines.foldl (fun s i => samplePresenceLine levels i s) s

def execPresenceSample (levels : BitVec 12) (s : State) : Host.Outcome State Fault Refusal :=
  .next (whileRunning (presenceSample levels) s)

/-- R64: the sample event at which a line's occupancy becomes FALSE. -/
def execOccupancyRelease (line : Fin 12) (levels : BitVec 12) (s : State) : Host.Outcome State Fault Refusal :=
  .next (eventOf (presenceSample levels)
    (fun s t => (s.presence.get line).occupancy && !(t.presence.get line).occupancy) s)

/-- R65: a write of a line's polarity refills its filter and makes it occupied. The occupancy counts from the write on, not
from the next sample (log entry 32). -/
def refillLine (i : Fin 12) (s : State) : State :=
  let p := s.presence.get i
  let changed := p.filter.filtered = false
  let f : LineFilter := ⟨true, true, true, true, p.filter.changed || decide changed⟩
  let s := { s with presence := s.presence.set i ⟨f, true, none⟩ }
  if changed then raiseInput s else s

end Sys2Proof.Machine
end

