-- ==== Sys2Proof/Machine/Configuration.lean ====
section
/-! DEFINITION. CONFIG_SET and CONFIG_GET (R190 to R192): the items by their numbers, their ranges, and what a
write of each does. -/

namespace Sys2Proof.Machine

/-- R190: the configuration items. -/
inductive ConfigKey
  | slotDuration | wheelIdle | stopDeadline | rateSlew | creep | armBase | pivotHeight | headRadius
  | supervisionPeriod | supervisionMode
  | softLo (channel : Chan)
  | softHi (channel : Chan)
  | vmax (channel : Chan)
  | accel (channel : Chan)
  | stopStep (channel : Chan)
  | followLimit (channel : Chan)
  | releaseSlot (channel : Chan)
  | keepActive (channel : Chan)
  | polarity (line : Fin 12)
  | releaseDelay (line : Fin 12)
  deriving DecidableEq, Repr

/-- R190: the items with single numbers. -/
def singleItem : Nat → Option ConfigKey
  | 1 => some .slotDuration
  | 2 => some .wheelIdle
  | 3 => some .stopDeadline
  | 4 => some .rateSlew
  | 5 => some .creep
  | 6 => some .armBase
  | 7 => some .pivotHeight
  | 8 => some .headRadius
  | 9 => some .supervisionPeriod
  | 10 => some .supervisionMode
  | _ => none

/-- R190: the flag of an ARM channel is no item. -/
def keepActiveItem (c : Chan) : Option ConfigKey := if isArm c then none else some (.keepActive c)

def lineItem (f : Fin 12 → ConfigKey) (low : Nat) : Option ConfigKey := if h : low < 12 then some (f ⟨low, h⟩) else none

/-- R190: the item of an item number; none when it is unknown. -/
def configItem (item : Byte) : Option ConfigKey :=
  let low := item.toNat % 16
  match item.toNat / 16 with
  | 0 => singleItem low
  | 1 => (chanOfIndex low).map .softLo
  | 2 => (chanOfIndex low).map .softHi
  | 3 => (chanOfIndex low).map .vmax
  | 4 => (chanOfIndex low).map .accel
  | 5 => (chanOfIndex low).map .stopStep
  | 6 => (chanOfIndex low).map .followLimit
  | 7 => (chanOfIndex low).map .releaseSlot
  | 8 => (chanOfIndex low).bind keepActiveItem
  | 9 => lineItem .polarity low
  | 10 => lineItem .releaseDelay low
  | _ => none

/-- R1: the range of a channel's soft limits. -/
def softRange : Chan → Int × Int
  | .track | .reach => (-2000000, 2000000)
  | .swing | .boom | .pan | .tilt => (-32768, 32767)
  | .focus | .iris | .zoom => (0, 65535)

/-- The range of an item: R32, R19, R82, R134, R77, R54, R181, R1, R62; 0 and 1 for an item of two values. -/
def itemRange : ConfigKey → Int × Int
  | .slotDuration => (20, 2000)
  | .wheelIdle => (100, 10000)
  | .stopDeadline => (200, 5000)
  | .rateSlew => (1, 1024)
  | .creep => (16, 256)
  | .armBase => (10000, 80000)
  | .pivotHeight => (0, 60000)
  | .headRadius => (0, 20000)
  | .supervisionPeriod => (20, 5000)
  | .supervisionMode => (0, 1)
  | .softLo c => softRange c
  | .softHi c => softRange c
  | .vmax _ => (1, 1000000)
  | .accel _ => (1, 65535)
  | .stopStep _ => (1, 65535)
  | .followLimit _ => (1, 1000000)
  | .releaseSlot _ => (1, 8)
  | .keepActive _ => (0, 1)
  | .polarity _ => (0, 1)
  | .releaseDelay _ => (0, 10000)

/-- R191, test 2: items of two values, which are refused and not clamped. -/
def twoValuedItem : ConfigKey → Bool
  | .supervisionMode | .keepActive _ | .polarity _ => true
  | _ => false

/-- R191, test 3: items written in PARKED alone. -/
def parkedItem : ConfigKey → Bool
  | .slotDuration | .armBase | .pivotHeight | .headRadius | .releaseSlot _ | .keepActive _ => true
  | _ => false

def polarityCode : Polarity → Int
  | .highOccupied => 0
  | .lowOccupied => 1

def supervisionCode : SupervisionMode → Int
  | .periodic => 0
  | .periodicNotice => 1

def boolCode (b : Bool) : Int := if b then 1 else 0

/-- R192: the value stored for an item. -/
def readItem (g : ConfigItems) : ConfigKey → Int
  | .slotDuration => g.slotDuration
  | .wheelIdle => g.wheelIdle
  | .stopDeadline => g.stopDeadline
  | .rateSlew => g.rateSlew
  | .creep => g.creep
  | .armBase => g.armBase
  | .pivotHeight => g.pivotHeight
  | .headRadius => g.headRadius
  | .supervisionPeriod => g.supervisionPeriod
  | .supervisionMode => supervisionCode g.supervisionMode
  | .softLo c => (g.channels.get c).lo
  | .softHi c => (g.channels.get c).hi
  | .vmax c => (g.channels.get c).vmax
  | .accel c => (g.channels.get c).accel
  | .stopStep c => (g.channels.get c).stopStep
  | .followLimit c => (g.channels.get c).followLimit
  | .releaseSlot c => (g.channels.get c).releaseSlot
  | .keepActive c => boolCode (g.channels.get c).keepActive
  | .polarity l => polarityCode (g.lines.get l).polarity
  | .releaseDelay l => (g.lines.get l).delay

/-- One channel's parameters changed. -/
def setParameters (g : ConfigItems) (c : Chan) (f : ChannelConfig → ChannelConfig) : ConfigItems :=
  { g with channels := g.channels.set c (f (g.channels.get c)) }

/-- One line's parameters changed. -/
def setLine (g : ConfigItems) (l : Fin 12) (f : LineConfig → LineConfig) : ConfigItems :=
  { g with lines := g.lines.set l (f (g.lines.get l)) }

/-- A value stored for an item. -/
def storeItem (g : ConfigItems) (k : ConfigKey) (v : Int) : ConfigItems :=
  match k with
  | .slotDuration => { g with slotDuration := v.toNat }
  | .wheelIdle => { g with wheelIdle := v.toNat }
  | .stopDeadline => { g with stopDeadline := v.toNat }
  | .rateSlew => { g with rateSlew := v.toNat }
  | .creep => { g with creep := v.toNat }
  | .armBase => { g with armBase := v.toNat }
  | .pivotHeight => { g with pivotHeight := v.toNat }
  | .headRadius => { g with headRadius := v.toNat }
  | .supervisionPeriod => { g with supervisionPeriod := v.toNat }
  | .supervisionMode => { g with supervisionMode := if v = 0 then .periodic else .periodicNotice }
  | .softLo c => setParameters g c fun p => { p with lo := v }
  | .softHi c => setParameters g c fun p => { p with hi := v }
  | .vmax c => setParameters g c fun p => { p with vmax := v.toNat }
  | .accel c => setParameters g c fun p => { p with accel := v.toNat }
  | .stopStep c => setParameters g c fun p => { p with stopStep := v.toNat }
  | .followLimit c => setParameters g c fun p => { p with followLimit := v.toNat }
  | .releaseSlot c => setParameters g c fun p => { p with releaseSlot := v.toNat }
  | .keepActive c => setParameters g c fun p => { p with keepActive := decide (v = 1) }
  | .polarity l => setLine g l fun p => { p with polarity := if v = 0 then .highOccupied else .lowOccupied }
  | .releaseDelay l => setLine g l fun p => { p with delay := v.toNat }

/-- R191, test 5: a soft limit keeps lo ≤ hi against the other configured limit. -/
def keepsOrder (g : ConfigItems) (k : ConfigKey) (v : Int) : Bool :=
  match k with
  | .softLo c => decide (v ≤ (g.channels.get c).hi)
  | .softHi c => decide ((g.channels.get c).lo ≤ v)
  | _ => true

/-- R159: the configured limits of the channel are those in force. -/
def limitsConfigured (s : State) (c : Chan) : Bool := (s.selectedMap.bind fun m => mapLimits m c).isNone

/-- R181: what an accepted write of the supervision mode does to the notice timer. -/
def writeSupervision (s : State) : State :=
  let t := match s.config.supervisionMode with
    | .periodic => LinkTimer.stopped
    | .periodicNotice => if armed s.link then noticeTimerIfPending s else .stopped
  { s with link := { s.link with noticeTimer := t } }

/-- R10, R65, R159, R181: what a stored write does at once. -/
def actOnWrite (k : ConfigKey) (s : State) : State :=
  match k with
  | .softLo c | .softHi c => if limitsConfigured s c then applyLimits s c else s
  | .polarity l => refillLine l s
  | .supervisionMode => writeSupervision s
  | _ => s

/-- R199: the item number and the value stored. -/
def itemReply (item : Byte) (v : Int) : List Byte := item :: s32 v

def requestConfigSet (item : Byte) (value : BitVec 32) (s : State) : State × Reply :=
  match configItem item with
  | none => refuse s .badOperand
  | some k =>
    let v := value.toInt
    let r := itemRange k
    if twoValuedItem k ∧ inRange r.1 r.2 v = false then refuse s .badOperand
    else if parkedItem k ∧ s.crane.state ≠ .parked then refuse s .state
    else
      let w := clampInt r.1 r.2 v
      if keepsOrder s.config k w = false then refuse s .badOperand
      else
        (actOnWrite k { s with config := storeItem s.config k w },
          ⟨if w = v then .ok else .clamped, itemReply item w⟩)

def execConfigSet (item : Byte) (value : BitVec 32) (s : State) : Host.Outcome State Fault Refusal :=
  .next (acceptUnit (requestConfigSet item value) s)

def requestConfigGet (item : Byte) (s : State) : State × Reply :=
  match configItem item with
  | none => refuse s .badOperand
  | some k => accept s (itemReply item (readItem s.config k))

def execConfigGet (item : Byte) (s : State) : Host.Outcome State Fault Refusal :=
  .next (acceptUnit (requestConfigGet item) s)

end Sys2Proof.Machine
end

