-- ==== Sys2Proof/Machine/Crane.lean ====
section
/-! DEFINITION. The State Controller: ARM and PARK (R33, R39), and the slots of the arming and parking sequences
(R32, R34, R36, R37, R40, R41). -/

namespace Sys2Proof.Machine

/-! ## Used slots (section 2.2) -/

/-- At least one channel carries this release slot. -/
def slotUsed (s : State) (n : Nat) : Bool := allChans.any fun c => (s.cfg c).releaseSlot == n

def slotsUp : List Nat := [1, 2, 3, 4, 5, 6, 7, 8]
def slotsDown : List Nat := [8, 7, 6, 5, 4, 3, 2, 1]

def lowestSlot (s : State) : Option Nat := slotsUp.find? (slotUsed s)
def highestSlot (s : State) : Option Nat := slotsDown.find? (slotUsed s)
def nextHigherSlot (s : State) (n : Nat) : Option Nat := slotsUp.find? fun k => decide (n < k) && slotUsed s k
def nextLowerSlot (s : State) (n : Nat) : Option Nat := slotsDown.find? fun k => decide (k < n) && slotUsed s k

def inSlot (s : State) (n : Nat) (c : Chan) : Bool := (s.cfg c).releaseSlot == n

/-! ## Arming -/

/-- R34: a drive is enabled at its feedback. -/
def enableChannel (lo hi : Int) (r : Channel) : Channel :=
  withOutside lo hi { holdChannel r with drive := .enabling, commanded := true, setpoint := r.feedback, fraction := 0 }

/-- R34: the start of an arming slot. A channel whose drive is already ACTIVE is left as it is. -/
def startArmingSlot (n : Nat) (s : State) : State :=
  let s := mapChannels s fun c r =>
    if inSlot s n c ∧ r.drive ≠ .active then enableChannel (s.lo c) (s.hi c) r else r
  { s with crane := { s.crane with slotPointer := some n, slotTimer := 0 } }

/-- R33, test 4: the head point is valid and every drive is known and fresh. -/
def drivesFresh (s : State) : Bool :=
  s.head.valid && allChans.all fun c => (s.chan c).known && ((s.chan c).stale == 0)

def requestArm (s : State) : State × Reply :=
  if s.crane.state ≠ .parked then refuse s .state
  else if noneLatched s.stops.latches = false then refuse s .latched
  else if s.stops.conditions.zone.isSome then refuse s .causeActive
  else if drivesFresh s = false then refuse s .state
  else
    let s := startArmingSlot ((lowestSlot s).getD 1) { s with crane := { s.crane with sequence := .up } }
    accept (enterCrane .arming .none s) []

def execArm (s : State) : Host.Outcome State Fault Refusal := .next (acceptUnit requestArm s)

/-- R36, R37: the end of an arming slot. -/
def armingSlotEnd (n : Nat) (s : State) : State :=
  match allChans.find? fun c => inSlot s n c && !((s.chan c).drive == .active) with
  | some failed =>
    enterCrane .parking (.armFail failed)
      (startParkingSlot n { s with crane := { s.crane with sequence := .down } })
  | none =>
    match nextHigherSlot s n with
    | some k => startArmingSlot k s
    | none => enterCrane .ready .none (clearSequence s)

/-! ## Parking -/

def requestPark (s : State) : State × Reply :=
  if s.crane.state ≠ .ready then refuse s .state
  else if s.engine.take.isSome then refuse s .state
  else if (allChans.all fun c => isLens c || (((s.chan c).owner == .none) && decide ((s.chan c).velocity = 0))) = false then
    refuse s .moving
  else
    let s := startParkingSlot ((highestSlot s).getD 8) { s with crane := { s.crane with sequence := .down } }
    accept (enterCrane .parking .none s) []

def execPark (s : State) : Host.Outcome State Fault Refusal := .next (acceptUnit requestPark s)

/-- R40: the channels whose drives the end of a parking slot commands off. -/
def parksOff (s : State) (n : Nat) (c : Chan) : Bool := inSlot s n c && !(s.cfg c).keepActive

/-- R40, R41: the end of a parking slot. -/
def parkingSlotEnd (n : Nat) (s : State) : State :=
  let hit := parksOff s n
  let s := interruptMoves hit (mapChannels s fun c r => if hit c then { commandOff r with owner := .none } else r)
  let s := if hit .focus then trackingOff s else s
  match nextLowerSlot s n with
  | some k => startParkingSlot k s
  | none => enterCrane .parked .none (clearSequence s)

/-! ## The slot event (R32) -/

/-- R32, R36, R41: the slot timer rises by 1 ms while the slot pointer is present; at the slot duration the slot
ends by the sequence. -/
def slotEvent (s : State) : State :=
  match s.crane.slotPointer with
  | none => s
  | some n =>
    if s.crane.slotTimer + 1 < s.config.slotDuration then
      { s with crane := { s.crane with slotTimer := s.crane.slotTimer + 1 } }
    else match s.crane.sequence with
      | .up => armingSlotEnd n s
      | .down => parkingSlotEnd n s
      | .none => s

def execSlotEvent (s : State) : Host.Outcome State Fault Refusal := .next (whileRunning slotEvent s)

/-- The next slot event brings the slot timer to the slot duration. -/
def slotDue (s : State) : Bool := s.crane.slotPointer.isSome && decide (s.config.slotDuration ≤ s.crane.slotTimer + 1)

/-- R36: the slot event at which an arming slot ends. -/
def execArmingSlotEnd (s : State) : Host.Outcome State Fault Refusal :=
  .next (eventOf slotEvent (fun s _ => slotDue s && (s.crane.sequence == .up)) s)

/-- R40: the slot event at which a parking slot ends. -/
def execParkingSlotEnd (s : State) : Host.Outcome State Fault Refusal :=
  .next (eventOf slotEvent (fun s _ => slotDue s && (s.crane.sequence == .down)) s)

end Sys2Proof.Machine
end

