-- ==== Sys2Proof/Machine/Drives.lean ====
section
/-! DEFINITION. The exchange of the Drive Link (R12 to R15), the release of brakes in ARMING (R35), and the DRIVE
cause (R87). -/

namespace Sys2Proof.Machine

/-- R14: the channel's drive state after a good reply. A commanded drive that is not ACTIVE follows the rows of
ENABLING. -/
def nextDrive (commanded : Bool) : ReplyState → DriveState
  | .fault => .fault
  | .active => if commanded then .active else .off
  | .off | .busy => if commanded then .enabling else .off

/-- R13 to R15, R87: the kind by which a good reply makes DRIVE rise, if it does. -/
def replyRise (limit : Nat) (r : Channel) (st : ReplyState) (fb : Int) : Option DriveKind :=
  match st with
  | .fault => if r.faultPresent then none else some .fault
  | .active =>
    if r.commanded ∧ r.drive = .active ∧ limit < (r.setpoint - fb).natAbs then some .following else none
  | .off | .busy => if r.commanded ∧ r.drive = .active then some .dropout else none

/-- R13, R14: a good reply taken into the channel record: the setpoint follows the feedback unless the drive was
and stays ACTIVE. DESIGN CHOICE, log entry 12: the reply that itself takes an ACTIVE channel out of ACTIVE (FAULT, OFF or
BUSY) already sets the setpoint to its feedback, and not only the next good reply (R14 "while", R93 "from the next"). -/
def takeGoodReply (lo hi : Int) (r : Channel) (st : ReplyState) (fb : Int) : Channel :=
  let d := nextDrive r.commanded st
  let r1 := { r with feedback := fb, known := true, stale := 0, faultPresent := decide (st = .fault), drive := d }
  if r.drive = .active ∧ d = .active then r1
  else withOutside lo hi { holdChannel r1 with setpoint := fb, fraction := 0 }

/-- R13: a missed reply: the feedback is kept and the stale count rises, up to 2. -/
def missReply (r : Channel) : Channel := { r with stale := min 2 (r.stale + 1) }

/-- R13: one channel's record after an exchange. -/
def exchangeRecord (s : State) (replies : PerChannel (Option (List Byte))) (c : Chan) : Channel :=
  match goodReply c (replies.get c) with
  | some (st, fb) => takeGoodReply (s.lo c) (s.hi c) (s.chan c) st fb
  | none => missReply (s.chan c)

/-- R13 to R15: the kind by which DRIVE rises for a channel at an exchange. A miss that finds the stale count above
0 raises STALE. -/
def exchangeRise (s : State) (replies : PerChannel (Option (List Byte))) (c : Chan) : Option DriveKind :=
  match goodReply c (replies.get c) with
  | some (st, fb) => replyRise (s.cfg c).followLimit (s.chan c) st fb
  | none => if 1 ≤ (s.chan c).stale then some .stale else none

/-- R87: the DRIVE condition: the lowest-indexed channel whose FAULT is present. -/
def driveCondition (s : State) : Option CauseDetail :=
  (allChans.find? fun c => (s.chan c).faultPresent).map fun c => .drive c .fault

/-- R35: in ARMING the brake of an ARM channel is released by the reply that makes it ACTIVE. -/
def releaseBrakes (before after : State) : PerFour Bool :=
  allChans.foldl
    (fun b c => match brakeOf c with
      | some i =>
        if before.crane.state = .arming ∧ (before.chan c).drive ≠ .active ∧ (after.chan c).drive = .active then b.set i false
        else b
      | none => b) before.crane.brakes

/-- R12: the nine command records, each with the setpoint as it stands at the exchange. -/
def commandRecords (s : State) : List (List Byte) := allChans.map fun c => driveCommand c (s.chan c)

/-- R12 to R15, R35, R87: one exchange. Every reply is taken by the command sent with it; the rises are then handed
over in channel order (log entry 6). -/
def driveExchange (replies : PerChannel (Option (List Byte))) (s : State) : State :=
  let t := { s with channels := .ofFn (exchangeRecord s replies), driveBus := commandRecords s }
  let t := { t with crane := { t.crane with brakes := releaseBrakes s t } }
  let t := setCondition .drive (driveCondition t) t
  allChans.foldl
    (fun t c => match exchangeRise s replies c with
      | some k => rise (.drive c k) t
      | none => t) t

def execDriveExchange (replies : PerChannel (Option (List Byte))) (s : State) : Host.Outcome State Fault Refusal :=
  .next (whileRunning (driveExchange replies) s)

end Sys2Proof.Machine
end

