-- ==== Sys2Proof/Machine/Geometry.lean ====
section
/-! DEFINITION. The Geometry Unit: the sine table (R50, R201), sine and cosine (R51, R52), the rounding of
products (R53), the head point and its validity (R55 to R57). -/

namespace Sys2Proof.Machine

/-! ## The sine table (R201), sixteen entries a row -/

def sineRow0 : List Int := [0, 101, 201, 302, 402, 503, 603, 704, 804, 904, 1005, 1105, 1205, 1306, 1406, 1506]
def sineRow1 : List Int := [1606, 1706, 1806, 1906, 2006, 2105, 2205, 2305, 2404, 2503, 2603, 2702, 2801, 2900, 2999, 3098]
def sineRow2 : List Int := [3196, 3295, 3393, 3492, 3590, 3688, 3786, 3883, 3981, 4078, 4176, 4273, 4370, 4467, 4563, 4660]
def sineRow3 : List Int := [4756, 4852, 4948, 5044, 5139, 5235, 5330, 5425, 5520, 5614, 5708, 5803, 5897, 5990, 6084, 6177]
def sineRow4 : List Int := [6270, 6363, 6455, 6547, 6639, 6731, 6823, 6914, 7005, 7096, 7186, 7276, 7366, 7456, 7545, 7635]
def sineRow5 : List Int := [7723, 7812, 7900, 7988, 8076, 8163, 8250, 8337, 8423, 8509, 8595, 8680, 8765, 8850, 8935, 9019]
def sineRow6 : List Int := [9102, 9186, 9269, 9352, 9434, 9516, 9598, 9679, 9760, 9841, 9921, 10001, 10080, 10159, 10238, 10316]
def sineRow7 : List Int := [10394, 10471, 10549, 10625, 10702, 10778, 10853, 10928, 11003, 11077, 11151, 11224, 11297, 11370, 11442, 11514]
def sineRow8 : List Int := [11585, 11656, 11727, 11797, 11866, 11935, 12004, 12072, 12140, 12207, 12274, 12340, 12406, 12472, 12537, 12601]
def sineRow9 : List Int := [12665, 12729, 12792, 12854, 12916, 12978, 13039, 13100, 13160, 13219, 13279, 13337, 13395, 13453, 13510, 13567]
def sineRow10 : List Int := [13623, 13678, 13733, 13788, 13842, 13896, 13949, 14001, 14053, 14104, 14155, 14206, 14256, 14305, 14354, 14402]
def sineRow11 : List Int := [14449, 14497, 14543, 14589, 14635, 14680, 14724, 14768, 14811, 14854, 14896, 14937, 14978, 15019, 15059, 15098]
def sineRow12 : List Int := [15137, 15175, 15213, 15250, 15286, 15322, 15357, 15392, 15426, 15460, 15493, 15525, 15557, 15588, 15619, 15649]
def sineRow13 : List Int := [15679, 15707, 15736, 15763, 15791, 15817, 15843, 15868, 15893, 15917, 15941, 15964, 15986, 16008, 16029, 16049]
def sineRow14 : List Int := [16069, 16088, 16107, 16125, 16143, 16160, 16176, 16192, 16207, 16221, 16235, 16248, 16261, 16273, 16284, 16295]
def sineRow15 : List Int := [16305, 16315, 16324, 16332, 16340, 16347, 16353, 16359, 16364, 16369, 16373, 16376, 16379, 16381, 16383, 16384]

/-- R50, R201: the 257 entries. -/
def sineTable : List Int :=
  sineRow0 ++ sineRow1 ++ sineRow2 ++ sineRow3 ++ sineRow4 ++ sineRow5 ++ sineRow6 ++ sineRow7 ++
    sineRow8 ++ sineRow9 ++ sineRow10 ++ sineRow11 ++ sineRow12 ++ sineRow13 ++ sineRow14 ++ sineRow15 ++ [16384]

def sineEntry (i : Nat) : Int := sineTable.getD i 16384

/-- R51: the quarter-wave function S for 0 to 16,384 angle counts. -/
def quarterSine (x : Nat) : Int :=
  let i := x / 64
  if i = 256 then 16384
  else sineEntry i + floorDiv ((sineEntry (i + 1) - sineEntry i) * Int.ofNat (x % 64) + 32) 64

/-- R52: the sine of any angle count. -/
def sine (a : Int) : Int :=
  let w := (a % 65536).toNat
  let x := w % 16384
  match w / 16384 with
  | 0 => quarterSine x
  | 1 => quarterSine (16384 - x)
  | 2 => -quarterSine x
  | _ => -quarterSine (16384 - x)

/-- R52. -/
def cosine (a : Int) : Int := sine (a + 16384)

/-- R53: a product brought back to dmm. -/
def roundProduct (p : Int) : Int := floorDiv (p + 8192) 16384

/-- R55: the head point of four setpoints. -/
def headPoint (armBase pivotHeight : Nat) (t sw b r : Int) (valid : Bool) : HeadPoint :=
  let len := Int.ofNat armBase + r
  let h := roundProduct (len * cosine b)
  ⟨t + roundProduct (h * cosine sw), roundProduct (h * sine sw), Int.ofNat pivotHeight + roundProduct (len * sine b), valid⟩

/-- R57: the crane states in which an inactive drive's stale count bears on validity. -/
def restingState (st : CraneState) : Bool := (st == .parked) || (st == .tripped) || (st == .parking)

/-- R57: the valid flag. -/
def headValid (s : State) : Bool :=
  allChans.all fun c => !isArm c ||
    ((s.chan c).known &&
      (!restingState s.crane.state || ((s.chan c).drive == .active) || ((s.chan c).stale == 0)))

/-- R55 to R57: one update. -/
def geometryUpdate (s : State) : State :=
  let sp := fun c => (s.chan c).setpoint
  { s with
    head := headPoint s.config.armBase s.config.pivotHeight (sp .track) (sp .swing) (sp .boom) (sp .reach) (headValid s) }

def execGeometryUpdate (s : State) : Host.Outcome State Fault Refusal := .next (whileRunning geometryUpdate s)

end Sys2Proof.Machine
end

