-- ==== Sys2Proof/Machine/Lens.lean ====
section
/-! DEFINITION. The Lens Controller: lens maps and their selection (R156 to R160), targets (R161 to R163), and
focus tracking (R164 to R170). The setting off of tracking stands in Machine/Ops.lean. -/

namespace Sys2Proof.Machine

def lensChans : List Chan := [.focus, .iris, .zoom]

/-- R160: a bank number 0 to 3. -/
def bankOfNumber (n : Nat) : Option (Fin 4) := if h : n < 4 then some ⟨n, h⟩ else none

/-! ## LENS_MAP_SET (R157) -/

/-- R156: distances within range and rising. -/
def distancesRise : List MapPointOperands → Bool
  | [] => true
  | [p] => natRange 100 1000000 p.distance.toNat
  | p :: q :: ps => natRange 100 1000000 p.distance.toNat && decide (p.distance.toNat < q.distance.toNat) && distancesRise (q :: ps)

/-- R197: bit 0 of the limit flags says that the iris pair is given, bit 1 the zoom pair (log entry 18). -/
def irisGiven (m : LensMapOperands) : Bool := m.limitFlags.getLsbD 0
def zoomGiven (m : LensMapOperands) : Bool := m.limitFlags.getLsbD 1

/-- R157, test 1, apart from the bank's number. -/
def mapOperandsValid (m : LensMapOperands) : Bool :=
  natRange 2 32 m.points.length && distancesRise m.points &&
    (!irisGiven m || decide (m.irisLo.toNat ≤ m.irisHi.toNat)) &&
    (!zoomGiven m || decide (m.zoomLo.toNat ≤ m.zoomHi.toNat))

/-- R156: the map as stored; a pair that is not given is absent. -/
def storedMap (m : LensMapOperands) : LensMap where
  tag := m.tag
  points := m.points.map fun p => ⟨p.distance.toNat, p.count.toNat⟩
  iris := if irisGiven m then some ⟨m.irisLo.toNat, m.irisHi.toNat⟩ else none
  zoom := if zoomGiven m then some ⟨m.zoomLo.toNat, m.zoomHi.toNat⟩ else none

def setBanks (s : State) (b : PerFour (Option LensMap)) : State := { s with lens := { s.lens with banks := b } }

/-- R157: R10 treats each lens channel whose limits in force were changed. -/
def applyChangedLimits (before s : State) : State :=
  lensChans.foldl (fun t c => if before.limits c = t.limits c then t else applyLimits t c) s

/-- R157, test 2: a lens channel is owned by TAKE or TRACK. -/
def lensInPlay (s : State) : Bool :=
  lensChans.any fun c => ((s.chan c).owner == .take) || ((s.chan c).owner == .track)

def requestLensMapSet (m : LensMapOperands) (s : State) : State × Reply :=
  if m.points.length ≠ m.pointCount.toNat then refuse s .badLength
  else match bankOfNumber m.bank.toNat with
    | none => refuse s .badOperand
    | some b =>
      if mapOperandsValid m = false then refuse s .badOperand
      else if s.lens.selected = some b ∧ lensInPlay s then refuse s .locked
      else
        let t := setBanks s (s.lens.banks.set b (some (storedMap m)))
        accept (if s.lens.selected = some b then applyChangedLimits s t else t) []

def execLensMapSet (m : LensMapOperands) (s : State) : Host.Outcome State Fault Refusal :=
  .next (acceptUnit (requestLensMapSet m) s)

/-! ## LENS_MAP_GET and LENS_MAP_RETIRE (R158) -/

/-- R197: the four bytes of a limit pair. What an absent pair is sent as is a free value (log entry 3); `place` is
0 for the iris pair and 2 for the zoom pair. -/
def limitPairBytes (b : Fin 4) (place : Fin 4) : Option LimitPair → List Byte
  | some p => u16 p.lo ++ u16 p.hi
  | none => bytes16 (Config.absentLimitField b place) ++ bytes16 (Config.absentLimitField b (place + 1))

/-- R197: the lens map record with the selected flag. -/
def mapRecord (b : Fin 4) (selected : Bool) (m : LensMap) : List Byte :=
  u8 b.val ++ u16 m.tag.toNat ++ u8 m.points.length ++
    [(if m.iris.isSome then 1#8 else 0#8) ||| (if m.zoom.isSome then 2#8 else 0#8)] ++
    limitPairBytes b 0 m.iris ++ limitPairBytes b 2 m.zoom ++
    (m.points.flatMap fun p => u32 p.distance ++ u16 p.count) ++ flagByte selected

def requestLensMapGet (bank : Byte) (s : State) : State × Reply :=
  match bankOfNumber bank.toNat with
  | none => refuse s .badOperand
  | some b =>
    match s.lens.banks.get b with
    | none => refuse s .notFound
    | some m => accept s (mapRecord b (s.lens.selected == some b) m)

def execLensMapGet (bank : Byte) (s : State) : Host.Outcome State Fault Refusal :=
  .next (acceptUnit (requestLensMapGet bank) s)

def requestLensMapRetire (bank : Byte) (s : State) : State × Reply :=
  match bankOfNumber bank.toNat with
  | none => refuse s .badOperand
  | some b =>
    if (s.lens.banks.get b).isNone then refuse s .notFound
    else if s.lens.selected = some b then refuse s .inUse
    else accept (setBanks s (s.lens.banks.set b none)) []

def execLensMapRetire (bank : Byte) (s : State) : Host.Outcome State Fault Refusal :=
  .next (acceptUnit (requestLensMapRetire bank) s)

/-! ## LENS_SELECT (R160) -/

/-- R199: a bank number, or 0xFF for NONE; the outer none is a refusal. -/
def bankOperand (b : Byte) : Option (Option (Fin 4)) :=
  if b = 0xFF#8 then some none else (bankOfNumber b.toNat).map some

/-- R160, test 3. -/
def lensClaimed (s : State) : Bool :=
  lensInPlay s || lensChans.any fun c => (s.chan c).owner == .wheel

/-- R160, test 4. -/
def lensMoving (s : State) : Bool := lensChans.any fun c => decide ((s.chan c).velocity ≠ 0)

/-- R159, R160: the bank is selected, and the limits of the three lens channels act together. -/
def selectBank (b : Option (Fin 4)) (s : State) : State :=
  lensChans.foldl applyLimits { s with lens := { s.lens with selected := b } }

def requestLensSelect (bank : Byte) (s : State) : State × Reply :=
  match bankOperand bank with
  | none => refuse s .badOperand
  | some b =>
    if (b.any fun k => (s.lens.banks.get k).isNone) = true then refuse s .notFound
    else if lensClaimed s then refuse s .owned
    else if lensMoving s then refuse s .moving
    else accept (selectBank b s) []

def execLensSelect (bank : Byte) (s : State) : Host.Outcome State Fault Refusal :=
  .next (acceptUnit (requestLensSelect bank) s)

/-! ## Targets (R161 to R163) -/

def targetNumberValid (n : Nat) : Bool := natRange 1 Config.targetCapacity n

def coordinateLimit : Int := 2000000

/-- R162: the operands of TARGET_SET lie within their ranges. -/
def targetOperandsValid (number : Byte) (x y z : BitVec 32) (maxAge : BitVec 16) : Bool :=
  let ok := fun (v : BitVec 32) => inRange (-coordinateLimit) coordinateLimit v.toInt
  targetNumberValid number.toNat && ok x && ok y && ok z &&
    (decide (maxAge.toNat = 0) || natRange 10 10000 maxAge.toNat)

def setTargets (s : State) (ts : List Target) : State := { s with lens := { s.lens with targets := ts } }

def requestTargetSet (number : Byte) (x y z : BitVec 32) (maxAge : BitVec 16) (s : State) : State × Reply :=
  if targetOperandsValid number x y z maxAge = false then refuse s .badOperand
  else
    let t : Target := ⟨number.toNat, x.toInt, y.toInt, z.toInt, maxAge.toNat, 0⟩
    accept (setTargets s (upsert (·.number) t s.lens.targets)) []

def execTargetSet (origin : Origin) (number : Byte) (x y z : BitVec 32) (maxAge : BitVec 16) (s : State) :
    Host.Outcome State Fault Refusal :=
  .next (acceptFrom origin (0x54#8 :: number :: bytes32 x ++ bytes32 y ++ bytes32 z ++ bytes16 maxAge)
    (requestTargetSet number x y z maxAge) s)

/-- R161: STALE. -/
def targetStale (t : Target) : Bool := decide (0 < t.maxAge) && decide (t.maxAge < t.age)

/-- R164: the tracked target is this one. -/
def tracked (s : State) (n : Nat) : Bool := !(s.lens.tracking.state == .off) && (s.lens.tracking.target == some n)

/-- R199: the fields of TARGET_GET that only the tracked target carries. -/
def trackedBytes (k : Tracking) : List Byte :=
  [0x01#8 ||| (if k.range then 2#8 else 0#8) ||| (if k.distance.isSome then 4#8 else 0#8) |||
      (if k.count.isSome then 8#8 else 0#8), trackCode k.state] ++
    u32 (k.distance.getD 0) ++ u16 (k.count.getD 0)

/-- R199: the reply of TARGET_GET. -/
def targetRecord (s : State) (t : Target) : List Byte :=
  u8 t.number ++ s32 t.x ++ s32 t.y ++ s32 t.z ++ u16 t.maxAge ++ u16 t.age ++ flagByte (targetStale t) ++
    (if tracked s t.number then trackedBytes s.lens.tracking else [0#8, 0#8] ++ u32 0 ++ u16 0)

def requestTargetGet (number : Byte) (s : State) : State × Reply :=
  if targetNumberValid number.toNat = false then refuse s .badOperand
  else match s.findTarget number.toNat with
    | none => refuse s .notFound
    | some t => accept s (targetRecord s t)

def execTargetGet (number : Byte) (s : State) : Host.Outcome State Fault Refusal :=
  .next (acceptUnit (requestTargetGet number) s)

def requestTargetRetire (number : Byte) (s : State) : State × Reply :=
  let n := number.toNat
  if targetNumberValid n = false then refuse s .badOperand
  else if (s.findTarget n).isNone then refuse s .notFound
  else if tracked s n then refuse s .inUse
  else accept (setTargets s (eraseKey (·.number) n s.lens.targets)) []

def execTargetRetire (number : Byte) (s : State) : Host.Outcome State Fault Refusal :=
  .next (acceptUnit (requestTargetRetire number) s)

/-! ## The measure of tracking (R166, R167) -/

/-- R166: the focus distance in mm. -/
def focusDistance (h : HeadPoint) (t : Target) : Nat :=
  (isqrt ((h.x - t.x).natAbs ^ 2 + (h.y - t.y).natAbs ^ 2 + (h.z - t.z).natAbs ^ 2) + 5) / 10

/-- R167: the count between two points. -/
def between (p q : MapPoint) (d : Nat) : Int :=
  Int.ofNat p.count + truncDiv ((Int.ofNat q.count - Int.ofNat p.count) * (Int.ofNat d - Int.ofNat p.distance))
    (Int.ofNat q.distance - Int.ofNat p.distance)

/-- R167: the count and RANGE of a distance that does not lie below point p, the points after which are given. A
distance equal to the last point's gives that point's count and leaves RANGE clear. -/
def lookupFrom (d : Nat) (p : MapPoint) : List MapPoint → Int × Bool
  | [] => (Int.ofNat p.count, decide (p.distance < d))
  | q :: rest => if d < q.distance then (between p q d, false) else lookupFrom d q rest

/-- R167: focus count and RANGE of a distance. -/
def focusLookup (points : List MapPoint) (d : Nat) : Int × Bool :=
  match points with
  | [] => (0, true)
  | p :: rest => if d < p.distance then (Int.ofNat p.count, true) else lookupFrom d p rest

/-! ## Tracking (R165, R168 to R170) -/

/-- R168: the count written as FOCUS's position target; TRACK owns FOCUS while tracking is on (R164). -/
def writeFocus (count : Int) (s : State) : State :=
  if (s.chan .focus).owner = .track then s.setChan .focus { s.chan .focus with target := some count } else s

def setTracking (s : State) (k : Tracking) : State := { s with lens := { s.lens with tracking := k } }

/-- R168: an evaluation, less its notice. -/
def evaluateTracking (s : State) : State :=
  let k := s.lens.tracking
  let usable := s.head.valid && ((k.target.bind s.findTarget).any fun t => !targetStale t)
  match k.target.bind s.findTarget, s.selectedMap with
  | some t, some m =>
    if usable then
      let d := focusDistance s.head t
      let r := focusLookup m.points d
      writeFocus r.1 (setTracking s { k with state := .active, distance := some d, count := some r.1.toNat, range := r.2 })
    else setTracking s { k with state := .suspended }
  | _, _ => setTracking s { k with state := .suspended }

/-- R170: the TRACK notice of the present record. -/
def raiseTracking (s : State) : State :=
  raiseTrack ⟨s.lens.tracking.state, s.lens.tracking.range, s.lens.tracking.target⟩ s

def requestTrackOn (number : Byte) (s : State) : State × Reply :=
  let n := number.toNat
  if targetNumberValid n = false then refuse s .badOperand
  else if s.lens.selected.isNone then refuse s .noMap
  else if (s.findTarget n).isNone then refuse s .notFound
  else match claimCode .track false s .focus with
    | some code => refuse s code
    | none =>
      let g := grant .track .position none (some (s.chan .focus).setpoint) .focus s
      let t := raiseTracking (evaluateTracking (setTracking g { g.lens.tracking with target := some n }))
      accept t [trackCode t.lens.tracking.state]

def execTrackOn (number : Byte) (s : State) : Host.Outcome State Fault Refusal :=
  .next (acceptUnit (requestTrackOn number) s)

/-- R169: TRACK_OFF releases FOCUS, which TRACK owns while tracking is on (R164). -/
def releaseTracked (s : State) : State := if (s.chan .focus).owner = .track then releaseOwner .focus s else s

def requestTrackOff (s : State) : State × Reply :=
  if s.lens.tracking.state = .off then refuse s .state
  else accept (trackingOff (releaseTracked s)) []

def execTrackOff (s : State) : Host.Outcome State Fault Refusal := .next (acceptUnit requestTrackOff s)

/-! ## The update (R161, R168) -/

def ageTarget (t : Target) : Target := { t with age := min 65535 (t.age + 1) }

/-- R168: the evaluation of an update, which raises TRACK at a change of state or RANGE. -/
def trackUpdate (s : State) : State :=
  if s.lens.tracking.state = .off then s
  else
    let t := evaluateTracking s
    if t.lens.tracking.state ≠ s.lens.tracking.state ∨ t.lens.tracking.range ≠ s.lens.tracking.range then raiseTracking t
    else t

/-- R161, R168: one update: the ages, then the evaluation. -/
def lensUpdate (s : State) : State := trackUpdate (setTargets s (s.lens.targets.map ageTarget))

def execLensUpdate (s : State) : Host.Outcome State Fault Refusal := .next (whileRunning lensUpdate s)

/-- R161: target n is STALE. -/
def staleTarget (s : State) (n : Nat) : Bool := (s.findTarget n).any targetStale

/-- R161: the update at which a target becomes STALE. -/
def execTargetStale (number : Byte) (s : State) : Host.Outcome State Fault Refusal :=
  .next (eventOf lensUpdate (fun s t => !staleTarget s number.toNat && staleTarget t number.toNat) s)

end Sys2Proof.Machine
end

