-- ==== Sys2Proof/Machine/Marks.lean ====
section
/-! DEFINITION. The mark requests of the Record Store (R106 to R118). -/

namespace Sys2Proof.Machine

/-- R194, R106: a mark number. -/
def markNumberValid (n : Nat) : Bool := natRange 1 Config.markCapacity n

/-- R111, R112, tests 1 and 2; none accepts. -/
def markWriteCode (number : Byte) (mask : ChannelMask) (s : State) : Option ResultCode :=
  if markNumberValid number.toNat = false ∨ maskValid mask = false then some .badOperand
  else if (s.findMark number.toNat).any (·.locked) then some .locked
  else none

/-- R110: values brought within the limits in force. -/
def clampValues (s : State) (values : List (Chan × Int)) : List (Chan × Int) :=
  values.map fun p => (p.1, clampInt (s.lo p.1) (s.hi p.1) p.2)

/-- R110: the channels whose values are clamped. -/
def clampedChannels (s : State) (values : List (Chan × Int)) : PerChannel Bool :=
  .ofFn fun c => values.any fun p => (p.1 == c) && (clampInt (s.lo c) (s.hi c) p.2 != p.2)

/-- A value for each channel of a list. -/
def valuesOf (values : List (Chan × Int)) : PerChannel (Option Int) :=
  .ofFn fun c => (values.find? fun p => p.1 == c).map (·.2)

/-- R107, R111: the mark that a request stores; a replacement keeps the reference count and the lock. -/
def storedMark (old : Option Mark) (n : Nat) (tag : BitVec 16) (values : List (Chan × Int)) : Mark where
  number := n
  tag := tag
  values := valuesOf values
  refCount := (old.map (·.refCount)).getD 0
  locked := (old.map (·.locked)).getD false

/-- R110, R111, R113: the mark is stored; the answer is the mask of the channels clamped. -/
def storeMark (n : Nat) (tag : BitVec 16) (values : List (Chan × Int)) (s : State) : State × ChannelMask :=
  ({ s with marks := upsert (·.number) (storedMark (s.findMark n) n tag (clampValues s values)) s.marks },
    maskOf (clampedChannels s values))

/-- R110: OK, or CLAMPED when a value was clamped. -/
def clampResult (clamped : ChannelMask) : ResultCode := if clamped = 0#16 then .ok else .clamped

def requestMarkSet (number : Byte) (tag : BitVec 16) (mask : ChannelMask) (values : List (BitVec 32)) (s : State) :
    State × Reply :=
  if values.length ≠ maskCount mask then refuse s .badLength
  else match markWriteCode number mask s with
    | some code => refuse s code
    | none =>
      let r := storeMark number.toNat tag ((maskChans mask).zip (values.map BitVec.toInt)) s
      (r.1, ⟨clampResult r.2, maskBytes r.2⟩)

def execMarkSet (number : Byte) (tag : BitVec 16) (mask : ChannelMask) (values : List (BitVec 32)) (s : State) :
    Host.Outcome State Fault Refusal :=
  .next (acceptUnit (requestMarkSet number tag mask values) s)

/-- R112, test 3: the setpoint describes where the axis stands. -/
def capturable (r : Channel) : Bool := r.known && ((r.drive == .active) || (r.stale == 0))

/-- R113: the setpoints of the channels of the mask. -/
def capturedValues (mask : ChannelMask) (s : State) : List (Chan × Int) :=
  (maskChans mask).map fun c => (c, (s.chan c).setpoint)

def requestMarkCapture (number : Byte) (tag : BitVec 16) (mask : ChannelMask) (s : State) : State × Reply :=
  match markWriteCode number mask s with
  | some code => refuse s code
  | none =>
    if ((maskChans mask).all fun c => capturable (s.chan c)) = false then refuse s .state
    else
      let values := capturedValues mask s
      let r := storeMark number.toNat tag values s
      (r.1, ⟨clampResult r.2, maskBytes r.2 ++ (clampValues s values).flatMap fun p => s32 p.2⟩)

def execMarkCapture (number : Byte) (tag : BitVec 16) (mask : ChannelMask) (s : State) :
    Host.Outcome State Fault Refusal :=
  .next (acceptUnit (requestMarkCapture number tag mask) s)

/-- R107: the present channels of a mark. -/
def presentChannels (m : Mark) : PerChannel Bool := .ofFn fun c => (m.values.get c).isSome

/-- R197: the mark record. -/
def markRecord (m : Mark) : List Byte :=
  u8 m.number ++ u16 m.tag.toNat ++ maskBytes (maskOf (presentChannels m)) ++ u16 m.refCount ++ flagByte m.locked ++
    allChans.flatMap fun c => match m.values.get c with
      | some v => s32 v
      | none => []

def requestMarkGet (number : Byte) (s : State) : State × Reply :=
  if markNumberValid number.toNat = false then refuse s .badOperand
  else match s.findMark number.toNat with
    | none => refuse s .notFound
    | some m => accept s (markRecord m)

def execMarkGet (number : Byte) (s : State) : Host.Outcome State Fault Refusal :=
  .next (acceptUnit (requestMarkGet number) s)

/-- R115: the most numbers that one MARK_LIST returns. -/
def markListMax : Nat := 60

/-- R115: count, more flag, and the numbers at or above n. -/
def markListBytes (n : Nat) (marks : List Mark) : List Byte :=
  let all := (marks.filter fun m => decide (n ≤ m.number)).map (·.number)
  let shown := all.take markListMax
  u8 shown.length ++ flagByte (decide (markListMax < all.length)) ++ shown.map (BitVec.ofNat 8)

def requestMarkList (number : Byte) (s : State) : State × Reply :=
  if markNumberValid number.toNat = false then refuse s .badOperand
  else accept s (markListBytes number.toNat s.marks)

def execMarkList (number : Byte) (s : State) : Host.Outcome State Fault Refusal :=
  .next (acceptUnit (requestMarkList number) s)

def requestMarkRetire (number : Byte) (s : State) : State × Reply :=
  let n := number.toNat
  if markNumberValid n = false then refuse s .badOperand
  else match s.findMark n with
    | none => refuse s .notFound
    | some m =>
      if m.locked then refuse s .locked
      else if m.refCount ≠ 0 then refuse s .inUse
      else accept { s with marks := eraseKey (·.number) n s.marks } []

def execMarkRetire (number : Byte) (s : State) : Host.Outcome State Fault Refusal :=
  .next (acceptUnit (requestMarkRetire number) s)

end Sys2Proof.Machine
end

