-- ==== Sys2Proof/Machine/Takes.lean ====
section
/-! DEFINITION. The take requests of the Record Store: the take table, the cue lists and the cue pool (R119 to
R133), with the reference counts that they keep (R108). -/

namespace Sys2Proof.Machine

def takeNumberValid (n : Nat) : Bool := natRange 1 Config.takeCapacity n

/-- The cues of all takes together. -/
def cuesStored (takes : List Take) : Nat := (takes.map fun t => t.cues.length).sum

/-- R122: the pool's free count. -/
def State.freeCues (s : State) : Nat := Config.poolCapacity - cuesStored s.takes

/-! ## TAKE_CREATE (R125) -/

/-- R123, R125: a take as it is created. -/
def newTake (n : Nat) (tag : BitVec 16) : Take := ⟨n, tag, [], .none, 0, 0, false⟩

def requestTakeCreate (number : Byte) (tag : BitVec 16) (s : State) : State × Reply :=
  let n := number.toNat
  if takeNumberValid n = false then refuse s .badOperand
  else if (s.findTake n).isSome then refuse s .exists_
  else accept { s with takes := upsert (·.number) (newTake n tag) s.takes } []

def execTakeCreate (number : Byte) (tag : BitVec 16) (s : State) : Host.Outcome State Fault Refusal :=
  .next (acceptUnit (requestTakeCreate number tag) s)

/-! ## Cues -/

def maxDuration : Nat := 600000

/-- R126, the first step: the cue's operands lie within their ranges. -/
def cueValid (q : CueOperands) : Bool :=
  markNumberValid q.mark.toNat && natRange 1 maxDuration q.travel.toNat && natRange 0 maxDuration q.dwell.toNat &&
    (twoValued q.curve).isSome && maskValid q.mask

/-- R121: the cue as stored. -/
def storedCue (q : CueOperands) : Cue where
  mark := q.mark.toNat
  travel := q.travel.toNat
  dwell := q.dwell.toNat
  curve := if q.curve = 0#8 then .linear else .ease
  mask := q.mask

/-- R108: a mark's reference count changed by the cues it gains and loses. -/
def countCues (n : Nat) (cues : List Cue) : Nat := (cues.filter fun q => q.mark == n).length

/-- R108: every mark gains a reference for each cue added that names it, and loses one for each cue removed. -/
def moveReferences (added removed : List Cue) (marks : List Mark) : List Mark :=
  marks.map fun m => { m with refCount := m.refCount + countCues m.number added - countCues m.number removed }

/-- A take's cue list is replaced, with the reference counts that follow (R108). -/
def setCues (t : Take) (cues added removed : List Cue) (s : State) : State :=
  { s with
    takes := s.takes.map fun u => if u.number = t.number then { u with cues := cues } else u
    marks := moveReferences added removed s.marks }

/-- R199: the cue count of the take and the pool's free count. -/
def cueCounts (cues : List Cue) (s : State) : List Byte := u8 cues.length ++ u16 s.freeCues

/-- An accepted cue edit. -/
def editCues (t : Take) (cues added removed : List Cue) (s : State) : State × Reply :=
  let u := setCues t cues added removed s
  accept u (cueCounts cues u)

/-- A cue put at position k, 1 for the first. -/
def insertCue (k : Nat) (q : Cue) (cues : List Cue) : List Cue := cues.take (k - 1) ++ q :: cues.drop (k - 1)
/-- The cue at position k replaced. -/
def replaceCue (k : Nat) (q : Cue) (cues : List Cue) : List Cue := cues.take (k - 1) ++ q :: cues.drop k
/-- The cue at position k removed. -/
def deleteCue (k : Nat) (cues : List Cue) : List Cue := cues.take (k - 1) ++ cues.drop k
/-- The cue at position k, in a list of its own; empty when there is none. -/
def cueAt (k : Nat) (cues : List Cue) : List Cue := (cues.drop (k - 1)).take 1

/-- R127. -/
def requestTakeCueInsert (number position : Byte) (q : CueOperands) (s : State) : State × Reply :=
  let k := position.toNat
  if takeNumberValid number.toNat = false ∨ natRange 1 65 k = false ∨ cueValid q = false then refuse s .badOperand
  else match s.findTake number.toNat with
    | none => refuse s .notFound
    | some t =>
      if t.active then refuse s .locked
      else if t.cues.length + 1 < k then refuse s .badOperand
      else if Config.cuesPerTake ≤ t.cues.length ∨ s.freeCues = 0 then refuse s .full
      else if (s.findMark q.mark.toNat).isNone then refuse s .notFound
      else editCues t (insertCue k (storedCue q) t.cues) [storedCue q] [] s

def execTakeCueInsert (number position : Byte) (q : CueOperands) (s : State) : Host.Outcome State Fault Refusal :=
  .next (acceptUnit (requestTakeCueInsert number position q) s)

/-- R128. -/
def requestTakeCueReplace (number position : Byte) (q : CueOperands) (s : State) : State × Reply :=
  let k := position.toNat
  if takeNumberValid number.toNat = false ∨ natRange 1 Config.cuesPerTake k = false ∨ cueValid q = false then
    refuse s .badOperand
  else match s.findTake number.toNat with
    | none => refuse s .notFound
    | some t =>
      if t.active then refuse s .locked
      else if t.cues.length < k then refuse s .badOperand
      else if (s.findMark q.mark.toNat).isNone then refuse s .notFound
      else editCues t (replaceCue k (storedCue q) t.cues) [storedCue q] (cueAt k t.cues) s

def execTakeCueReplace (number position : Byte) (q : CueOperands) (s : State) : Host.Outcome State Fault Refusal :=
  .next (acceptUnit (requestTakeCueReplace number position q) s)

/-- R129. -/
def requestTakeCueDelete (number position : Byte) (s : State) : State × Reply :=
  let k := position.toNat
  if takeNumberValid number.toNat = false ∨ natRange 1 Config.cuesPerTake k = false then refuse s .badOperand
  else match s.findTake number.toNat with
    | none => refuse s .notFound
    | some t =>
      if t.active then refuse s .locked
      else if t.cues.length < k then refuse s .badOperand
      else editCues t (deleteCue k t.cues) [] (cueAt k t.cues) s

def execTakeCueDelete (number position : Byte) (s : State) : Host.Outcome State Fault Refusal :=
  .next (acceptUnit (requestTakeCueDelete number position) s)

/-! ## TAKE_RETIRE (R130) -/

def requestTakeRetire (number : Byte) (s : State) : State × Reply :=
  let n := number.toNat
  if takeNumberValid n = false then refuse s .badOperand
  else match s.findTake n with
    | none => refuse s .notFound
    | some t =>
      if t.active then refuse s .locked
      else
        let u : State := { s with
          takes := eraseKey (·.number) n s.takes
          marks := moveReferences [] t.cues s.marks }
        accept u (u16 u.freeCues)

def execTakeRetire (number : Byte) (s : State) : Host.Outcome State Fault Refusal :=
  .next (acceptUnit (requestTakeRetire number) s)

/-! ## TAKE_GET and TAKE_LIST (R131, R132) -/

/-- R131: the most cues that one TAKE_GET returns. -/
def takeGetMax : Nat := 16

/-- R197: a cue as returned: its position and its twelve bytes. -/
def cueRecord (p : Nat × Cue) : List Byte :=
  u8 p.1 ++ u8 p.2.mark ++ u32 p.2.travel ++ u32 p.2.dwell ++ [curveCode p.2.curve] ++ maskBytes p.2.mask

/-- The cues of a list with their positions, the first of which is k. -/
def numberCues : Nat → List Cue → List (Nat × Cue)
  | _, [] => []
  | k, q :: qs => (k, q) :: numberCues (k + 1) qs

/-- R131, R197: the take header, its more flag, and the cues from position k. -/
def takeRecord (t : Take) (k : Nat) : List Byte :=
  let rest := t.cues.drop (k - 1)
  u8 t.number ++ u16 t.tag.toNat ++ u8 t.cues.length ++ [takeResultCode t.lastResult] ++ u16 t.lastLag ++
    u16 t.passCount ++ flagByte t.active ++ flagByte (decide (takeGetMax < rest.length)) ++
    (numberCues k (rest.take takeGetMax)).flatMap cueRecord

def requestTakeGet (number position : Byte) (s : State) : State × Reply :=
  if takeNumberValid number.toNat = false ∨ natRange 1 Config.cuesPerTake position.toNat = false then
    refuse s .badOperand
  else match s.findTake number.toNat with
    | none => refuse s .notFound
    | some t => accept s (takeRecord t position.toNat)

def execTakeGet (number position : Byte) (s : State) : Host.Outcome State Fault Refusal :=
  .next (acceptUnit (requestTakeGet number position) s)

/-- R132, R199. -/
def takeListBytes (s : State) : List Byte :=
  u8 s.takes.length ++ (s.takes.flatMap fun t => u8 t.number ++ u8 t.cues.length ++ flagByte t.active) ++ u16 s.freeCues

def requestTakeList (s : State) : State × Reply := accept s (takeListBytes s)

def execTakeList (s : State) : Host.Outcome State Fault Refusal := .next (acceptUnit requestTakeList s)

end Sys2Proof.Machine
end

