-- ==== Sys2Proof/Machine/Playback.lean ====
section
/-! DEFINITION. The Playback Engine: TAKE_ARM with its checks (R135 to R138), the start of the move (R140, R141),
the engine millisecond (R139, R142 to R146, R152), and pause, resume and abort (R148 to R150). The end step of
R153 stands in Machine/Ops.lean and the overtake of R151 in Machine/Ownership.lean. -/

namespace Sys2Proof.Machine

/-! ## Cues, channel sets and the velocity checks -/

/-- R117: the position that a cue gives a channel: in its mask and present in its mark. -/
def cuePoint (s : State) (q : Cue) (c : Chan) : Option Int :=
  if maskHas q.mask c then (s.findMark q.mark).bind fun m => m.values.get c else none

/-- R135: the channel set of a cue list. -/
def channelSet (s : State) (cues : List Cue) : PerChannel Bool :=
  .ofFn fun c => cues.any fun q => (cuePoint s q c).isSome

/-- R137: the factor of a curve's peak speed, in thousandths. -/
def peakFactor : Curve → Nat
  | .linear => 1000
  | .ease => 1500

/-- R137: the travel time carries the channel over this distance within its vmax. -/
def speedAllowed (vmax : Nat) (q : Cue) (start stop : Int) : Bool :=
  decide ((stop - start).natAbs * peakFactor q.curve ≤ vmax * q.travel)

/-- R137: the end point that a cue gives a channel under the limits in force. -/
def cueEndPoint (s : State) (q : Cue) (c : Chan) : Option Int :=
  (cuePoint s q c).map fun v => clampInt (s.lo c) (s.hi c) v

/-- R137: the lowest-indexed channel that fails in a cue, by the points that the channels stand at. -/
def failingChannel (s : State) (q : Cue) (points : PerChannel Int) : Option Chan :=
  allChans.find? fun c => match cueEndPoint s q c with
    | some e => !speedAllowed (s.cfg c).vmax q (points.get c) e
    | none => false

/-- R137: the first failure of a cue list, with the position of its cue; `k` is the position of the first. -/
def firstTooFast (s : State) : Nat → List Cue → PerChannel Int → Option (Nat × Chan)
  | _, [], _ => none
  | k, q :: qs, points =>
    match failingChannel s q points with
    | some c => some (k, c)
    | none => firstTooFast s (k + 1) qs (.ofFn fun c => (cueEndPoint s q c).getD (points.get c))

/-- R137: the setpoints from which the checks start. -/
def setpoints (s : State) : PerChannel Int := .ofFn fun c => (s.chan c).setpoint

/-! ## The cue in play and the clock -/

/-- The cues of the active take. -/
def activeCues (s : State) : List Cue := ((s.engine.take.bind s.findTake).map (·.cues)).getD []

/-- The cue in play. -/
def cueInPlay (s : State) : Option Cue := if s.engine.cueIndex = 0 then none else (activeCues s)[s.engine.cueIndex - 1]?

/-- R145: the start of the cue in play: start and end of every channel that it moves. -/
def startCue (s : State) : State :=
  match cueInPlay s with
  | none => s
  | some q =>
    let span := fun c =>
      if s.engine.set.get c then
        match s.engine.path.get c, cueEndPoint s q c with
        | some p, some e => some (Span.mk p e)
        | _, _ => none
      else none
    { s with engine := { s.engine with spans := .ofFn span } }

/-- R142: the rate target. -/
def rateTarget (s : State) : Nat :=
  if s.engine.pause then 0 else if setHasArm s.engine.set then s.zoneMonitor.scale else 1024

/-- R142: the rate step. -/
def rateStep (slew target : Nat) (pause : Bool) (rate : Nat) : Nat :=
  if target < rate then (if pause then max (rate - slew) target else target) else min (rate + slew) target

def stepRate (s : State) : State :=
  { s with engine := { s.engine with rate := rateStep s.config.rateSlew (rateTarget s) s.engine.pause s.engine.rate } }

/-- R146, step 1: the progress, 0 to 65,536. -/
def progress (e tc : Nat) : Nat := if tc ≤ e then 65536 else e * 65536 / tc

/-- R146, steps 2 and 3: the fraction. -/
def pathFraction (curve : Curve) (u : Nat) : Nat :=
  match curve with
  | .linear => u
  | .ease =>
    let u2 := u * u / 65536
    let u3 := u2 * u / 65536
    (clampInt 0 65536 (3 * Int.ofNat u2 - 2 * Int.ofNat u3)).toNat

/-- R146, step 4. -/
def interpolate (start stop : Int) (f : Nat) : Int := start + floorDiv ((stop - start) * Int.ofNat f + 32768) 65536

/-- The travel time of a cue in units of the cue time. -/
def travelUnits (q : Cue) : Nat := q.travel * 1024
/-- R143: the length of a cue in units of the cue time. -/
def cueUnits (q : Cue) : Nat := (q.travel + q.dwell) * 1024

/-- The channels that the cue in play moves have been written (R8, R153). -/
def written (e : Engine) : PerChannel Bool := .ofFn fun c => e.untaken.get c || (e.spans.get c).isSome

/-- R139, R143, R146: each channel that the cue moves is written at its interpolated setpoint; the others keep their
path points. -/
def writePath (q : Cue) (e : Engine) : Engine :=
  let f := pathFraction q.curve (progress e.cueTime (travelUnits q))
  { e with
    path := .ofFn fun c => match e.spans.get c with
      | some p => some (interpolate p.start p.stop f)
      | none => e.path.get c
    untaken := written e }

/-- R139, R143: the end points of the channels that the cue moves are written. -/
def writeEnds (e : Engine) : Engine :=
  { e with
    path := .ofFn fun c => match e.spans.get c with
      | some p => some p.stop
      | none => e.path.get c
    untaken := written e }

/-- R152: the result of a play that reaches the end of its last cue's dwell. -/
def playResult (e : Engine) : TakeResult :=
  if e.overtaken then .partial_ else if 1024 ≤ e.lag then .slowed else .done

/-! ## TAKE_ARM (R136 to R138) -/

/-- R138: the engine's record at an accepted TAKE_ARM, before cue 1 starts. -/
def armedEngine (n : Nat) (set : PerChannel Bool) (s : State) : Engine where
  state := .cueing
  take := some n
  cueIndex := 1
  cueTime := 0
  rate := 0
  pause := false
  lag := 0
  set := set
  overtaken := false
  path := .ofFn fun c => if set.get c then some (s.chan c).setpoint else none
  untaken := set
  spans := .ofFn fun _ => none
  frameWait := none

/-- R109, R124: the take becomes active and its marks are locked. -/
def lockTake (t : Take) (s : State) : State :=
  { s with
    takes := s.takes.map fun u => if u.number = t.number then { u with active := true } else u
    marks := s.marks.map fun m => if namesMark t m.number then { m with locked := true } else m }

/-- The channels of a set, in index order. -/
def setChans (p : PerChannel Bool) : List Chan := allChans.filter p.get

/-- The rate is set to the rate target, unramped (R138, R140). -/
def setRate (s : State) : State := { s with engine := { s.engine with rate := rateTarget s } }

/-- R138: the actions of an accepted TAKE_ARM. The open moves of the channels that the console loses end first, in the
order of opening (R18, R27; log entry 13). -/
def armTake (t : Take) (set : PerChannel Bool) (s : State) : State :=
  let e := armedEngine t.number set s
  let granted := (setChans set).foldl (fun s c => grant .take .path none none c s)
    (interruptMoves (fun c => set.get c && ((s.chan c).owner == .console)) s)
  raiseTakeRunning (setRate (startCue (lockTake t { granted with engine := e })))

def requestTakeArm (number : Byte) (s : State) : State × Reply :=
  if takeNumberValid number.toNat = false then refuse s .badOperand
  else match s.findTake number.toNat with
    | none => refuse s .notFound
    | some t =>
      let set := channelSet s t.cues
      if s.crane.state ≠ .ready ∨ s.engine.state ≠ .idle then refuse s .state
      else if t.cues = [] ∨ setEmpty set then refuse s .badOperand
      else if setHasBody set ∧ s.gripHeld = false then refuse s .noGrip
      else match firstTooFast s 1 t.cues (setpoints s) with
        | some (k, c) => (s, ⟨.tooFast, [BitVec.ofNat 8 k, chanByte c]⟩)
        | none =>
          match claimAllCode .take false s (setChans set) with
          | some code => refuse s code
          | none => accept (armTake t set s) (maskBytes (maskOf set))

def execTakeArm (number : Byte) (s : State) : Host.Outcome State Fault Refusal :=
  .next (acceptUnit (requestTakeArm number) s)

/-! ## TAKE_GO and the FRAME edge (R140, R141) -/

/-- R140: PLAYING starts, at cue 2 or, for a take of one cue, straight into its end (log entry 17). -/
def startPlay (s : State) : State :=
  let one := decide ((activeCues s).length ≤ 1)
  let s : State := { s with engine := { s.engine with
    state := .playing, cueIndex := if one then 1 else 2, cueTime := 0, frameWait := none } }
  if one then
    let t := raiseTakeRunning (setRate s)
    endTake (if t.engine.overtaken then .partial_ else .done) t
  else raiseTakeRunning (setRate (startCue s))

def startFrameWait (s : State) : State :=
  raiseTakeRunning { s with engine := { s.engine with state := .waitFrame, frameWait := some 0 } }

def requestTakeGo (mode : Byte) (s : State) : State × Reply :=
  match twoValued mode with
  | none => refuse s .badOperand
  | some onFrame =>
    if s.engine.state ≠ .armed then refuse s .state
    else if setHasBody s.engine.set ∧ s.gripHeld = false then refuse s .noGrip
    else accept (if onFrame then startFrameWait s else startPlay s) []

def execTakeGo (origin : Origin) (mode : Byte) (s : State) : Host.Outcome State Fault Refusal :=
  .next (acceptFrom origin [0x48#8, mode] (requestTakeGo mode) s)

/-- R83: an edge makes FRAME present TRUE and restarts its age. -/
def renewFrame (s : State) : State :=
  let f := s.stops.frame
  if f.present then { s with stops := { s.stops with frame := { f with age := 0 } } }
  else raiseInput { s with stops := { s.stops with frame := ⟨true, true, 0⟩ } }

/-- R83, R141: a rising edge of FRAME. -/
def frameEdge (s : State) : State :=
  let s := renewFrame s
  if s.engine.state = .waitFrame then startPlay s else s

def execFrameEdge (s : State) : Host.Outcome State Fault Refusal := .next (whileRunning frameEdge s)

/-! ## The engine millisecond -/

/-- R139: in CUEING. -/
def cueingMillisecond (q : Cue) (s : State) : State :=
  let s := stepRate s
  let t := s.engine.cueTime + s.engine.rate
  if travelUnits q ≤ t then
    raiseTakeRunning { s with engine := { writeEnds s.engine with cueTime := travelUnits q, state := .armed } }
  else { s with engine := writePath q { s.engine with cueTime := t } }

/-- R143, step 1: a rate of 0 with pause set makes PLAYING become PAUSED. -/
def reachPause (s : State) : State :=
  if s.engine.state = .playing ∧ s.engine.pause ∧ s.engine.rate = 0 then
    raiseTakeRunning { s with engine := { s.engine with state := .paused } }
  else s

/-- R143, R144, steps 2 and 3: the lag rises by 1,024 less the rate, the cue time by the rate. -/
def advanceClock (e : Engine) : Engine :=
  { e with lag := min Config.lagLimit (e.lag + (1024 - e.rate)), cueTime := e.cueTime + e.rate }

/-- R143, step 4: the next cue starts with the excess. -/
def nextCue (length : Nat) (s : State) : State :=
  startCue { s with engine := { writeEnds s.engine with
    cueTime := s.engine.cueTime - length, cueIndex := s.engine.cueIndex + 1 } }

/-- R143, step 5: every channel of the set is written for the present cue time, one that the cue does not move at its path
point. -/
def writeCue (s : State) : State :=
  match cueInPlay s with
  | some q => { s with engine := { writePath q s.engine with untaken := s.engine.set } }
  | none => s

/-- R143: in PLAYING and PAUSED. -/
def playingMillisecond (q : Cue) (s : State) : State :=
  let s := reachPause (stepRate s)
  let s : State := { s with engine := advanceClock s.engine }
  if s.engine.cueTime < cueUnits q then writeCue s
  else if (activeCues s).length ≤ s.engine.cueIndex then
    let s : State := { s with engine := writeEnds s.engine }
    endTake (playResult s.engine) s
  else writeCue (nextCue (cueUnits q) s)

/-- R141: in WAIT_FRAME. -/
def waitMillisecond (s : State) : State :=
  let t := s.engine.frameWait.getD 0 + 1
  let s : State := { s with engine := { s.engine with frameWait := some t } }
  if Config.frameWait ≤ t then endTake .failed s else s

/-- R139 to R143: one engine millisecond. -/
def engineMillisecond (s : State) : State :=
  match s.engine.state with
  | .idle | .armed => s
  | .waitFrame => waitMillisecond s
  | .cueing => match cueInPlay s with
    | some q => cueingMillisecond q s
    | none => s
  | .playing | .paused => match cueInPlay s with
    | some q => playingMillisecond q s
    | none => s

def execEngineMillisecond (s : State) : Host.Outcome State Fault Refusal := .next (whileRunning engineMillisecond s)

/-- R139: the millisecond at which CUEING becomes ARMED. -/
def execCueInComplete (s : State) : Host.Outcome State Fault Refusal :=
  .next (eventOf engineMillisecond (fun s t => (s.engine.state == .cueing) && (t.engine.state == .armed)) s)

/-- R143: the millisecond at which a cue is over and the next one starts. -/
def execCueEnd (s : State) : Host.Outcome State Fault Refusal :=
  .next (eventOf engineMillisecond (fun s t => decide (s.engine.cueIndex < t.engine.cueIndex)) s)

/-- R143, R148: the millisecond at which PLAYING becomes PAUSED. -/
def execPauseReached (s : State) : Host.Outcome State Fault Refusal :=
  .next (eventOf engineMillisecond (fun s t => (s.engine.state == .playing) && (t.engine.state == .paused)) s)

/-- R152: the millisecond at which the play reaches the end of its last cue's dwell. -/
def execPlayEnd (s : State) : Host.Outcome State Fault Refusal :=
  .next (eventOf engineMillisecond
    (fun s t => ((s.engine.state == .playing) || (s.engine.state == .paused)) && (t.engine.state == .idle)) s)

/-- R141: the millisecond at which the frame wait expires. -/
def execFrameWaitExpiry (s : State) : Host.Outcome State Fault Refusal :=
  .next (eventOf engineMillisecond (fun s t => (s.engine.state == .waitFrame) && (t.engine.state == .idle)) s)

/-! ## Pause, resume, abort (R148 to R150) -/

def requestTakePause (s : State) : State × Reply :=
  if s.engine.state = .playing then accept { s with engine := { s.engine with pause := true } } []
  else refuse s .state

def execTakePause (s : State) : Host.Outcome State Fault Refusal := .next (acceptUnit requestTakePause s)

/-- R149: the engine is in PAUSED, or in PLAYING with pause set. -/
def pausing (e : Engine) : Bool := (e.state == .paused) || ((e.state == .playing) && e.pause)

def requestTakeResume (s : State) : State × Reply :=
  if pausing s.engine = false then refuse s .state
  else if setHasBody s.engine.set ∧ s.gripHeld = false then refuse s .noGrip
  else
    let t : State := { s with engine := { s.engine with pause := false, state := .playing } }
    accept (if s.engine.state = .paused then raiseTakeRunning t else t) []

def execTakeResume (s : State) : Host.Outcome State Fault Refusal := .next (acceptUnit requestTakeResume s)

def requestTakeAbort (s : State) : State × Reply :=
  if s.engine.state = .idle then refuse s .state else accept (endTake .aborted s) []

def execTakeAbort (s : State) : Host.Outcome State Fault Refusal := .next (acceptUnit requestTakeAbort s)

end Sys2Proof.Machine
end

