-- ==== Sys2Proof/Machine/Reset.lean ====
section
/-! DEFINITION. Main power, RESET and the two kinds of reset (R44 to R49). The values of a cold reset are
`State.coldReset`; a warm reset is a cold one over which the retained records are kept (R45). -/

namespace Sys2Proof.Machine

/-! ## What a warm reset keeps (R47) -/

/-- R21: the assignment is kept; counter, carry and idle timer are reset. -/
def warmWheel (w : WheelInput) : WheelInput := { w with counter := 0, carry := 0, idle := none }

/-- R67: the record is kept; the derived fields are reset. The active flag is FALSE until the first evaluation, as at a
creation, for a zone on line 0 too (log entry 30). -/
def warmZone (z : Zone) : Zone :=
  { z with active := false, occupied := false, clearance := none, band := .clear, contribution := none }

/-- R106: the mark is kept and not locked. -/
def warmMark (m : Mark) : Mark := { m with locked := false }

/-- R119, R49: the take is kept and not active. -/
def warmTake (t : Take) : Take := { t with active := false }

/-- R161: the target is kept, at the greatest age. -/
def warmTarget (t : Target) : Target := { t with age := 65535 }

/-- R47: the part after a warm reset. -/
def warmReset (cause : ResetCause) (straps : Straps) (s : State) : State :=
  let r := State.coldReset cause straps
  { r with
    config := s.config
    wheels := .ofFn fun i => warmWheel (s.wheels.get i)
    zoneMonitor := ⟨s.zoneMonitor.zones.map warmZone, 0, none⟩
    marks := s.marks.map warmMark
    takes := s.takes.map warmTake
    lens := { r.lens with
      banks := s.lens.banks
      selected := s.lens.selected
      targets := s.lens.targets.map warmTarget }
    notices := resetNotices .warm
    power := ⟨true, false, s.power.backupOn, true, .warm, cause, true⟩
    freeCount := s.freeCount
    pending := s.pending }

/-- R47: the part after a cold reset. The commands that wait, and the model's own counter, stay. -/
def coldResetOf (cause : ResetCause) (straps : Straps) (s : State) : State :=
  let r := State.coldReset cause straps
  { r with power := { r.power with backupOn := s.power.backupOn }, freeCount := s.freeCount, pending := s.pending }

/-- R44: a cause that asks for a warm reset gives a cold one when the retention is invalid. -/
def performReset (warm : Bool) (cause : ResetCause) (straps : Straps) (s : State) : State :=
  if warm && s.power.retentionValid then warmReset cause straps s else coldResetOf cause straps s

/-! ## Held in reset (R46) -/

/-- R46: the brakes are applied, the drive bus is silent, ATTN and DE are released. -/
def holdInReset (s : State) : State :=
  { s with
    driveBus := []
    crane := { s.crane with brakes := .ofFn fun _ => true }
    link := { s.link with de := false }
    notices := { s.notices with attn := false } }

/-- RESET falling. It is seen only while main power is on and RESET is high (log entry 19). -/
def resetAssert (s : State) : State :=
  if s.running then { holdInReset s with power := { s.power with resetLow := true } } else s

def execResetAssert (s : State) : Host.Outcome State Fault Refusal := .next (resetAssert s)

/-- R44, R48: RESET rising: RESET_HOLD after 3,000 ms or more, RESET_PULSE after a shorter hold. -/
def resetRelease (holdMs : Nat) (straps : Straps) (s : State) : State :=
  if s.power.mainOn ∧ s.power.resetLow then
    (if 3000 ≤ holdMs then performReset false .resetHold straps s else performReset true .resetPulse straps s)
  else s

def execResetRelease (holdMs : Nat) (straps : Straps) (s : State) : Host.Outcome State Fault Refusal :=
  .next (resetRelease holdMs straps s)

/-- R44 to R46: main power fails; a RESET hold ends there. The retention RAM loses its validity mark when the backup supply
is gone already. -/
def powerLoss (s : State) : State :=
  if s.power.mainOn then
    { holdInReset s with power := { s.power with
        mainOn := false, resetLow := false, retentionValid := s.power.retentionValid && s.power.backupOn } }
  else s

def execPowerLoss (s : State) : Host.Outcome State Fault Refusal := .next (powerLoss s)

/-- R44: main power returns. No row brings a lost backup supply back; it is taken as present again with main power (log
entry 19). -/
def powerUp (straps : Straps) (s : State) : State :=
  if s.power.mainOn then s
  else performReset true (if s.power.retentionValid then .powerValid else .powerInvalid) straps
    { s with power := { s.power with backupOn := true } }

def execPowerUp (straps : Straps) (s : State) : Host.Outcome State Fault Refusal := .next (powerUp straps s)

/-- R45: the backup supply is lost. The validity mark is lost with it while main power is off. -/
def backupSupplyLoss (s : State) : State :=
  { s with power := { s.power with backupOn := false, retentionValid := s.power.retentionValid && s.power.mainOn } }

def execBackupSupplyLoss (s : State) : Host.Outcome State Fault Refusal := .next (backupSupplyLoss s)

end Sys2Proof.Machine
end

