-- ==== Sys2Proof/Machine/Status.lean ====
section
/-! DEFINITION. IDENT and STATUS (R188, R189, R198), NOTICE and NOTICE_MASK (R183, R186, R187). -/

namespace Sys2Proof.Machine

/-! ## IDENT (R189, R198) -/

def identRecord (s : State) : List Byte :=
  u16 0x2A17 ++ u16 0x7240 ++ u8 1 ++ u8 s.link.address ++ u8 s.link.rate.toNat ++ u8 Config.markCapacity ++
    u8 Config.takeCapacity ++ u16 Config.poolCapacity ++ u8 Config.zoneCapacity ++ u8 Config.bankCount ++
    u8 Config.targetCapacity ++ [resetKindCode s.power.lastKind, resetCauseCode s.power.lastCause] ++
    flagByte s.power.survived ++ [s.notices.mask, 0#8]

def requestIdent (s : State) : State × Reply := accept s (identRecord s)

def execIdent (s : State) : Host.Outcome State Fault Refusal := .next (acceptUnit requestIdent s)

/-! ## STATUS (R188, R198) -/

/-- R198: the latch detail and the condition detail of one cause. -/
def causeRecord (r : StopRecord) (c : Cause) : List Byte :=
  optCauseBytes (getCause r.latches c) ++ optCauseBytes (getCause r.conditions c)

def statusRecord (s : State) : List Byte :=
  [craneCode s.crane.state] ++ flagByte s.crane.retreat ++ firstCauseBytes s.stops.first ++
    [causeSet s.stops.latches, causeSet s.stops.conditions] ++
    maskBytes (maskOf (.ofFn fun c => (s.chan c).inhibitMinus)) ++
    maskBytes (maskOf (.ofFn fun c => (s.chan c).inhibitPlus)) ++
    [engineCode s.engine.state] ++ u8 (s.engine.take.getD 0) ++ u8 s.engine.cueIndex ++ u16 s.engine.rate ++
    u16 (lagMs s.engine.lag) ++ u16 s.zoneMonitor.scale ++ u8 (s.zoneMonitor.limiting.getD 0) ++
    s32Saturated s.head.x ++ s32Saturated s.head.y ++ s32Saturated s.head.z ++ flagByte s.head.valid ++
    [trackCode s.lens.tracking.state] ++ flagByte s.lens.tracking.range ++ [pendingSources s.notices] ++
    (allChans.map fun c => ownerCode (s.chan c).owner) ++ allCauses.flatMap (causeRecord s.stops)

def requestStatus (s : State) : State × Reply := accept s (statusRecord s)

def execStatus (s : State) : Host.Outcome State Fault Refusal := .next (acceptUnit requestStatus s)

/-! ## NOTICE (R183, R186) -/

/-- R185, R194: the sources in priority order. -/
inductive Source
  | state | zone | take | move | track | input
  deriving DecidableEq, Repr

def sourceCode : Source → Byte
  | .state => 1#8
  | .zone => 2#8
  | .take => 3#8
  | .move => 4#8
  | .track => 5#8
  | .input => 6#8

/-- What NOTICE returns of one source: its detail, padded to six bytes (R199), and its overrun flag. -/
def sourceBytes {δ : Type} (bytes : δ → List Byte) (src : NoticeSource δ) : Option (List Byte × Bool) :=
  src.detail.map fun d => (padSix (bytes d), src.overrun)

def readSource (n : NoticeUnit) : Source → Option (List Byte × Bool)
  | .state => sourceBytes stateDetailBytes n.state
  | .zone => sourceBytes zoneDetailBytes n.zone
  | .take => sourceBytes takeDetailBytes n.take
  | .move => sourceBytes moveDetailBytes n.move
  | .track => sourceBytes trackDetailBytes n.track
  | .input => sourceBytes lineSetBytes n.input

def clearSource (n : NoticeUnit) : Source → NoticeUnit
  | .state => { n with state := ⟨none, false⟩ }
  | .zone => { n with zone := ⟨none, false⟩ }
  | .take => { n with take := ⟨none, false⟩ }
  | .move => { n with move := ⟨none, false⟩ }
  | .track => { n with track := ⟨none, false⟩ }
  | .input => { n with input := ⟨none, false⟩ }

/-- R186: the highest-priority pending source. -/
def topSource (n : NoticeUnit) : Option Source :=
  if n.state.detail.isSome then some .state
  else if n.zone.detail.isSome then some .zone
  else if n.take.detail.isSome then some .take
  else if n.move.detail.isSome then some .move
  else if n.track.detail.isSome then some .track
  else if n.input.detail.isSome then some .input
  else none

/-- R183: a read of STATE or ZONE stops the notice timer, or restarts it while the other is pending; in PERIODIC the
timer is stopped. -/
def serveNoticeTimer (k : Source) (s : State) : State :=
  if (k = .state ∨ k = .zone) ∧ s.config.supervisionMode = .periodicNotice then
    { s with link := { s.link with noticeTimer := noticeTimerIfPending s } }
  else s

def requestNotice (s : State) : State × Reply :=
  match topSource s.notices with
  | none => accept s (List.replicate 9 0#8)
  | some k =>
    let r := (readSource s.notices k).getD ([], false)
    let t := serveNoticeTimer k (setNotices s (clearSource s.notices k))
    accept t (sourceCode k :: r.1 ++ flagByte r.2 ++ [pendingSources t.notices])

def execNotice (s : State) : Host.Outcome State Fault Refusal := .next (acceptUnit requestNotice s)

/-! ## NOTICE_MASK (R187, R199) -/

def requestNoticeMask (mask : Byte) (s : State) : State × Reply :=
  if mask &&& 0xC0#8 ≠ 0#8 then refuse s .badOperand
  else accept (setNotices s { s.notices with mask := mask }) []

def execNoticeMask (mask : Byte) (s : State) : Host.Outcome State Fault Refusal :=
  .next (acceptUnit (requestNoticeMask mask) s)

end Sys2Proof.Machine
end

