-- ==== Sys2Proof/Machine/StopInputs.lean ====
section
/-! DEFINITION. The Stop Monitor's inputs and requests: the input sample (R83, R85, R86, R88, R99, R103), the STOP
and ACK_STOP requests (R89, R100 to R102), and INPUTS (R105). -/

namespace Sys2Proof.Machine

/-! ## Sampling the safety lines (R83) -/

/-- The eleven safety lines, in the order of the line set (R200). -/
inductive SafetyLine
  | estop1 | estop2 | grip
  | overtravel (line : Fin 8)
  deriving DecidableEq, Repr

def allOvertravel : List (Fin 8) := [0, 1, 2, 3, 4, 5, 6, 7]

def allSafetyLines : List SafetyLine := [.estop1, .estop2, .grip] ++ allOvertravel.map .overtravel

def getFilter (r : StopRecord) : SafetyLine → LineFilter
  | .estop1 => r.estop1
  | .estop2 => r.estop2
  | .grip => r.grip
  | .overtravel i => r.overtravel.get i

def setFilter (r : StopRecord) (l : SafetyLine) (f : LineFilter) : StopRecord :=
  match l with
  | .estop1 => { r with estop1 := f }
  | .estop2 => { r with estop2 := f }
  | .grip => { r with grip := f }
  | .overtravel i => { r with overtravel := r.overtravel.set i f }

def sampleOf (x : SafetySample) : SafetyLine → Bool
  | .estop1 => x.estop1
  | .estop2 => x.estop2
  | .grip => x.grip
  | .overtravel i => x.overtravel.getLsbD i.val

/-- R83: one line's sample; a filtered change raises INPUT. -/
def sampleSafetyLine (x : SafetySample) (l : SafetyLine) (s : State) : State :=
  let f := getFilter s.stops l
  let g := filterSample f (sampleOf x l)
  let s := { s with stops := setFilter s.stops l g }
  if g.filtered ≠ f.filtered then raiseInput s else s

def sampleSafety (x : SafetySample) (s : State) : State :=
  allSafetyLines.foldl (fun s l => sampleSafetyLine x l s) s

/-- R83: FRAME present is FALSE once 250 ms pass without an edge, counted at the input samples (log entry 9). -/
def stepFrame (s : State) : State :=
  let f := s.stops.frame
  if f.present = false then s
  else if f.age + 1 < 250 then { s with stops := { s.stops with frame := { f with age := f.age + 1 } } }
  else raiseInput { s with stops := { s.stops with frame := ⟨false, true, 0⟩ } }

/-! ## The causes of the safety lines -/

/-- R99: the deadline timer rises while the crane is STOPPING; at its expiry DEADLINE rises. -/
def stepDeadline (s : State) : State :=
  match s.stops.deadlineTimer with
  | none => s
  | some t =>
    if s.crane.state ≠ .stopping then s
    else if t.elapsed + 1 < t.expiry then
      { s with stops := { s.stops with deadlineTimer := some { t with elapsed := t.elapsed + 1 } } }
    else rise .deadline { s with stops := { s.stops with deadlineTimer := none } }

/-- R85: the discrepancy timer at a sample that finds the contacts disagreeing, the latch being clear. -/
def stepDiscrepancyTimer (r : StopRecord) : StopRecord :=
  match r.discrepancyTimer with
  | none => { r with discrepancyTimer := some 0 }
  | some t =>
    if t + 1 < 101 then { r with discrepancyTimer := some (t + 1) }
    else { r with discrepancyTimer := none, discrepancy := true }

/-- R85: the discrepancy timer, the discrepancy latch and both-open seen, from the two filtered states. A sample that finds
both contacts open sets both-open seen whether or not the latch is set (log entry 15). -/
def stepDiscrepancy (r : StopRecord) : StopRecord :=
  match r.estop1.filtered, r.estop2.filtered with
  | true, true => { r with discrepancyTimer := none, bothOpenSeen := true }
  | false, false =>
    if r.bothOpenSeen then { r with discrepancyTimer := none, discrepancy := false, bothOpenSeen := false }
    else { r with discrepancyTimer := none }
  | _, _ => if r.discrepancy then { r with discrepancyTimer := none } else stepDiscrepancyTimer r

/-- R84, R85: the ESTOP condition. -/
def estopCondition (r : StopRecord) : Option CauseDetail :=
  if r.estop1.filtered || r.estop2.filtered || r.discrepancy then
    some (.estop r.estop1.filtered r.estop2.filtered r.discrepancy)
  else none

/-- R85: ESTOP is evaluated; it rises when it becomes present. -/
def evalEstop (s : State) : State :=
  let s := { s with stops := stepDiscrepancy s.stops }
  let was := s.stops.conditions.estop
  let now := estopCondition s.stops
  let s := setCondition .estop now s
  match now with
  | some d => if was.isNone then rise d s else s
  | none => s

/-- R86: the channel that an overtravel line guards. -/
def overtravelChan (i : Fin 8) : Chan :=
  match i.val / 2 with
  | 0 => .track
  | 1 => .swing
  | 2 => .boom
  | _ => .reach

/-- R86: odd indices are the PLUS ends. -/
def overtravelPlus (i : Fin 8) : Bool := i.val % 2 == 1

def overtravelDetail (i : Fin 8) : CauseDetail := .overtravel (overtravelChan i) (overtravelPlus i)

/-- R86: OVERTRAVEL is evaluated against the lines' filtered states before the sample; each line that has become
active is a rise of its own, and the condition's detail is the latest. -/
def evalOvertravel (before : PerEight LineFilter) (s : State) : State :=
  let act := fun i => (s.stops.overtravel.get i).filtered
  let risen := allOvertravel.filter fun i => act i && !(before.get i).filtered
  let now := if allOvertravel.any act then
      (match risen.getLast? with
       | some i => some (overtravelDetail i)
       | none => s.stops.conditions.overtravel)
    else none
  risen.foldl (fun s i => rise (overtravelDetail i) s) (setCondition .overtravel now s)

/-- R103: an inhibit clears when its line reads filtered clear. -/
def clearInhibits (s : State) : State :=
  allOvertravel.foldl
    (fun s i =>
      if (s.stops.overtravel.get i).filtered then s
      else
        let c := overtravelChan i
        let r := s.chan c
        s.setChan c (if overtravelPlus i then { r with inhibitPlus := false } else { r with inhibitMinus := false }))
    s

/-- R88: the lowest-indexed ARM or HEAD channel that CONSOLE or TAKE moves. -/
def grippedChannel (s : State) : Option Chan :=
  allChans.find? fun c =>
    isBody c && (((s.chan c).owner == .console) || ((s.chan c).owner == .take)) && decide ((s.chan c).velocity ≠ 0)

/-- R88: the engine moves, or is about to move, an ARM or HEAD channel. -/
def engineNeedsGrip (e : Engine) : Bool :=
  setHasBody e.set && ((e.state == .cueing) || ((e.state == .playing) && decide (0 < e.rate)))

/-- R88: the GRIP condition. In ARMED, WAIT_FRAME and PAUSED its first term still holds while an ARM or HEAD channel of the
take has the velocity of its last path step, where R139 and R149 say that the condition does not arise in ARMED and PAUSED:
the model follows the terms of R88, DESIGN CHOICE, log entry 35. -/
def gripCondition (s : State) : Option CauseDetail :=
  if s.gripHeld then none
  else match grippedChannel s with
    | some c => some (.grip (some c))
    | none => if engineNeedsGrip s.engine then some (.grip none) else none

def evalGrip (s : State) : State :=
  let was := s.stops.conditions.grip
  let now := gripCondition s
  let s := setCondition .grip now s
  match now with
  | some d => if was.isNone then rise d s else s
  | none => s

/-- R83, R85, R86, R88, R99, R103: one input sample. The order of the evaluations within it is a choice of the
model (log entry 7). -/
def inputSample (x : SafetySample) (s : State) : State :=
  let before := s.stops.overtravel
  evalGrip (clearInhibits (evalOvertravel before (evalEstop (stepFrame (sampleSafety x (stepDeadline s))))))

def execInputSample (lines : SafetySample) (s : State) : Host.Outcome State Fault Refusal :=
  .next (whileRunning (inputSample lines) s)

/-- R85: the sample at which the discrepancy latch is set. -/
def execDiscrepancyLatch (lines : SafetySample) (s : State) : Host.Outcome State Fault Refusal :=
  .next (eventOf (inputSample lines) (fun s t => !s.stops.discrepancy && t.stops.discrepancy) s)

/-- The next input sample brings the deadline timer to its expiry. -/
def deadlineDue (s : State) : Bool :=
  (s.crane.state == .stopping) && (s.stops.deadlineTimer.any fun t => decide (t.expiry ≤ t.elapsed + 1))

/-- R99: the sample at which the deadline timer expires. -/
def execDeadlineExpiry (lines : SafetySample) (s : State) : Host.Outcome State Fault Refusal :=
  .next (eventOf (inputSample lines) (fun s _ => deadlineDue s) s)

/-- R83: the sample at which FRAME present becomes FALSE. -/
def execFramePresentLapse (lines : SafetySample) (s : State) : Host.Outcome State Fault Refusal :=
  .next (eventOf (inputSample lines) (fun s t => s.stops.frame.present && !t.stops.frame.present) s)

/-! ## STOP (R89) -/

def requestStop (origin : Origin) (s : State) : State × Reply := accept (rise (.request origin) s) []

def execStop (origin : Origin) (s : State) : Host.Outcome State Fault Refusal :=
  .next (acceptFrom origin [0x20#8] (requestStop origin) s)

/-! ## ACK_STOP (R100 to R102) -/

/-- R102: a direction inhibit for each overtravel line that is filtered active. -/
def setInhibits (s : State) : State :=
  allOvertravel.foldl
    (fun s i =>
      if (s.stops.overtravel.get i).filtered then
        let c := overtravelChan i
        let r := s.chan c
        s.setChan c (if overtravelPlus i then { r with inhibitPlus := true } else { r with inhibitMinus := true })
      else s) s

/-- R100: every latch is cleared and the first cause is none. -/
def clearLatches (s : State) : State := { s with stops := { s.stops with latches := noCauses, first := none } }

/-- R79, R101: the retreat set from the breach set last handed over, while the ZONE condition is present. A zone that has
been retired since then enters by its number with reference 0, one created anew since then with the clearance it has (log
entry 31). -/
def buildRetreat (s : State) : List RetreatZone :=
  if s.stops.conditions.zone.isSome then
    s.stops.breachSet.map fun n => ⟨n, ((s.findZone n).bind (·.clearance)).getD 0⟩
  else []

/-- R100: the ESTOP condition, or a drive's FAULT, is present. -/
def ackBlocked (s : State) : Bool :=
  s.stops.conditions.estop.isSome || allChans.any fun c => (s.chan c).faultPresent

def requestAckStop (s : State) : State × Reply :=
  match s.crane.state with
  | .ready | .arming | .stopping | .parking => refuse s .state
  | .halted =>
    let set := buildRetreat s
    let t := clearLatches { s with
      stops := { s.stops with retreatSet := set }
      crane := { s.crane with retreat := !set.isEmpty } }
    accept (enterCrane .ready .none t) []
  | .tripped =>
    if ackBlocked s then refuse s .causeActive
    else accept (enterCrane .parked .none (setInhibits (clearLatches s))) []
  | .parked =>
    accept (raiseState ⟨.parked, none, .none⟩ (setInhibits (clearLatches s))) []

def execAckStop (s : State) : Host.Outcome State Fault Refusal := .next (acceptUnit requestAckStop s)

/-! ## INPUTS (R105) -/

def clearFlag (f : LineFilter) : LineFilter := { f with changed := false }

/-- R105: every change flag is cleared, the presence lines' included. -/
def clearChangeFlags (s : State) : State :=
  { s with
    presence := .ofFn fun i => { s.presence.get i with filter := clearFlag (s.presence.get i).filter }
    stops := { s.stops with
      estop1 := clearFlag s.stops.estop1
      estop2 := clearFlag s.stops.estop2
      grip := clearFlag s.stops.grip
      overtravel := .ofFn fun i => clearFlag (s.stops.overtravel.get i)
      frame := { s.stops.frame with changed := false } } }

def requestInputs (s : State) : State × Reply :=
  accept (clearChangeFlags s)
    (lineSetBytes (lineStates s) ++ lineSetBytes (changeFlags s) ++ flagByte s.stops.discrepancy)

def execInputs (s : State) : Host.Outcome State Fault Refusal := .next (acceptUnit requestInputs s)

end Sys2Proof.Machine
end

