-- ==== Sys2Proof/Machine/Zones.lean ====
section
/-! DEFINITION. The Zone Monitor: the zone requests (R68 to R71) and the zone evaluation (R72 to R80). -/

namespace Sys2Proof.Machine

/-! ## Zone requests -/

def boundLimit : Int := 1000000

/-- R66, R68 test 1: the operands lie within their ranges. -/
def zoneOperandsValid (z : ZoneOperands) : Bool :=
  let ok := fun (v : BitVec 32) => inRange (-boundLimit) boundLimit v.toInt
  natRange 1 Config.zoneCapacity z.number.toNat && (twoValued z.kind).isSome && natRange 0 12 z.line.toNat &&
    ok z.xLo && ok z.xHi && ok z.yLo && ok z.yHi && ok z.zLo && ok z.zHi &&
    decide (z.xLo.toInt ≤ z.xHi.toInt) && decide (z.yLo.toInt ≤ z.yHi.toInt) && decide (z.zLo.toInt ≤ z.zHi.toInt) &&
    natRange 0 50000 z.stopMargin.toNat && natRange 0 100000 z.slowMargin.toNat &&
    decide (z.stopMargin.toNat < z.slowMargin.toNat)

/-- R67, R69: the record a ZONE_SET stores; a replaced zone keeps its derived fields until the next evaluation. -/
def zoneRecord (old : Option Zone) (z : ZoneOperands) : Zone where
  number := z.number.toNat
  kind := if z.kind = 0#8 then .guard else .slow
  line := z.line.toNat
  xLo := z.xLo.toInt
  xHi := z.xHi.toInt
  yLo := z.yLo.toInt
  yHi := z.yHi.toInt
  zLo := z.zLo.toInt
  zHi := z.zHi.toInt
  stopMargin := z.stopMargin.toNat
  slowMargin := z.slowMargin.toNat
  active := (old.map (·.active)).getD false
  occupied := (old.map (·.occupied)).getD false
  clearance := old.bind (·.clearance)
  band := (old.map (·.band)).getD .clear
  contribution := old.bind (·.contribution)

/-- A GUARD zone on line 0 (R68, R70). -/
def standingGuard (z : Zone) : Bool := (z.kind == .guard) && (z.line == 0)

/-- The zone is bound to a line whose occupancy is TRUE as last published. -/
def zoneOccupied (s : State) (z : Zone) : Bool := s.lineOccupied z.line

def inRetreat (s : State) (n : Nat) : Bool := s.stops.retreatSet.any fun r => r.zone == n

def requestZoneSet (z : ZoneOperands) (s : State) : State × Reply :=
  if zoneOperandsValid z = false then refuse s .badOperand
  else
    let old := s.findZone z.number.toNat
    let new := zoneRecord old z
    if old.any (zoneOccupied s) then refuse s .occupied
    else if inRetreat s new.number then refuse s .inUse
    else if (old.any standingGuard || standingGuard new) ∧ s.crane.state ≠ .parked then refuse s .state
    else accept { s with zoneMonitor := { s.zoneMonitor with zones := upsert (·.number) new s.zoneMonitor.zones } } []

def execZoneSet (z : ZoneOperands) (s : State) : Host.Outcome State Fault Refusal :=
  .next (acceptUnit (requestZoneSet z) s)

/-- R70 test 4: the zone that the latched ZONE cause names. -/
def latchedZone (s : State) (n : Nat) : Bool := s.stops.latches.zone == some (.zone n)

def requestZoneRetire (number : Byte) (s : State) : State × Reply :=
  let n := number.toNat
  if natRange 1 Config.zoneCapacity n = false then refuse s .badOperand
  else match s.findZone n with
    | none => refuse s .notFound
    | some z =>
      if zoneOccupied s z then refuse s .occupied
      else if latchedZone s n || inRetreat s n then refuse s .inUse
      else if standingGuard z ∧ s.crane.state ≠ .parked then refuse s .state
      else accept { s with zoneMonitor := { s.zoneMonitor with zones := eraseKey (·.number) n s.zoneMonitor.zones } } []

def execZoneRetire (number : Byte) (s : State) : Host.Outcome State Fault Refusal :=
  .next (acceptUnit (requestZoneRetire number) s)

/-- R197: a clearance, 0xFFFFFFFF when absent and saturated at 0xFFFFFFFE. -/
def clearanceBytes : Option Nat → List Byte
  | none => u32 0xFFFFFFFF
  | some c => u32 (min c 0xFFFFFFFE)

/-- R197: the zone record with the fields ZONE_GET adds. -/
def zoneRecordBytes (s : State) (z : Zone) : List Byte :=
  u8 z.number ++ [zoneKindCode z.kind] ++ u8 z.line ++ s32 z.xLo ++ s32 z.xHi ++ s32 z.yLo ++ s32 z.yHi ++
    s32 z.zLo ++ s32 z.zHi ++ u32 z.stopMargin ++ u32 z.slowMargin ++ flagByte z.active ++ flagByte z.occupied ++
    clearanceBytes z.clearance ++ [bandCode z.band] ++ u16 (z.contribution.getD 0xFFFF) ++
    flagByte (s.zoneMonitor.limiting == some z.number) ++ flagByte (inRetreat s z.number) ++
    clearanceBytes ((s.stops.retreatSet.find? fun r => r.zone == z.number).map (·.reference))

def requestZoneGet (number : Byte) (s : State) : State × Reply :=
  if natRange 1 Config.zoneCapacity number.toNat = false then refuse s .badOperand
  else match s.findZone number.toNat with
    | none => refuse s .notFound
    | some z => accept s (zoneRecordBytes s z)

def execZoneGet (number : Byte) (s : State) : Host.Outcome State Fault Refusal :=
  .next (acceptUnit (requestZoneGet number) s)

def requestZoneList (s : State) : State × Reply :=
  accept s (u8 s.zoneMonitor.zones.length ++ s.zoneMonitor.zones.map fun z => BitVec.ofNat 8 z.number)

def execZoneList (s : State) : Host.Outcome State Fault Refusal := .next (acceptUnit requestZoneList s)

/-! ## Measures (R73 to R75) -/

/-- R73: the gap on one axis. -/
def axisGap (lo hi v : Int) : Int := max (max (lo - v) (v - hi)) 0

/-- R73: the clearance of a zone from a head point. -/
def zoneClearance (z : Zone) (h : HeadPoint) (radius : Nat) : Nat :=
  (max (max (axisGap z.xLo z.xHi h.x) (axisGap z.yLo z.yHi h.y)) (axisGap z.zLo z.zHi h.z) - Int.ofNat radius).toNat

/-- R74. -/
def bandOf (z : Zone) (c : Nat) : Band :=
  if c < z.stopMargin then .stop else if c < z.slowMargin then .slow else .clear

/-- R75: the contribution of an active zone, with a valid head point. -/
def contributionOf (creep : Nat) (retreating : Bool) (z : Zone) (c : Nat) : Nat :=
  if retreating then creep
  else if z.slowMargin ≤ c then 1024
  else
    let guardValue := if c ≤ z.stopMargin then 0 else 1024 * (c - z.stopMargin) / (z.slowMargin - z.stopMargin)
    match z.kind with
    | .guard => guardValue
    | .slow => max guardValue creep

/-! ## The evaluation (R72), step by step -/

/-- Steps 1 and 2: active, occupied, and with a valid head point clearance and band. -/
def measureZone (s : State) (z : Zone) : Zone :=
  let occ := s.lineOccupied z.line
  let c := zoneClearance z s.head s.config.headRadius
  { z with
    active := (z.line == 0) || occ
    occupied := occ
    clearance := if s.head.valid then some c else z.clearance
    band := if s.head.valid then bandOf z c else z.band }

/-- R80: a zone of the retreat set leaves it. -/
def leavesRetreat (valid : Bool) (zones : List Zone) (r : RetreatZone) : Bool :=
  match zones.find? fun z => z.number == r.zone with
  | none => true
  | some z => !z.active || (valid && decide (z.stopMargin ≤ z.clearance.getD 0))

/-- The clearance of a zone by its number, as measured. -/
def clearanceIn (zones : List Zone) (n : Nat) : Nat :=
  ((zones.find? fun z => z.number == n).bind (·.clearance)).getD 0

/-- R79: the reference becomes the present clearance when the head point is valid. -/
def followReference (valid : Bool) (zones : List Zone) (r : RetreatZone) : RetreatZone :=
  if valid then { r with reference := clearanceIn zones r.zone } else r

/-- R79: the clearance is less than the reference. -/
def decreased (valid : Bool) (zones : List Zone) (r : RetreatZone) : Bool :=
  valid && decide (clearanceIn zones r.zone < r.reference)

/-- Step 4: a zone's contribution; absent for an inactive zone and without a valid head point. -/
def contribute (s : State) (retreat : List RetreatZone) (z : Zone) : Zone :=
  { z with contribution :=
      if s.head.valid ∧ z.active then
        some (contributionOf s.config.creep (retreat.any fun r => r.zone == z.number) z (z.clearance.getD 0))
      else none }

/-- R76: the zone with the least contribution, the lowest-numbered on a tie, and that contribution. -/
def leastContribution : List Zone → Option (Nat × Nat)
  | [] => none
  | z :: zs =>
    match z.contribution, leastContribution zs with
    | none, rest => rest
    | some c, none => some (z.number, c)
    | some c, some (n, d) => if c ≤ d then some (z.number, c) else some (n, d)

/-- R78: the zone is in the breach set. -/
def breached (retreat : List RetreatZone) (z : Zone) : Bool :=
  z.active && (z.kind == .guard) && !(retreat.any fun r => r.zone == z.number) &&
    decide (z.clearance.getD 0 < z.stopMargin)

/-- The least number of a list; none of the empty list. -/
def leastNumber : List Nat → Option Nat
  | [] => none
  | n :: ns => match leastNumber ns with
    | none => some n
    | some m => some (min n m)

/-- R74: the zone raises the ZONE notice, by the zone before and after. -/
def zoneNotifies (old new : Zone) : Bool :=
  (old.occupied != new.occupied) || (new.active && (old.band != new.band))

def zoneDetail (z : Zone) : ZoneDetail := ⟨z.number, z.band, if z.line = 0 then none else some z.occupied⟩

/-- R72: one evaluation. -/
def zoneEvaluation (s : State) : State :=
  let valid := s.head.valid
  let before := s.zoneMonitor.zones
  let measured := before.map (measureZone s)
  let staying := s.stops.retreatSet.filter fun r => !leavesRetreat valid measured r
  let decreasedZones := (staying.filter (decreased valid measured)).map (·.zone)
  let retreat := staying.map (followReference valid measured)
  let zones := measured.map (contribute s retreat)
  let least := leastContribution zones
  let breach := if valid then (zones.filter (breached retreat)).map (·.number) else []
  let detail := (leastNumber (breach ++ decreasedZones)).map CauseDetail.zone
  let rises := s.stops.conditions.zone.isNone || (breach.any fun n => !s.stops.breachSet.contains n) ||
    !decreasedZones.isEmpty
  let s1 : State := { s with
    zoneMonitor := ⟨zones, if valid then (least.map (·.2)).getD 1024 else 0, if valid then least.map (·.1) else none⟩
    stops := { s.stops with retreatSet := retreat, breachSet := breach }
    crane := { s.crane with retreat := s.crane.retreat && !retreat.isEmpty } }
  let s2 := setCondition .zone detail s1
  let s3 := match detail with
    | some d => if rises then rise d s2 else s2
    | none => s2
  (before.zip zones).foldl (fun t p => if zoneNotifies p.1 p.2 then raiseZone (zoneDetail p.2) t else t) s3

def execZoneEvaluation (s : State) : Host.Outcome State Fault Refusal := .next (whileRunning zoneEvaluation s)

end Sys2Proof.Machine
end

