-- ==== Sys2Proof/Machine/Frames.lean ====
section
/-! DEFINITION. The receiver (R174 to R176), the Request Decoder (R177, R179, R180), and the frames that carry no
request: those of an unknown code or a wrong length, and ignored broadcasts. -/

namespace Sys2Proof.Machine

/-! ## The Request Decoder -/

/-- The request taken by its owning block (R177, step 2). A command that is no request comes from no frame. -/
def takeRequest (i : Instr) (s : State) : State × Reply :=
  match i with
  | .ident => requestIdent s
  | .status => requestStatus s
  | .notice => requestNotice s
  | .noticeMask m => requestNoticeMask m s
  | .configSet item v => requestConfigSet item v s
  | .configGet item => requestConfigGet item s
  | .arm => requestArm s
  | .park => requestPark s
  | .jog c v => requestJog c v s
  | .goto m ps => requestGoto m ps s
  | .gotoMark n m => requestGotoMark n m s
  | .release m => requestRelease m s
  | .channelGet c => requestChannelGet c s
  | .wheelAssign w c g => requestWheelAssign w c g s
  | .stop o => requestStop o s
  | .ackStop => requestAckStop s
  | .inputs => requestInputs s
  | .zoneSet z => requestZoneSet z s
  | .zoneGet n => requestZoneGet n s
  | .zoneList => requestZoneList s
  | .zoneRetire n => requestZoneRetire n s
  | .markSet n t m vs => requestMarkSet n t m vs s
  | .markCapture n t m => requestMarkCapture n t m s
  | .markGet n => requestMarkGet n s
  | .markList n => requestMarkList n s
  | .markRetire n => requestMarkRetire n s
  | .takeCreate n t => requestTakeCreate n t s
  | .takeCueInsert n k q => requestTakeCueInsert n k q s
  | .takeCueReplace n k q => requestTakeCueReplace n k q s
  | .takeCueDelete n k => requestTakeCueDelete n k s
  | .takeGet n k => requestTakeGet n k s
  | .takeList => requestTakeList s
  | .takeRetire n => requestTakeRetire n s
  | .takeArm n => requestTakeArm n s
  | .takeGo _ m => requestTakeGo m s
  | .takePause => requestTakePause s
  | .takeResume => requestTakeResume s
  | .takeAbort => requestTakeAbort s
  | .lensMapSet m => requestLensMapSet m s
  | .lensMapGet b => requestLensMapGet b s
  | .lensMapRetire b => requestLensMapRetire b s
  | .lensSelect b => requestLensSelect b s
  | .targetSet _ t x y z a => requestTargetSet t x y z a s
  | .targetGet t => requestTargetGet t s
  | .targetRetire t => requestTargetRetire t s
  | .trackOn t => requestTrackOn t s
  | .trackOff => requestTrackOff s
  | _ => refuse s .badCode

/-- R180: CODE and operands tested and, when they spell a request, taken. -/
def decodeAndTake (origin : Origin) (code : Byte) (ops : List Byte) (s : State) : State × Reply :=
  match decodeRequest origin code ops with
  | .ok i => takeRequest i s
  | .error r => refuse s r

/-- R179: what a broadcast frame has done: nothing, for a code that is not executed. -/
def broadcastRequest (code : Byte) (ops : List Byte) (s : State) : State × Reply :=
  if broadcastCode code then decodeAndTake .broadcast code ops s else accept s []

def acceptUnitFrame (code : Byte) (ops : List Byte) (s : State) : State := acceptUnit (decodeAndTake .unit code ops) s

def acceptBroadcastFrame (code : Byte) (ops : List Byte) (s : State) : State :=
  acceptBroadcast (code :: ops) (broadcastRequest code ops) s

/-- R180: a unit frame that spells no request is refused BAD_CODE or BAD_LENGTH. -/
def execUnknownCode (code : Byte) (operands : List Byte) (s : State) : Host.Outcome State Fault Refusal :=
  .next (acceptUnitFrame code operands s)

/-- R179: a broadcast that is not executed serves supervision. -/
def execBroadcastIgnored (code : Byte) (operands : List Byte) (s : State) : Host.Outcome State Fault Refusal :=
  .next (acceptBroadcastFrame code operands s)

/-! ## The receiver -/

/-- R174: the address test. -/
def addressed (address : Nat) (value : Byte) : Receiver :=
  if value = 0#8 then .addressed .broadcast
  else if value.toNat = address then .addressed .unit
  else .unaddressed

/-- R174: an address character: the frame in progress is discarded and the address is tested. -/
def takeAddress (value : Byte) (s : State) : State :=
  let r := addressed s.link.address value
  { s with link := { s.link with receiver := r, gapRunning := !(r == .unaddressed) } }

/-- R174, R176: an address character, which with a framing error discards the frame in progress instead. -/
def addressCharacter (value : Byte) (framingError : Bool) (s : State) : State :=
  if framingError then (if frameInProgress s.link then discardFrame s else s) else takeAddress value s

def execAddressCharacter (value : Byte) (framingError : Bool) (s : State) : Host.Outcome State Fault Refusal :=
  .next (if s.canReceive then addressCharacter value framingError s else s)

/-- R175: LEN. -/
def takeLength (origin : Origin) (value : Byte) (s : State) : State :=
  if natRange 1 250 value.toNat then
    { s with link := { s.link with receiver := .receiving origin, buffer := [value], gapRunning := true } }
  else discardFrame s

/-- R175: LEN counts the bytes between itself and CHECK. -/
def frameComplete (bytes : List Byte) : Bool :=
  match bytes with
  | len :: rest => decide (len.toNat + 1 ≤ rest.length)
  | [] => false

/-- R175, R177: a complete frame whose sum is 0 is accepted; LEN, CODE, operands, CHECK. -/
def acceptFrame (origin : Origin) (bytes : List Byte) (s : State) : State :=
  match bytes with
  | _ :: code :: rest =>
    match origin with
    | .unit => acceptUnitFrame code rest.dropLast s
    | .broadcast => acceptBroadcastFrame code rest.dropLast s
  | _ => discardFrame s

/-- R175: a byte after LEN. -/
def takeByte (origin : Origin) (value : Byte) (s : State) : State :=
  let bytes := s.link.buffer ++ [value]
  if frameComplete bytes then (if byteSum bytes = 0#8 then acceptFrame origin bytes s else discardFrame s)
  else { s with link := { s.link with buffer := bytes, gapRunning := true } }

/-- R174 to R176: a data character. -/
def dataCharacter (value : Byte) (framingError : Bool) (s : State) : State :=
  match s.link.receiver with
  | .unaddressed | .answering => s
  | .addressed o => if framingError then discardFrame s else takeLength o value s
  | .receiving o => if framingError then discardFrame s else takeByte o value s

def execDataCharacter (value : Byte) (framingError : Bool) (s : State) : Host.Outcome State Fault Refusal :=
  .next (if s.canReceive then dataCharacter value framingError s else s)

end Sys2Proof.Machine
end

