-- ==== Sys2Proof/Machine/Dispatch.lean ====
section
/-! DEFINITION. The meaning of each command: one arm for each constructor of Instr. -/

namespace Sys2Proof.Machine

/-- The command's effect on everything but the queue. -/
def exec (i : Instr) (s : State) : Host.Outcome State Fault Refusal :=
  match i with
  | .ident => Sys2Proof.Machine.execIdent s
  | .status => Sys2Proof.Machine.execStatus s
  | .notice => Sys2Proof.Machine.execNotice s
  | .noticeMask mask => Sys2Proof.Machine.execNoticeMask mask s
  | .configSet item value => Sys2Proof.Machine.execConfigSet item value s
  | .configGet item => Sys2Proof.Machine.execConfigGet item s
  | .arm => Sys2Proof.Machine.execArm s
  | .park => Sys2Proof.Machine.execPark s
  | .jog channel velocity => Sys2Proof.Machine.execJog channel velocity s
  | .goto mask positions => Sys2Proof.Machine.execGoto mask positions s
  | .gotoMark mark mask => Sys2Proof.Machine.execGotoMark mark mask s
  | .release mask => Sys2Proof.Machine.execRelease mask s
  | .channelGet channel => Sys2Proof.Machine.execChannelGet channel s
  | .wheelAssign wheel channel gain => Sys2Proof.Machine.execWheelAssign wheel channel gain s
  | .stop origin => Sys2Proof.Machine.execStop origin s
  | .ackStop => Sys2Proof.Machine.execAckStop s
  | .inputs => Sys2Proof.Machine.execInputs s
  | .zoneSet zone => Sys2Proof.Machine.execZoneSet zone s
  | .zoneGet number => Sys2Proof.Machine.execZoneGet number s
  | .zoneList => Sys2Proof.Machine.execZoneList s
  | .zoneRetire number => Sys2Proof.Machine.execZoneRetire number s
  | .markSet number tag mask values => Sys2Proof.Machine.execMarkSet number tag mask values s
  | .markCapture number tag mask => Sys2Proof.Machine.execMarkCapture number tag mask s
  | .markGet number => Sys2Proof.Machine.execMarkGet number s
  | .markList number => Sys2Proof.Machine.execMarkList number s
  | .markRetire number => Sys2Proof.Machine.execMarkRetire number s
  | .takeCreate number tag => Sys2Proof.Machine.execTakeCreate number tag s
  | .takeCueInsert number position cue => Sys2Proof.Machine.execTakeCueInsert number position cue s
  | .takeCueReplace number position cue => Sys2Proof.Machine.execTakeCueReplace number position cue s
  | .takeCueDelete number position => Sys2Proof.Machine.execTakeCueDelete number position s
  | .takeGet number position => Sys2Proof.Machine.execTakeGet number position s
  | .takeList => Sys2Proof.Machine.execTakeList s
  | .takeRetire number => Sys2Proof.Machine.execTakeRetire number s
  | .takeArm number => Sys2Proof.Machine.execTakeArm number s
  | .takeGo origin mode => Sys2Proof.Machine.execTakeGo origin mode s
  | .takePause => Sys2Proof.Machine.execTakePause s
  | .takeResume => Sys2Proof.Machine.execTakeResume s
  | .takeAbort => Sys2Proof.Machine.execTakeAbort s
  | .lensMapSet map => Sys2Proof.Machine.execLensMapSet map s
  | .lensMapGet bank => Sys2Proof.Machine.execLensMapGet bank s
  | .lensMapRetire bank => Sys2Proof.Machine.execLensMapRetire bank s
  | .lensSelect bank => Sys2Proof.Machine.execLensSelect bank s
  | .targetSet origin number x y z maxAge => Sys2Proof.Machine.execTargetSet origin number x y z maxAge s
  | .targetGet number => Sys2Proof.Machine.execTargetGet number s
  | .targetRetire number => Sys2Proof.Machine.execTargetRetire number s
  | .trackOn number => Sys2Proof.Machine.execTrackOn number s
  | .trackOff => Sys2Proof.Machine.execTrackOff s
  | .unknownCode code operands => Sys2Proof.Machine.execUnknownCode code operands s
  | .broadcastIgnored code operands => Sys2Proof.Machine.execBroadcastIgnored code operands s
  | .addressCharacter value framingError => Sys2Proof.Machine.execAddressCharacter value framingError s
  | .dataCharacter value framingError => Sys2Proof.Machine.execDataCharacter value framingError s
  | .interCharacterGap => Sys2Proof.Machine.execInterCharacterGap s
  | .lineBreak => Sys2Proof.Machine.execLineBreak s
  | .replyComplete => Sys2Proof.Machine.execReplyComplete s
  | .periodicTimerExpiry => Sys2Proof.Machine.execPeriodicTimerExpiry s
  | .noticeTimerExpiry => Sys2Proof.Machine.execNoticeTimerExpiry s
  | .consoleTimerEvent => Sys2Proof.Machine.execConsoleTimerEvent s
  | .channelUpdate => Sys2Proof.Machine.execChannelUpdate s
  | .inPosition channel => Sys2Proof.Machine.execInPosition channel s
  | .decelerationEnd channel => Sys2Proof.Machine.execDecelerationEnd channel s
  | .wheelEdge wheel aLeads => Sys2Proof.Machine.execWheelEdge wheel aLeads s
  | .wheelIdleRelease channel => Sys2Proof.Machine.execWheelIdleRelease channel s
  | .driveExchange replies => Sys2Proof.Machine.execDriveExchange replies s
  | .slotEvent => Sys2Proof.Machine.execSlotEvent s
  | .armingSlotEnd => Sys2Proof.Machine.execArmingSlotEnd s
  | .parkingSlotEnd => Sys2Proof.Machine.execParkingSlotEnd s
  | .geometryUpdate => Sys2Proof.Machine.execGeometryUpdate s
  | .presenceSample levels => Sys2Proof.Machine.execPresenceSample levels s
  | .occupancyRelease line levels => Sys2Proof.Machine.execOccupancyRelease line levels s
  | .zoneEvaluation => Sys2Proof.Machine.execZoneEvaluation s
  | .inputSample lines => Sys2Proof.Machine.execInputSample lines s
  | .discrepancyLatch lines => Sys2Proof.Machine.execDiscrepancyLatch lines s
  | .standstill => Sys2Proof.Machine.execStandstill s
  | .deadlineExpiry lines => Sys2Proof.Machine.execDeadlineExpiry lines s
  | .frameEdge => Sys2Proof.Machine.execFrameEdge s
  | .framePresentLapse lines => Sys2Proof.Machine.execFramePresentLapse lines s
  | .engineMillisecond => Sys2Proof.Machine.execEngineMillisecond s
  | .cueInComplete => Sys2Proof.Machine.execCueInComplete s
  | .cueEnd => Sys2Proof.Machine.execCueEnd s
  | .pauseReached => Sys2Proof.Machine.execPauseReached s
  | .playEnd => Sys2Proof.Machine.execPlayEnd s
  | .frameWaitExpiry => Sys2Proof.Machine.execFrameWaitExpiry s
  | .lensUpdate => Sys2Proof.Machine.execLensUpdate s
  | .targetStale number => Sys2Proof.Machine.execTargetStale number s
  | .resetAssert => Sys2Proof.Machine.execResetAssert s
  | .resetRelease holdMs straps => Sys2Proof.Machine.execResetRelease holdMs straps s
  | .powerLoss => Sys2Proof.Machine.execPowerLoss s
  | .powerUp straps => Sys2Proof.Machine.execPowerUp straps s
  | .backupSupplyLoss => Sys2Proof.Machine.execBackupSupplyLoss s

end Sys2Proof.Machine
end

