-- ==== Sys2Proof/Safety.lean ====
section
/-! DEFINITION. The vocabulary of the claims: what the acceptance and the answer of a frame leave, a frame sent
character by character, and the relations between records that hold in every run. -/

namespace Sys2Proof.Machine

/-! ## Frames and their answers -/

/-- s after the acceptance of a frame (R177): the LINK condition has ended, and the link is as in t. -/
def servedBy (s t : State) : State :=
  { s with link := t.link, stops := { s.stops with conditions := { s.stops.conditions with link := none } } }

/-- From s to t nothing has changed but what the acceptance and the answer of a frame change. -/
def OnlyLink (s t : State) : Prop := t = servedBy s t

/-- The command answers t, in which the reply of R178 with this code and payload stands ready to be sent. That the answer
stands in the buffer with DE asserted at the acceptance already is the model's choice (log entry 10). -/
def Replied (i : Instr) (s t : State) (code : ResultCode) (payload : List Byte) : Prop :=
  exec i s = .next t ∧ t.link.receiver = .answering ∧ t.link.de = true ∧
    t.link.buffer = replyBytes ⟨code, payload⟩ t.crane.state

/-- The request is refused with this code: the reply has no payload and no other state changes (R178, R180). -/
def RefusedWith (i : Instr) (s : State) (code : ResultCode) : Prop := ∃ t, Replied i s t code [] ∧ OnlyLink s t

/-- Data characters arriving one after another. -/
def deliver : List Byte → State → Host.Outcome State Fault Refusal
  | [], s => .next s
  | b :: bs, s =>
    match exec (.dataCharacter b false) s with
    | .next t => deliver bs t
    | .fault f => .fault f
    | .refused r => .refused r

/-- A frame of this origin is being received, and these are its bytes so far. -/
def receivingState (o : Origin) (bytes : List Byte) (s : State) : State :=
  { s with link := { s.link with receiver := .receiving o, buffer := bytes, gapRunning := true } }

/-- The commands that act on a part held in reset (R44 to R46). -/
def resetCommand : Instr → Bool
  | .resetRelease .. | .powerLoss | .powerUp .. | .backupSupplyLoss => true
  | _ => false

/-- No wheel has a count to hand over. -/
def wheelsStill (s : State) : Prop := ∀ i, (s.wheels.get i).counter = 0

/-- How far a setpoint lies beyond limits. -/
def beyond (lo hi setpoint : Int) : Int := max (max (lo - setpoint) (setpoint - hi)) 0

/-! ## The Record Store -/

/-- A table in ascending order of number, no two records sharing one. -/
def Ascending (numbers : List Nat) : Prop := numbers.Pairwise (· < ·)

/-- The cues of all takes that name mark n. -/
def references (takes : List Take) (n : Nat) : Nat := (takes.map fun t => countCues n t.cues).sum

/-- R106, R108, R119, R121, R122: the tables are in order, reference counts count the cues, every cue names a
mark, and takes and pool are within their sizes. -/
structure RecordsAgree (s : State) : Prop where
  markOrder : Ascending (s.marks.map (·.number))
  markNumbers : ∀ m ∈ s.marks, 1 ≤ m.number ∧ m.number ≤ 128
  takeOrder : Ascending (s.takes.map (·.number))
  takeNumbers : ∀ t ∈ s.takes, 1 ≤ t.number ∧ t.number ≤ 16
  refCounts : ∀ m ∈ s.marks, m.refCount = references s.takes m.number
  cuesNameMarks : ∀ t ∈ s.takes, ∀ q ∈ t.cues, ∃ m ∈ s.marks, m.number = q.mark
  takeLengths : ∀ t ∈ s.takes, t.cues.length ≤ 64
  poolSize : cuesStored s.takes ≤ 256

/-- R66, R71, R161: zones and targets in ascending order of number, no two records sharing one. -/
structure TablesAgree (s : State) : Prop where
  zoneOrder : Ascending (s.zoneMonitor.zones.map (·.number))
  zoneNumbers : ∀ z ∈ s.zoneMonitor.zones, 1 ≤ z.number ∧ z.number ≤ 24
  targetOrder : Ascending (s.lens.targets.map (·.number))
  targetNumbers : ∀ g ∈ s.lens.targets, 1 ≤ g.number ∧ g.number ≤ 8

/-! ## The crane -/

/-- R30: slot pointer and sequence are present in ARMING and PARKING alone, and point up and down there. -/
def SequenceAgrees (s : State) : Prop :=
  match s.crane.state with
  | .arming => s.crane.sequence = .up ∧ s.crane.slotPointer.isSome
  | .parking => s.crane.sequence = .down ∧ s.crane.slotPointer.isSome
  | _ => s.crane.sequence = .none ∧ s.crane.slotPointer = none

/-- R35: the brake of an ARM channel is applied. -/
def braked (s : State) (c : Chan) : Bool := (brakeOf c).all s.crane.brakes.get

/-- R34 to R41, R43: what the crane state says of one channel. `n` is the slot pointer. -/
def DriveAgrees (s : State) (n : Nat) (c : Chan) : Prop :=
  match s.crane.state with
  | .parked => isArm c → (s.chan c).commanded = false ∧ braked s c = true
  | .tripped => (s.chan c).commanded = false ∧ (s.chan c).owner = .none ∧ braked s c = true
  | .ready | .stopping | .halted => (s.chan c).drive = .active ∧ (isArm c → braked s c = false)
  | .arming =>
    ((s.cfg c).releaseSlot < n → (s.chan c).drive = .active) ∧
      (isArm c → if n < (s.cfg c).releaseSlot then (s.chan c).commanded = false ∧ braked s c = true
        else (s.chan c).drive = .active → braked s c = false)
  | .parking =>
    isArm c → (n < (s.cfg c).releaseSlot → (s.chan c).commanded = false) ∧
      (n ≤ (s.cfg c).releaseSlot → braked s c = true)

/-- R1: the configuration of the sequences: every release slot is 1 to 8, and no ARM channel is keep-active. -/
structure CraneConfigured (s : State) : Prop where
  slots : ∀ c, 1 ≤ (s.cfg c).releaseSlot ∧ (s.cfg c).releaseSlot ≤ 8
  armKeepActive : ∀ c, isArm c → (s.cfg c).keepActive = false

/-- R1, R2, R3, R14, R16, R35, R43: configuration, drives, owners and brakes agree with the crane state. That a drive that is
not ACTIVE is in HOLD, without velocity, demand or target, at every step, and not only from its next good reply on, is
DEDUCED (`inactiveHolds`, log entry 12). -/
structure CraneAgrees (s : State) : Prop extends CraneConfigured s where
  activeCommanded : ∀ c, (s.chan c).drive = .active → (s.chan c).commanded = true
  idleCommand : ∀ c, (s.chan c).commanded = false → (s.chan c).drive = .off ∨ (s.chan c).drive = .fault
  faultPresent : ∀ c, (s.chan c).drive = .fault → (s.chan c).faultPresent = true
  faultTrips : ∀ c, (s.chan c).faultPresent = true → s.crane.state = .tripped
  inactiveHolds : ∀ c, (s.chan c).drive ≠ .active →
    (s.chan c).mode = .hold ∧ (s.chan c).velocity = 0 ∧ (s.chan c).demand = none ∧ (s.chan c).target = none
  ownedActive : ∀ c, (s.chan c).owner ≠ .none → (s.chan c).drive = .active
  armOwned : ∀ c, isArm c → (s.chan c).owner ≠ .none → s.crane.state = .ready
  slotUsed : s.crane.state = .arming ∨ s.crane.state = .parking →
    ∃ c, s.crane.slotPointer = some (s.cfg c).releaseSlot
  drives : ∀ c, DriveAgrees s (s.crane.slotPointer.getD 0) c

/-- R2, R18, R20: which of demand and target a channel holds by its mode, and its mode by its owner. -/
structure ModesAgree (s : State) : Prop where
  demand : ∀ c, (s.chan c).demand.isSome ↔ (s.chan c).mode = .velocity
  target : ∀ c, (s.chan c).target.isSome ↔ (s.chan c).mode = .position
  holdStill : ∀ c, (s.chan c).mode = .hold → (s.chan c).velocity = 0
  unowned : ∀ c, (s.chan c).owner = .none →
    (s.chan c).mode = .hold ∨ ((s.chan c).mode = .velocity ∧ (s.chan c).demand = some 0)
  console : ∀ c, (s.chan c).owner = .console → (s.chan c).mode = .velocity ∨ (s.chan c).mode = .position
  wheel : ∀ c, (s.chan c).owner = .wheel → (s.chan c).mode = .position
  take : ∀ c, (s.chan c).owner = .take → (s.chan c).mode = .path
  track : ∀ c, (s.chan c).owner = .track → (s.chan c).mode = .position
  stopDecel : ∀ c, (s.chan c).stopDecel = true → (s.chan c).owner = .none ∧ (s.chan c).mode = .velocity

/-- R27: a channel of an open console move is the console's, in POSITION mode, and belongs to no other; no open
move is without channels. -/
structure MovesAgree (s : State) : Prop where
  members : ∀ m ∈ s.moves, ∀ c, m.remaining.get c = true →
    (s.chan c).owner = .console ∧ (s.chan c).mode = .position
  nonempty : ∀ m ∈ s.moves, ∃ c, m.remaining.get c = true
  disjoint : s.moves.Pairwise fun m k => ∀ c, ¬(m.remaining.get c = true ∧ k.remaining.get c = true)

/-- R1, R156: limits are in order, those configured and those of every lens map. -/
structure LimitsOrdered (s : State) : Prop where
  configured : ∀ c, (s.cfg c).lo ≤ (s.cfg c).hi
  iris : ∀ b m p, s.lens.banks.get b = some m → m.iris = some p → p.lo ≤ p.hi
  zoom : ∀ b m p, s.lens.banks.get b = some m → m.zoom = some p → p.lo ≤ p.hi

/-- R9: once a drive's position is known, OUTSIDE is set exactly while the setpoint lies outside the limits. -/
structure OutsideAgrees (s : State) : Prop where
  activeKnown : ∀ c, (s.chan c).drive = .active → (s.chan c).known = true
  outside : ∀ c, (s.chan c).known = true →
    ((s.chan c).outside = true ↔ (s.chan c).setpoint < s.lo c ∨ s.hi c < (s.chan c).setpoint)

/-! ## Stops, playback, tracking, notices -/

/-- R90, R91: a first cause is recorded exactly while a latch is set, and none is set in READY and ARMING. -/
structure LatchesAgree (s : State) : Prop where
  first : s.stops.first = none ↔ ∀ k, getCause s.stops.latches k = none
  clear : s.crane.state = .ready ∨ s.crane.state = .arming → ∀ k, getCause s.stops.latches k = none

/-- R43: RETREAT is set exactly while the retreat set holds a zone, and in READY alone. -/
structure RetreatAgrees (s : State) : Prop where
  nonempty : s.crane.retreat = true ↔ s.stops.retreatSet ≠ []
  readyOnly : s.crane.retreat = true → s.crane.state = .ready

/-- R109, R124, R134, R135, R145: engine, takes, marks and channels agree on the active take; only channels of its set have a
start and an end. -/
structure PlayAgrees (s : State) : Prop where
  idle : s.engine.state = .idle ↔ s.engine.take = none
  active : ∀ t ∈ s.takes, t.active = true ↔ s.engine.take = some t.number
  cueIndex : ∀ n, s.engine.take = some n →
    ∃ t, s.findTake n = some t ∧ 1 ≤ s.engine.cueIndex ∧ s.engine.cueIndex ≤ t.cues.length
  locked : ∀ m ∈ s.marks, m.locked = true ↔ ∃ t ∈ s.takes, t.active = true ∧ namesMark t m.number = true
  owners : ∀ c, s.engine.set.get c = true ↔ (s.chan c).owner = .take
  paths : ∀ c, (s.engine.path.get c).isSome ↔ s.engine.set.get c = true
  spans : ∀ c, (s.engine.spans.get c).isSome → s.engine.set.get c = true
  someChannel : s.engine.take = none ↔ ∀ c, s.engine.set.get c = false
  ready : s.engine.take ≠ none → s.crane.state = .ready

/-- R159, R164: TRACK owns FOCUS exactly while tracking is on, a tracked target exists, and the selected bank holds a map
whether or not tracking is on. -/
structure TrackAgrees (s : State) : Prop where
  focusOnly : ∀ c, (s.chan c).owner = .track → c = .focus
  owned : (s.chan .focus).owner = .track ↔ s.lens.tracking.state ≠ .off
  target : s.lens.tracking.target = none ↔ s.lens.tracking.state = .off
  rangeClear : s.lens.tracking.state = .off → s.lens.tracking.range = false
  targetExists : ∀ n, s.lens.tracking.target = some n → s.findTarget n ≠ none
  mapSelected : s.lens.tracking.state ≠ .off → s.selectedMap ≠ none
  bankHeld : ∀ b, s.lens.selected = some b → s.lens.banks.get b ≠ none

/-- R46, R187: ATTN is asserted exactly while the part runs and an enabled source is pending. -/
def AttnAgrees (s : State) : Prop := s.notices.attn = (s.running && attnWanted s.notices)

/-- R46: while the part is held in reset its outputs are released and its brakes applied. -/
def HeldQuiet (s : State) : Prop :=
  s.running = false →
    s.notices.attn = false ∧ s.link.de = false ∧ s.driveBus = [] ∧ ∀ i, s.crane.brakes.get i = true

/-- R2, R21: a fraction is below 1,000 millicounts, a carry below 256. -/
structure RemaindersSmall (s : State) : Prop where
  fraction : ∀ c, (s.chan c).fraction < 1000
  carry : ∀ i, (s.wheels.get i).carry < 256

/-! ## Changes of crane state -/

/-- Section 2.1 with R33, R36, R37, R39, R41: the changes of crane state that one event can make. -/
def craneEdge : CraneState → CraneState → Bool
  | .parked, .arming => true
  | .arming, .ready => true
  | .arming, .parking => true
  | .ready, .stopping => true
  | .ready, .parking => true
  | .stopping, .halted => true
  | .halted, .ready => true
  | .parking, .parked => true
  | .tripped, .parked => true
  | _, .tripped => true
  | a, b => decide (a = b)

/-! ## Requests -/

/-- A read: it answers OK with what the state then shows, and changes nothing. -/
def Shows (i : Instr) (s : State) (payload : State → List Byte) : Prop :=
  ∃ t, Replied i s t .ok (payload t) ∧ OnlyLink s t

/-- R193, R199: the operand bytes of each request whose layout has no mask or count. -/
def operandBytes (code : Nat) : Option Nat :=
  if code ∈ [0x01, 0x02, 0x03, 0x10, 0x11, 0x20, 0x21, 0x22, 0x25, 0x45, 0x49, 0x4A, 0x4B, 0x58] then some 0
  else if code ∈ [0x04, 0x06, 0x16, 0x24, 0x26, 0x32, 0x33, 0x34, 0x46, 0x47, 0x48, 0x51, 0x52, 0x53, 0x55, 0x56, 0x57] then
    some 1
  else if code ∈ [0x15, 0x43, 0x44] then some 2
  else if code ∈ [0x14, 0x40] then some 3
  else if code = 0x17 then some 4
  else if code ∈ [0x05, 0x12, 0x31] then some 5
  else if code ∈ [0x41, 0x42] then some 14
  else if code = 0x54 then some 15
  else if code = 0x23 then some 35
  else none

/-- The frame in progress is gone (R176). -/
def discarded (s : State) : State := { s with link := { s.link with receiver := .unaddressed, gapRunning := false } }

/-! ## Channels -/

/-- Every channel has a release slot 1 to 8 (R1). -/
def slotsInRange (s : State) : Prop := ∀ c, 1 ≤ (s.cfg c).releaseSlot ∧ (s.cfg c).releaseSlot ≤ 8

/-- A setpoint stands outside lo to hi, as a flag (R9). -/
def standsOutside (lo hi setpoint : Int) : Bool := decide (setpoint < lo ∨ hi < setpoint)

/-- A setpoint stands on lo or hi, as a flag (R6). -/
def standsOn (lo hi setpoint : Int) : Bool := decide (setpoint = lo ∨ setpoint = hi)

/-- R3: a channel in HOLD. That it is not in position is the model's choice (log entry 20). -/
def heldRecord (r : Channel) : Channel :=
  { r with mode := .hold, velocity := 0, demand := none, target := none, stopDecel := false, inPosition := false }

/-- R3, R14: a channel whose drive is commanded off, its owner released. That it holds, without velocity, demand or target,
at the command itself, and not only from its next good reply on, is DEDUCED (log entry 12). -/
def offRecord (r : Channel) : Channel := { heldRecord r with drive := .off, commanded := false, owner := .none }

/-- R14, R34: a channel in HOLD at its drive's feedback, with the drive state given. AT_LIMIT stays until an update (R6).
That it is not in position is the model's choice (log entry 20). -/
def followRecord (lo hi feedback : Int) (drive : DriveState) (r : Channel) : Channel :=
  { heldRecord r with
    drive := drive
    setpoint := feedback
    fraction := 0
    outside := standsOutside lo hi feedback }

/-- R20: a channel whose owner becomes NONE. That it is not in position is the model's choice (log entry 20). -/
def releasedRecord (r : Channel) : Channel :=
  if r.velocity = 0 then { heldRecord r with owner := .none }
  else { r with owner := .none, mode := .velocity, demand := some 0, target := none, inPosition := false }

/-- R5, R95: a channel whose owner a stop clears. -/
def stoppedRecord (r : Channel) : Channel :=
  if r.velocity = 0 then releasedRecord r else { releasedRecord r with stopDecel := true }

/-- R18: a channel granted to CONSOLE. That it is not in position is the model's choice (log entry 20). -/
def consoleRecord (mode : Mode) (demand target : Option Int) (r : Channel) : Channel :=
  { r with owner := .console, mode := mode, demand := demand, target := target, stopDecel := false, inPosition := false }

/-- R6: the greatest speed from which a deceleration of A stops within d counts. -/
def stoppingSpeed (accel : Nat) (d : Int) : Int := if d ≤ 0 then 0 else Int.ofNat (isqrt (2000 * accel * d.toNat))

/-- R4, R6: a demand after the barring of directions and the limit-braking cap. -/
def allowedDemand (lo hi : Int) (accel : Nat) (r : Channel) (demand : Int) : Int :=
  if 0 < demand then
    (if r.inhibitPlus = true ∨ hi < r.setpoint then 0 else min demand (stoppingSpeed accel (hi - r.setpoint)))
  else if demand < 0 then
    (if r.inhibitMinus = true ∨ r.setpoint < lo then 0 else max demand (-stoppingSpeed accel (r.setpoint - lo)))
  else 0

/-- R5, R9: the velocity after one step toward a demand. -/
def steppedVelocity (step : Nat) (r : Channel) (demand : Int) : Int :=
  let v := max (r.velocity - step) (min (r.velocity + step) demand)
  if (0 < v ∧ r.inhibitPlus = true) ∨ (v < 0 ∧ r.inhibitMinus = true) then 0 else v

/-- R6, R9: the flags of a channel as its setpoint stands. -/
def flaggedRecord (lo hi : Int) (r : Channel) : Channel :=
  { r with outside := standsOutside lo hi r.setpoint, atLimit := r.atLimit && standsOn lo hi r.setpoint }

/-- R5, R6: a channel that stands within its limits advances at v for one millisecond and is stopped at a limit. -/
def advancedRecord (lo hi v : Int) (r : Channel) : Channel :=
  let acc := r.setpoint * 1000 + Int.ofNat r.fraction + v
  if 0 < v ∧ hi ≤ acc / 1000 then { r with setpoint := hi, fraction := 0, velocity := 0, atLimit := true }
  else if v < 0 ∧ acc / 1000 ≤ lo then { r with setpoint := lo, fraction := 0, velocity := 0, atLimit := true }
  else { r with setpoint := acc / 1000, fraction := (acc % 1000).toNat, velocity := v }

/-- R5, R6, R9: a channel that may stand outside its limits advances at v for one millisecond. A step further outside is not
taken: the setpoint is kept and the velocity becomes 0. -/
def heldBackRecord (lo hi v : Int) (r : Channel) : Channel :=
  let acc := r.setpoint * 1000 + Int.ofNat r.fraction + v
  if (hi < r.setpoint ∧ r.setpoint < acc / 1000) ∨ (r.setpoint < lo ∧ acc / 1000 < r.setpoint) then { r with velocity := 0 }
  else if 0 < v ∧ r.setpoint ≤ hi ∧ hi ≤ acc / 1000 then { r with setpoint := hi, fraction := 0, velocity := 0, atLimit := true }
  else if v < 0 ∧ lo ≤ r.setpoint ∧ acc / 1000 ≤ lo then { r with setpoint := lo, fraction := 0, velocity := 0, atLimit := true }
  else { r with setpoint := acc / 1000, fraction := (acc % 1000).toNat, velocity := v }

/-- R8, R9: a channel in PATH mode that takes the written value w. The value is clamped to the limits before anything is
judged (log entry 27); a step toward an inhibited direction keeps the setpoint. -/
def pathRecord (lo hi w : Int) (r : Channel) : Channel :=
  let v := max lo (min hi w)
  let barred := (r.setpoint < v ∧ r.inhibitPlus = true) ∨ (v < r.setpoint ∧ r.inhibitMinus = true)
  let taken := if barred then { r with velocity := 0 }
    else { r with setpoint := v, fraction := 0, velocity := (v - r.setpoint) * 1000 }
  { taken with
    outside := standsOutside lo hi taken.setpoint
    atLimit := decide (v ≠ w) || (r.atLimit && standsOn lo hi taken.setpoint) }

/-- R153: a channel that the end step of a play releases: it first takes the value last written, if no update has taken it
yet (log entry 33). -/
def endedRecord (lo hi : Int) (written : Option Int) (fresh : Bool) (r : Channel) : Channel :=
  releasedRecord (if fresh = true then (written.map fun w => pathRecord lo hi w r).getD r else r)

/-- R5: the step: A, or under stop deceleration the larger of S and A. -/
def velocityStepOf (g : ChannelConfig) (r : Channel) : Nat := if r.stopDecel then max g.stopStep g.accel else g.accel

/-- R4 to R7: a channel in POSITION mode that stands within its limits, after its update's advance toward the target x. -/
def approachedRecord (c : Chan) (g : ChannelConfig) (lo hi : Int) (scale : Nat) (x : Int) (r : Channel) : Channel :=
  let goal := max lo (min hi x)
  let fast := if isArm c = true then (Int.ofNat g.vmax * scale).tdiv 1024 else Int.ofNat g.vmax
  let speed := min fast (Int.ofNat (isqrt (2000 * g.accel * (goal - r.setpoint).natAbs)))
  let d := if r.setpoint < goal then speed else if goal < r.setpoint then -speed else 0
  let v := steppedVelocity (velocityStepOf g r) r (allowedDemand lo hi g.accel r d)
  { advancedRecord lo hi v r with target := some goal }

/-- R7: the arrival test at the target, already clamped, and what it does. That it sets and clears a flag is the model's
choice (log entry 20). -/
def arrivedRecord (accel : Nat) (goal : Int) (r : Channel) : Channel :=
  if (goal - r.setpoint).natAbs ≤ 1 ∧ r.velocity.natAbs ≤ accel then
    { r with setpoint := goal, fraction := 0, velocity := 0, inPosition := true }
  else { r with inPosition := false }

/-- R23: a wheel's idle timer after an update without motion: it runs up to the wheel idle time then in force, and an expired
one stays so. That it counts channel updates is the model's reading (log entry 11), and so is that a change of the wheel idle
time acts on a running one (log entry 29). -/
def idleAfter (limit : Nat) (idle : Option Nat) : Option Nat :=
  idle.bind fun x => if limit ≤ x + 1 then none else some (x + 1)

/-! ## Cues and paths -/

/-- R117, R145: the end point that a cue gives a channel that it moves: the mark's value within the limits in force. -/
def cueEnd (s : State) (q : Cue) (c : Chan) : Option Int :=
  if maskHas q.mask c = true then ((s.findMark q.mark).bind fun k => k.values.get c).map (clampInt (s.lo c) (s.hi c)) else none

/-- R137: where a channel stands after these cues: at the end point of the last of them that moves it, or where it is. -/
def startAfter (s : State) (earlier : List Cue) (c : Chan) : Int :=
  (earlier.reverse.findSome? fun q => cueEnd s q c).getD (s.chan c).setpoint

/-- R137: the cue at place k of the list, counted from 0, would carry the channel faster than its vmax. -/
def tooFast (s : State) (cues : List Cue) (k : Nat) (c : Chan) : Prop :=
  ∃ q e, cues[k]? = some q ∧ cueEnd s q c = some e ∧
    (s.cfg c).vmax * q.travel <
      (e - startAfter s (cues.take k) c).natAbs * (match q.curve with | .linear => 1000 | .ease => 1500)

/-- R145: start and end of a channel of the set in a cue that starts at this path point. -/
def spanFrom (s : State) (q : Cue) (c : Chan) (point : Option Int) : Option Span :=
  if s.engine.set.get c = true then point.bind fun p => (cueEnd s q c).map fun e => ⟨p, e⟩ else none

/-- R146: the setpoint written at this cue time. -/
def pathPoint (q : Cue) (time : Nat) (p : Span) : Int :=
  let u : Int := if q.travel * 1024 ≤ time then 65536 else Int.ofNat time * 65536 / (Int.ofNat q.travel * 1024)
  let u2 := u * u / 65536
  let u3 := u2 * u / 65536
  let f := match q.curve with
    | .linear => u
    | .ease => max 0 (min 65536 (3 * u2 - 2 * u3))
  p.start + ((p.stop - p.start) * f + 32768) / 65536

/-! ## Records as they are sent -/

/-- R194: a field of n bytes, most significant first; a negative value in two's complement. -/
def fieldBytes : Nat → Int → List Byte
  | 0, _ => []
  | n + 1, v => BitVec.ofInt 8 (v / 256 ^ n) :: fieldBytes n v

/-- R197, R198: a record from its fields in order, each with its size in bytes. -/
def recordOf (fields : List (Nat × Int)) : List Byte := fields.flatMap fun f => fieldBytes f.1 f.2

/-- R194: the code of a value in an enumeration that counts from 0. -/
def codeIn {α : Type} [DecidableEq α] (codes : List α) (a : α) : Int := Int.ofNat (codes.idxOf a)

/-- R194: a set as a number, bit 0 first. -/
def bitSet (bits : List Bool) : Int := bits.foldr (fun b n => Int.ofNat b.toNat + 2 * n) 0

/-- A signed 32-bit field can hold the value. -/
def fits32 (v : Int) : Prop := -2147483648 ≤ v ∧ v ≤ 2147483647

/-- R197: a clearance as it is sent. -/
def clearanceField (c : Option Nat) : Int := (c.map fun n => Int.ofNat (min n 4294967294)).getD 4294967295

/-- R194: the code of a cause, 1 to 8, and the two bytes of its detail; 0, 0, 0 where there is none. -/
def causeFields : Option CauseDetail → Int × Int × Int
  | none => (0, 0, 0)
  | some (.estop o1 o2 d) => (1, Int.ofNat (o1.toNat + 2 * o2.toNat), Int.ofNat d.toNat)
  | some (.overtravel c plus) => (2, Int.ofNat (chanIndex c), Int.ofNat plus.toNat)
  | some (.drive c k) => (3, Int.ofNat (chanIndex c), codeIn [.fault, .stale, .following, .dropout] k)
  | some .deadline => (4, 0, 0)
  | some (.zone n) => (5, Int.ofNat n, 0)
  | some (.grip c) => (6, (c.map fun d => Int.ofNat (chanIndex d)).getD 255, 0)
  | some (.link k) => (7, codeIn [.supervision, .notice] k, 0)
  | some (.request o) => (8, codeIn [.unit, .broadcast] o, 0)

/-- R195, R196: the bytes add up to 0, modulo 256. -/
def sumsToZero (bytes : List Byte) : Prop := bytes.foldl (fun n b => n + b.toNat) 0 % 256 = 0

/-! ## Safety lines -/

/-- R83: every safety line but GRIP stands at rest and stays there, and this sample makes GRIP read released. -/
structure OnlyGripReleased (s : State) (x : SafetySample) : Prop where
  grip : s.stops.grip.mid.toNat + s.stops.grip.new.toNat + x.grip.toNat ≤ 1
  discrepancy : s.stops.discrepancy = false
  estop1 : s.stops.estop1 = steadyFilter false ∧ x.estop1 = false
  estop2 : s.stops.estop2 = steadyFilter false ∧ x.estop2 = false
  overtravel : (∀ i, s.stops.overtravel.get i = steadyFilter false) ∧ x.overtravel = 0#8

/-! ## Console moves and notices -/

/-- An open move holds one of these channels. -/
def holdsAny (hit : Chan → Bool) (m : ConsoleMove) : Bool := allChans.any fun c => hit c && m.remaining.get c

/-- The open moves that hold none of these channels. -/
def movesLeft (hit : Chan → Bool) (moves : List ConsoleMove) : List ConsoleMove := moves.filter fun m => !holdsAny hit m

/-- R27, R185: the MOVE source after the moves that hold one of these channels have ended INTERRUPTED in turn. -/
def moveSourceAfter (hit : Chan → Bool) (moves : List ConsoleMove) (src : NoticeSource MoveDetail) :
    NoticeSource MoveDetail :=
  (moves.filter (holdsAny hit)).foldl (fun n m => ⟨some ⟨m.mask, false⟩, n.detail.isSome⟩) src

/-- R187: the Notice Unit with ATTN as its sources and its mask make it. -/
def noticesWith (n : NoticeUnit) : NoticeUnit :=
  { n with attn := decide (pendingSources n &&& n.mask ≠ 0#8) }

/-- R31, R185: STATE raised with this detail. -/
def stateNotice (d : StateDetail) (n : NoticeUnit) : NoticeUnit := noticesWith { n with state := ⟨some d, n.state.detail.isSome⟩ }

/-- s after an event that may also have started the notice timer (R183). -/
def withTimerOf (s t : State) : State := { s with link := { s.link with noticeTimer := t.link.noticeTimer } }

/-- R183: the notice timer at a start that asks whether STATE or ZONE is pending. -/
def timerFor (period : Nat) (n : NoticeUnit) : LinkTimer :=
  if n.state.detail.isSome || n.zone.detail.isSome then .running 0 period else .stopped

/-- R177, R183, R184: the notice timer after a frame that s accepts, before its request is taken. That it starts whichever
timer had expired is the model's reading (log entry 14). -/
def servedTimer (s : State) : LinkTimer :=
  if s.config.supervisionMode = .periodic then .stopped
  else if s.link.periodic = .disarmed ∨ s.stops.conditions.link ≠ none then timerFor s.config.supervisionPeriod s.notices
  else s.link.noticeTimer

/-- R183: STATE or ZONE was raised from s to t, in PERIODIC+NOTICE, and neither was pending before. -/
def startsTimer (s t : State) : Prop :=
  s.config.supervisionMode = .periodicNotice ∧ watchedPending s.notices = false ∧ watchedPending t.notices = true

/-! ## Tracking and resets -/

/-- R161: a target of this max age and age is STALE. -/
def staleAt (maxAge age : Nat) : Bool := decide (0 < maxAge ∧ maxAge < age)

/-- R166: the distance in mm from the head point to a target. -/
def distanceTo (h : HeadPoint) (g : Target) : Nat :=
  (isqrt ((h.x - g.x).natAbs * (h.x - g.x).natAbs + (h.y - g.y).natAbs * (h.y - g.y).natAbs +
    (h.z - g.z).natAbs * (h.z - g.z).natAbs) + 5) / 10

/-- R168: the tracking record after an evaluation that measures target g, and R167's count in the selected map. -/
def measuredRecord (h : HeadPoint) (g : Target) (m : LensMap) (k : Tracking) : Tracking :=
  { k with
    state := .active
    distance := some (distanceTo h g)
    count := some (focusLookup m.points (distanceTo h g)).1.toNat
    range := (focusLookup m.points (distanceTo h g)).2 }

/-- R173: the link after a reset with these strap levels. -/
def linkAfterReset (straps : Straps) : LinkRecord :=
  { State.reset.link with
    address := if straps.address = 0 then 1 else straps.address.toNat
    rate := straps.rate }

/-- R47, R48: s after a cold reset; the waiting commands and the model's counter stay. -/
def afterCold (cause : ResetCause) (straps : Straps) (s : State) : State :=
  { State.reset with
    link := linkAfterReset straps
    power := ⟨true, false, s.power.backupOn, true, .cold, cause, false⟩
    freeCount := s.freeCount
    pending := s.pending }

/-- R47 to R49: s after a warm reset: as after a cold one, but that the retained records are kept. -/
def afterWarm (cause : ResetCause) (straps : Straps) (s : State) : State :=
  { State.reset with
    config := s.config
    wheels := .ofFn fun i => { s.wheels.get i with counter := 0, carry := 0, idle := none }
    zoneMonitor := { State.reset.zoneMonitor with
      zones := s.zoneMonitor.zones.map fun z =>
        { z with active := false, occupied := false, clearance := none, band := .clear, contribution := none } }
    marks := s.marks.map fun m => { m with locked := false }
    takes := s.takes.map fun k => { k with active := false }
    lens := { State.reset.lens with
      banks := s.lens.banks
      selected := s.lens.selected
      targets := s.lens.targets.map fun g => { g with age := 65535 } }
    link := linkAfterReset straps
    notices := { State.reset.notices with state := ⟨some ⟨.parked, none, .reset .warm⟩, false⟩ }
    power := ⟨true, false, s.power.backupOn, true, .warm, cause, true⟩
    freeCount := s.freeCount
    pending := s.pending }

/-- R35, R46: the outputs of a part held in reset. -/
def quieted (s : State) : State :=
  { s with
    crane := { s.crane with brakes := .ofFn fun _ => true }
    driveBus := []
    link := { s.link with de := false }
    notices := { s.notices with attn := false } }

end Sys2Proof.Machine
end

