-- ==== Sys2Proof/WellFormed.lean ====
section
/-! DEFINITION. Which commands can occur: a request fits a frame (LEN counts at most 250, R175), and carries as
many positions, values or points as its mask or count names unless it is the frame of a wrong length; an
`unknownCode` frame names no request or has a wrong length; a `broadcastIgnored` frame carries none of the three
codes that are executed. -/

namespace Sys2Proof

open Sys2Proof.Machine

/-- R175, R195: LEN counts CODE and the operands and lies within 1 to 250. -/
def fitsFrame (i : Instr) : Bool :=
  match requestBytes i with
  | some b => decide (b.length ≤ 250)
  | none => true

/-- The members that a mask or a count names are there (R180). -/
def countsMatch : Instr → Bool
  | .goto m ps => ps.length == maskCount m
  | .markSet _ _ m vs => vs.length == maskCount m
  | .lensMapSet m => m.points.length == m.pointCount.toNat
  | _ => true

/-- The command of a frame that is no request is not the frame of one. -/
def noRequest : Instr → Bool
  | .unknownCode code ops => match decodeRequest .unit code ops with
    | .ok _ => false
    | .error _ => true
  | .broadcastIgnored code _ => !broadcastCode code
  | _ => true

/-- R196: a record on the drive bus is seven bytes. -/
def drivesWellFormed : Instr → Bool
  | .driveExchange replies => allChans.all fun c => match replies.get c with
    | some b => b.length == 7
    | none => true
  | _ => true

/-- The commands that the part can be given. -/
def wellFormed (i : Instr) : Bool := fitsFrame i && countsMatch i && noRequest i && drivesWellFormed i

end Sys2Proof
end

