-- ==== Sys2Proof/Certificates/Slice0/Obligations.lean ====
section
/-! DEFINITION. The statements for the provers. Each says what one or several commands do, or what every step
keeps; the docstring names the rules of the manual that it rests on. -/

open Sys2Proof Sys2Proof.Machine

/-! ## The step, and what every step keeps -/

/-- The command at the front of the queue runs with the queue's rest. That an empty queue idles is the model's
choice (log entry 8). -/
def Obligations.StepRunsTheFrontCommand : Prop :=
  (∀ c s, step { s with pending := c :: s.pending } = exec c s) ∧ ∀ s, s.pending = [] → step s = .next s

/-- Every command answers a next state and leaves the waiting commands alone; and a part held in reset, or without main
power, sees no command but those of power and RESET (R46). That the fall of RESET is none of these, since it has no effect
on a part that is held or unpowered already, is the model's choice (log entry 19). -/
def Obligations.CommandsAnswerNextStates : Prop :=
  (∀ i s, ∃ t, exec i s = .next t ∧ t.pending = s.pending) ∧
  (∀ i s, s.running = false → resetCommand i = false → exec i s = .next s)

/-- Every invariant of these statements holds at reset (R2, R30, R47, R66, R82, R106, R119, R134, R164, R187). -/
def Obligations.ResetMeetsTheInvariants : Prop :=
  RecordsAgree .reset ∧ TablesAgree .reset ∧ SequenceAgrees .reset ∧ CraneAgrees .reset ∧ ModesAgree .reset ∧
    MovesAgree .reset ∧ LimitsOrdered .reset ∧ OutsideAgrees .reset ∧ RemaindersSmall .reset ∧ LatchesAgree .reset ∧
    RetreatAgrees .reset ∧ PlayAgrees .reset ∧ TrackAgrees .reset ∧ AttnAgrees .reset ∧ HeldQuiet .reset

/-- R106, R108, R119, R121, R122, R133: tables in order, reference counts that count the cues, every cue naming an
existing mark, takes and pool within their sizes. R66, R161: zones and targets stand in order of their numbers, 1 to 24 and
1 to 8, no two sharing one. -/
def Obligations.StepsKeepTheRecords : Prop :=
  (∀ s t, RecordsAgree s → step s = .next t → RecordsAgree t) ∧
  (∀ s t, TablesAgree s → step s = .next t → TablesAgree t)

/-- R1, R3, R14, R30, R34 to R43: slot pointer and sequence belong to ARMING and PARKING; every release slot is 1 to 8 and no
ARM channel is keep-active, running or held; drives, brakes, owners and faults agree with the crane state while the part
runs. That a channel whose drive leaves ACTIVE is in HOLD, without velocity, demand or target, at once is the model's reading
(log entry 12). -/
def Obligations.StepsKeepTheCraneInOrder : Prop :=
  ∀ s t, SequenceAgrees s → CraneConfigured s → (s.running = true → CraneAgrees s) → step s = .next t →
    SequenceAgrees t ∧ CraneConfigured t ∧ (t.running = true → CraneAgrees t)

/-- R2, R18, R20, R27: mode, demand, target and owner of each channel agree, and a channel of an open console move
is the console's and in no other move. -/
def Obligations.StepsKeepModesAndMoves : Prop :=
  ∀ s t, SequenceAgrees s → (s.running = true → CraneAgrees s) → ModesAgree s → MovesAgree s → step s = .next t →
    ModesAgree t ∧ MovesAgree t

/-- R1, R2, R9, R21, R156, R191: limits stay in order, remainders small, and OUTSIDE says where the setpoint stands. -/
def Obligations.StepsKeepLimitsAndOutside : Prop :=
  ∀ s t, LimitsOrdered s → RemaindersSmall s → OutsideAgrees s → step s = .next t →
    LimitsOrdered t ∧ RemaindersSmall t ∧ OutsideAgrees t

/-- R43, R90, R91: a first cause stands exactly while a latch is set, READY and ARMING have none, and RETREAT is
READY's and marks a retreat set that is not empty. -/
def Obligations.StepsKeepLatchesAndRetreat : Prop :=
  ∀ s t, SequenceAgrees s → LatchesAgree s → RetreatAgrees s → step s = .next t → LatchesAgree t ∧ RetreatAgrees t

/-- R109, R124, R134, R135, R145, R151: engine, active take, locked marks and the channels that TAKE owns agree; no channel
stands in the set while no take is active, and none outside the set has a path point, a start or an end. -/
def Obligations.StepsKeepThePlay : Prop :=
  ∀ s t, SequenceAgrees s → RecordsAgree s → PlayAgrees s → step s = .next t → PlayAgrees t

/-- R159, R164: TRACK owns FOCUS alone, exactly while tracking is on, and the tracked target and a map exist; the selected
bank holds a map, tracking or not. R46, R187: ATTN
follows the pending sources and the mask, and the outputs of a part held in reset are released. -/
def Obligations.StepsKeepTrackingAndOutputs : Prop :=
  (∀ s t, TrackAgrees s → step s = .next t → TrackAgrees t) ∧
  (∀ s t, AttnAgrees s → HeldQuiet s → step s = .next t → AttnAgrees t ∧ HeldQuiet t)

/-- R3, R14, R93: whatever trips the crane, every drive is commanded off, every owner is NONE, every brake is applied, the
take is over, tracking is OFF, no sequence and no deadline runs, and STATE reports TRIPPED. That every channel is in HOLD,
without velocity, demand or target, at the trip itself, where R14 gives it from the next good reply on, is the model's
reading (log entry 12), and that the stopped slot timer stands at 0 its choice (log entry 34). -/
def Obligations.TrippingTakesThePowerAway : Prop :=
  ∀ i s t, exec i s = .next t → s.crane.state ≠ .tripped → t.crane.state = .tripped →
    (∀ c, (t.chan c).commanded = false ∧ (t.chan c).drive = .off ∧ (t.chan c).owner = .none ∧
      (t.chan c).mode = .hold ∧ (t.chan c).velocity = 0 ∧ (t.chan c).demand = none ∧ (t.chan c).target = none) ∧
    (∀ b, t.crane.brakes.get b = true) ∧ (∀ m ∈ t.moves, ∀ c, m.remaining.get c = false) ∧
    t.engine.take = none ∧ t.lens.tracking.state = .off ∧ t.crane.slotPointer = none ∧ t.crane.slotTimer = 0 ∧
    t.crane.sequence = .none ∧ t.stops.deadlineTimer = none ∧
    (s.crane.state = .ready → t.stops.retreatSet = [] ∧ t.crane.retreat = false) ∧
    t.notices.state.detail = some ⟨.tripped, t.stops.first, .none⟩

/-- Section 2.1 with R33, R36, R37, R39, R41, R49, R100: the crane changes state only along these edges; a reset brings it
to PARKED, and TRIPPED is left with every latch clear. R31, R92, R187: a change leaves STATE pending with the new state
and the first cause as it then stands, and asserts ATTN while STATE is enabled. -/
def Obligations.CraneChangesFollowEdgesAndNotice : Prop :=
  (∀ i s t, SequenceAgrees s → exec i s = .next t →
     (craneEdge s.crane.state t.crane.state = true ∨
       (t.crane.state = .parked ∧ ((∃ ms x, i = .resetRelease ms x) ∨ ∃ x, i = .powerUp x))) ∧
     (s.crane.state = .tripped → t.crane.state ≠ .tripped → ∀ k, getCause t.stops.latches k = none)) ∧
  (∀ i s t, exec i s = .next t → t.crane.state ≠ s.crane.state →
     (∃ x, t.notices.state.detail = some ⟨t.crane.state, t.stops.first, x⟩) ∧
     (t.notices.mask.getLsbD 0 = true → t.notices.attn = true))

/-! ## The console link -/

/-- R177, R178, R182: a unit frame is answered whatever its result; it restarts the periodic timer with the period as it
stood, and ends a LINK condition. R181, R183, R184: in PERIODIC the notice timer is stopped; in PERIODIC+NOTICE a frame that
arms the timers, or that ends LINK, starts it at 0 if STATE or ZONE is pending and else stops it; a request that makes STATE
pending, neither being so, starts it at 0; otherwise it stays as it is; so for every request and every frame that spells
none. NOTICE and a write of the supervision mode have their own statements. That it starts whichever timer had expired (log
entry 14), and that the answer stands in the buffer with DE asserted at the acceptance, before the reply's address character
begins (log entry 10), are the model's choices. -/
def Obligations.EveryUnitFrameIsAnswered : Prop :=
  ∀ i s, requestBytes i ≠ none → requestOrigin i = .unit → s.canReceive = true →
    ∃ t code payload, Replied i s t code payload ∧ t.link.periodic = .running 0 s.config.supervisionPeriod ∧
      t.stops.conditions.link = none ∧ t.link.address = s.link.address ∧ t.link.rate = s.link.rate ∧
      (wellFormed i = true → i ≠ .notice → (∀ v : BitVec 32, v.toInt = 0 ∨ v.toInt = 1 → i ≠ .configSet 0x0A#8 v) →
        (startsTimer s t → t.link.noticeTimer = .running 0 s.config.supervisionPeriod) ∧
        (¬startsTimer s t → t.link.noticeTimer = servedTimer s))

/-- R180: a refused request changes no state but what the frame's acceptance and answer change. -/
def Obligations.RefusedRequestsChangeNothing : Prop :=
  ∀ i s t code payload, s.canReceive = true → Replied i s t code payload → code ≠ .ok → code ≠ .clamped →
    OnlyLink s t

/-- R180, R193, R199: a unit frame of an unknown code is refused BAD_CODE, one whose operands are too many or too few
BAD_LENGTH; the mask of GOTO and MARK_SET and the count of LENS_MAP_SET set how many are due. R174, R177, R179: a broadcast
is not answered and leaves the receiver UNADDRESSED; one that is not executed changes nothing but the link. R140, R162: a
broadcast TAKE_GO or TARGET_SET, accepted or refused, does to everything but the link what the unit frame does, and so has the
effects that GoStartsThePlay and LensRecordsAreKept give. R183, R184: a broadcast's acceptance serves the notice timer as a
unit frame's does (log entry 14). -/
def Obligations.FramesThatAreNoRequest : Prop :=
  (∀ code ops s, s.canReceive = true →
     (knownCode code = false → RefusedWith (.unknownCode code ops) s .badCode) ∧
     (∀ n, operandBytes code.toNat = some n → ops.length ≠ n → RefusedWith (.unknownCode code ops) s .badLength) ∧
     ((code = 0x13#8 ∧ ops.length < 2) ∨ (code = 0x30#8 ∧ ops.length < 5) ∨ (code = 0x50#8 ∧ ops.length < 4) →
       RefusedWith (.unknownCode code ops) s .badLength) ∧
     (∀ m1 m0 rest, code = 0x13#8 → ops = m1 :: m0 :: rest → rest.length ≠ 4 * maskCount (m1 ++ m0) →
       RefusedWith (.unknownCode code ops) s .badLength) ∧
     (∀ n t1 t0 m1 m0 rest, code = 0x30#8 → ops = n :: t1 :: t0 :: m1 :: m0 :: rest →
       rest.length ≠ 4 * maskCount (m1 ++ m0) → RefusedWith (.unknownCode code ops) s .badLength) ∧
     (∀ h n rest, code = 0x50#8 → h.length = 3 → ops = h ++ n :: rest → rest.length ≠ 9 + 6 * n.toNat →
       RefusedWith (.unknownCode code ops) s .badLength)) ∧
  (∀ s, s.canReceive = true →
     (∀ code ops, broadcastCode code = false → ∃ t, exec (.broadcastIgnored code ops) s = .next t ∧ OnlyLink s t ∧
       t.link.receiver = .unaddressed ∧ t.link.de = s.link.de ∧
       t.link.periodic = .running 0 s.config.supervisionPeriod ∧ t.link.noticeTimer = servedTimer s) ∧
     (∀ i j, (∃ m, i = .takeGo .broadcast m ∧ j = .takeGo .unit m) ∨
         (∃ n x y z a, i = .targetSet .broadcast n x y z a ∧ j = .targetSet .unit n x y z a) →
       ∃ t u, exec i s = .next t ∧ exec j s = .next u ∧ t = { u with link := t.link }) ∧
     ∀ i, (i = .stop .broadcast ∨ (∃ m, i = .takeGo .broadcast m) ∨
         ∃ n x y z a, i = .targetSet .broadcast n x y z a) →
       ∃ t, exec i s = .next t ∧ t.link.receiver = .unaddressed ∧ t.link.de = s.link.de ∧
         t.link.periodic = .running 0 s.config.supervisionPeriod ∧ t.stops.conditions.link = none ∧
         (startsTimer s t → t.link.noticeTimer = .running 0 s.config.supervisionPeriod) ∧
         (¬startsTimer s t → t.link.noticeTimer = servedTimer s))

/-- R193, R197, R199: CODE and operands as a request is sent are read as that request, every operand at every
value. -/
def Obligations.RequestsAreReadAsSent : Prop :=
  ∀ i code ops, requestBytes i = some (code :: ops) → countsMatch i = true →
    (∀ c o, i ≠ .unknownCode c o) → (∀ c o, i ≠ .broadcastIgnored c o) →
    decodeRequest (requestOrigin i) code ops = .ok i

/-- R174, R175, R177, R180: LEN, CODE, operands and CHECK arriving one by one after the address character do what
the request's own command does. That a request's command is the arrival of its whole frame is the model's choice (log
entry 10). -/
def Obligations.CharactersOfAFrameRunItsRequest : Prop :=
  ∀ i s data, requestBytes i = some data → wellFormed i = true → s.running = true →
    s.link.receiver = .addressed (requestOrigin i) →
    deliver (framed data) s = exec i (receivingState (requestOrigin i) (framed data).dropLast s)

/-- R172: a bit is the majority of its 7th, 8th and 9th samples, a start bit read high is noise, a stop bit read low a
framing error; characters sent bit by bit, idle between them or not, are read as they were sent. R174: an address character
of value 0 or of the unit address addresses the part, another one does not; the frame in progress is gone. R175: LEN 1 to 250
enters RECEIVING, and a byte that does not complete the frame is added to the buffer. R175, R176: a frame in progress is
discarded by a framing error, a break, a gap, a LEN out of range, and a sum that is not 0; UNADDRESSED sees none of it, and
the end of a reply releases DE (R178). That an address character with a framing error addresses nobody, and where the search
for the next start bit resumes, is the model's choice (log entry 16). -/
def Obligations.ReceiverFollowsTheLine : Prop :=
  (∀ s v, s.canReceive = true → ∃ t, exec (.addressCharacter v false) s = .next t ∧ t = { s with link := t.link } ∧
     t.link = { s.link with receiver := t.link.receiver, gapRunning := t.link.gapRunning } ∧
     (t.link.receiver = .addressed .broadcast ↔ v = 0#8) ∧
     (t.link.receiver = .addressed .unit ↔ v ≠ 0#8 ∧ v.toNat = s.link.address) ∧
     (t.link.receiver = .unaddressed ↔ v ≠ 0#8 ∧ v.toNat ≠ s.link.address) ∧
     (t.link.gapRunning = true ↔ t.link.receiver ≠ .unaddressed)) ∧
  (∀ s, s.running = true →
     (∀ o, s.link.receiver = .addressed o ∨ s.link.receiver = .receiving o →
       (∀ v, exec (.addressCharacter v true) s = .next (discarded s) ∧ exec (.dataCharacter v true) s = .next (discarded s)) ∧
       exec .lineBreak s = .next (discarded s) ∧
       (s.link.gapRunning = true → exec .interCharacterGap s = .next (discarded s))) ∧
     (∀ o v, s.link.receiver = .addressed o →
       (v.toNat = 0 ∨ 250 < v.toNat → exec (.dataCharacter v false) s = .next (discarded s)) ∧
       (1 ≤ v.toNat → v.toNat ≤ 250 → exec (.dataCharacter v false) s = .next (receivingState o [v] s))) ∧
     (∀ o v len rest, s.link.receiver = .receiving o → s.link.buffer = len :: rest → rest.length < len.toNat →
       exec (.dataCharacter v false) s = .next (receivingState o (s.link.buffer ++ [v]) s)) ∧
     (∀ o v len rest, s.link.receiver = .receiving o → s.link.buffer = len :: rest → rest.length = len.toNat →
       (s.link.buffer ++ [v]).foldl (fun n b => n + b.toNat) 0 % 256 ≠ 0 →
       exec (.dataCharacter v false) s = .next (discarded s)) ∧
     (s.link.receiver = .unaddressed → ∀ v e, exec (.dataCharacter v e) s = .next s ∧ exec .lineBreak s = .next s) ∧
     (s.link.receiver = .answering →
       exec .replyComplete s = .next { s with link := { s.link with receiver := .unaddressed, de := false } })) ∧
  (∀ samples : List Bool,
     let high := fun k : Nat => decide (2 ≤ (samples.getD (16 * k + 6) true).toNat +
       (samples.getD (16 * k + 7) true).toNat + (samples.getD (16 * k + 8) true).toNat)
     (high 0 = true → readCharacter samples = .noise) ∧
     ∀ v flag framing, (∀ k b, ((characterBits v flag).set 10 (!framing))[k]? = some b → high k = b) →
       readCharacter samples = .character v flag framing) ∧
  (∀ cs : List (Nat × Byte × Bool),
     lineCommands (cs.flatMap fun c => List.replicate c.1 true ++ sampled (characterBits c.2.1 c.2.2)) =
       cs.map fun c => if c.2.2 = true then .addressCharacter c.2.1 false else .dataCharacter c.2.1 false) ∧
  ∀ before low after, low ≤ 7 →
    lineCommands (List.replicate before true ++ List.replicate low false ++ List.replicate after true) = []

/-- R181, R182, R184: a timer event raises each running timer by 1 ms; a timer that reaches its period stops both and brings
LINK with its own detail. R183: of the other commands that are no frame and no timer event, only one that raises STATE or
ZONE, with neither pending, the timers armed and LINK absent, in PERIODIC+NOTICE, starts the notice timer, at 0. R96: LINK
brings the lens channels that CONSOLE owns to rest under their owner and ends their moves. Which of two expiries comes first
stays open (log entry 1); that such a channel is no longer in position is the model's choice (log entry 20). -/
def Obligations.SilentConsolesRaiseLink : Prop :=
  ∀ s, s.running = true →
    let rests := fun t : State => ∀ c, isLens c = true →
      ((s.chan c).owner = .console → (s.chan c).drive = .active → (∀ m ∈ t.moves, m.remaining.get c = false) ∧
        t.chan c = { s.chan c with mode := .velocity, demand := some 0, target := none, inPosition := false }) ∧
      ((s.chan c).owner ≠ .console → (s.chan c).owner ≠ .take → t.chan c = s.chan c)
    (timerDue s.link.periodic = false → timerDue s.link.noticeTimer = false →
      exec .consoleTimerEvent s = .next { s with link := { s.link with
        periodic := tickTimer s.link.periodic, noticeTimer := tickTimer s.link.noticeTimer } }) ∧
    (∀ e p, s.link.periodic = .running e p → p ≤ e + 1 → s.stops.conditions.link = none →
      ∃ t, exec .periodicTimerExpiry s = .next t ∧ t.link.periodic = .stopped ∧ t.link.noticeTimer = .stopped ∧
        t.stops.conditions.link = some (.link .supervision) ∧
        t.stops.latches.link = some (s.stops.latches.link.getD (.link .supervision)) ∧ rests t ∧
        (s.crane.state = .ready → t.crane.state = .stopping) ∧
        (timerDue s.link.noticeTimer = false → exec .consoleTimerEvent s = .next t)) ∧
    (∀ e p, s.link.noticeTimer = .running e p → p ≤ e + 1 → s.stops.conditions.link = none →
      ∃ t, exec .noticeTimerExpiry s = .next t ∧ t.link.periodic = .stopped ∧ t.link.noticeTimer = .stopped ∧
        t.stops.conditions.link = some (.link .notice) ∧
        t.stops.latches.link = some (s.stops.latches.link.getD (.link .notice)) ∧ rests t ∧
        (s.crane.state = .ready → t.crane.state = .stopping) ∧
        (timerDue s.link.periodic = false → exec .consoleTimerEvent s = .next t)) ∧
    (timerDue s.link.periodic = true → timerDue s.link.noticeTimer = true →
      exec .consoleTimerEvent s = exec .periodicTimerExpiry { s with freeCount := s.freeCount + 1 } ∨
      exec .consoleTimerEvent s = exec .noticeTimerExpiry { s with freeCount := s.freeCount + 1 }) ∧
    (∀ i t, requestBytes i = none → (∀ v e, i ≠ .dataCharacter v e) →
      i ∉ [Instr.consoleTimerEvent, .periodicTimerExpiry, .noticeTimerExpiry] → exec i s = .next t →
      let starts := startsTimer s t ∧ s.link.periodic ≠ .disarmed ∧ s.stops.conditions.link = none
      t.link.periodic = s.link.periodic ∧
        (starts → t.link.noticeTimer = .running 0 s.config.supervisionPeriod) ∧
        (¬starts → t.link.noticeTimer = s.link.noticeTimer))

/-- R183, R186, R187: NOTICE returns the most urgent pending source with its overrun flag, clears it, and shows what is left;
with nothing pending it answers zeros and changes nothing. A read of STATE or ZONE restarts the notice timer at 0 while the
other stays pending, in PERIODIC+NOTICE, and else stops it; another read leaves it as the frame's acceptance does (log entry
14). NOTICE_MASK replaces the mask whole and ATTN follows at once. R105: INPUTS answers states, change flags and the
discrepancy latch, and then clears every change flag. -/
def Obligations.NoticesAndInputsAreServed : Prop :=
  (∀ s, s.canReceive = true →
     (pendingSources s.notices = 0#8 → Shows .notice s fun _ => List.replicate 9 0#8) ∧
     (∀ d, s.notices.state.detail = some d → ∃ t, Replied .notice s t .ok
         (1#8 :: stateDetailBytes d ++ flagByte s.notices.state.overrun ++ [pendingSources t.notices]) ∧
       t = { servedBy s t with notices := noticesWith { s.notices with state := ⟨none, false⟩ } } ∧
       t.link.noticeTimer = if s.config.supervisionMode = .periodicNotice ∧ s.notices.zone.detail ≠ none then
         .running 0 s.config.supervisionPeriod else .stopped) ∧
     (∀ d, s.notices.state.detail = none → s.notices.zone.detail = some d → ∃ t, Replied .notice s t .ok
         (2#8 :: zoneDetailBytes d ++ [0#8, 0#8, 0#8] ++ flagByte s.notices.zone.overrun ++ [pendingSources t.notices]) ∧
       t = { servedBy s t with notices := noticesWith { s.notices with zone := ⟨none, false⟩ } } ∧
       t.link.noticeTimer = .stopped) ∧
     (s.notices.state.detail = none → s.notices.zone.detail = none →
       ∃ t, exec .notice s = .next t ∧ t.link.noticeTimer = servedTimer s) ∧
     (∀ d, s.notices.state.detail = none → s.notices.zone.detail = none → s.notices.take.detail = some d →
       ∃ t, Replied .notice s t .ok
         (3#8 :: takeDetailBytes d ++ [0#8, 0#8] ++ flagByte s.notices.take.overrun ++ [pendingSources t.notices]) ∧
       t = { servedBy s t with notices := noticesWith { s.notices with take := ⟨none, false⟩ } }) ∧
     (pendingSources s.notices &&& 7#8 = 0#8 →
       (∀ d, s.notices.move.detail = some d → ∃ t, Replied .notice s t .ok
           (4#8 :: moveDetailBytes d ++ [0#8, 0#8, 0#8] ++ flagByte s.notices.move.overrun ++ [pendingSources t.notices]) ∧
         t = { servedBy s t with notices := noticesWith { s.notices with move := ⟨none, false⟩ } }) ∧
       (∀ d, s.notices.move.detail = none → s.notices.track.detail = some d → ∃ t, Replied .notice s t .ok
           (5#8 :: trackDetailBytes d ++ [0#8, 0#8, 0#8] ++ flagByte s.notices.track.overrun ++ [pendingSources t.notices]) ∧
         t = { servedBy s t with notices := noticesWith { s.notices with track := ⟨none, false⟩ } }) ∧
       (∀ d, s.notices.move.detail = none → s.notices.track.detail = none → s.notices.input.detail = some d →
         ∃ t, Replied .notice s t .ok
           (6#8 :: lineSetBytes d ++ [0#8, 0#8, 0#8] ++ flagByte s.notices.input.overrun ++ [0#8]) ∧
         t = { servedBy s t with notices := noticesWith { s.notices with input := ⟨none, false⟩ } }))) ∧
  (∀ s m, s.canReceive = true →
     (m.toNat < 64 → ∃ t, Replied (.noticeMask m) s t .ok [] ∧
       t = { servedBy s t with notices := noticesWith { s.notices with mask := m } }) ∧
     (64 ≤ m.toNat → RefusedWith (.noticeMask m) s .badOperand)) ∧
  (∀ s, s.canReceive = true → ∃ t,
     Replied .inputs s t .ok (lineSetBytes (lineStates s) ++ lineSetBytes (changeFlags s) ++ flagByte s.stops.discrepancy) ∧
     changeFlags t = 0#24 ∧ lineStates t = lineStates s ∧
     t = { servedBy s t with presence := t.presence, stops := t.stops } ∧
     t.stops = { (servedBy s t).stops with
       estop1 := { s.stops.estop1 with changed := false }
       estop2 := { s.stops.estop2 with changed := false }
       grip := { s.stops.grip with changed := false }
       overtravel := t.stops.overtravel
       frame := { s.stops.frame with changed := false } } ∧
     (∀ i, t.stops.overtravel.get i = { s.stops.overtravel.get i with changed := false }) ∧
     ∀ l, t.presence.get l = { s.presence.get l with filter := { (s.presence.get l).filter with changed := false } })

/-! ## Reads and configuration -/

/-- R29, R71, R114, R115, R131, R132, R158, R163, R188, R189, R192: the twelve reads answer with the record as it
stands and change nothing. R194, R197 to R199: the fields of each record in order, with their sizes; what an absent limit
pair of a map is sent as stays open (log entry 3). -/
def Obligations.ReadsShowAndChangeNothing : Prop :=
  (∀ s, s.canReceive = true →
    Shows .ident s identRecord ∧ Shows .status s statusRecord ∧
    (∀ item k, configItem item = some k → Shows (.configGet item) s fun t => item :: s32 (readItem t.config k)) ∧
    (∀ b c, chanOfIndex b.toNat = some c → Shows (.channelGet b) s fun t => channelRecord t c) ∧
    (∀ b z, 1 ≤ b.toNat → b.toNat ≤ 24 → s.findZone b.toNat = some z → Shows (.zoneGet b) s fun t => zoneRecordBytes t z) ∧
    (Shows .zoneList s fun t => u8 t.zoneMonitor.zones.length ++ t.zoneMonitor.zones.flatMap fun z => u8 z.number) ∧
    (∀ b m, 1 ≤ b.toNat → b.toNat ≤ 128 → s.findMark b.toNat = some m → Shows (.markGet b) s fun _ => markRecord m) ∧
    (∀ b shown rest, 1 ≤ b.toNat → b.toNat ≤ 128 →
      (s.marks.map (·.number)).filter (fun n => decide (b.toNat ≤ n)) = shown ++ rest →
      shown.length = 60 ∨ (shown.length < 60 ∧ rest = []) →
      Shows (.markList b) s fun _ => u8 shown.length ++ flagByte (!rest.isEmpty) ++ shown.flatMap u8) ∧
    (∀ b k x, 1 ≤ b.toNat → b.toNat ≤ 16 → 1 ≤ k.toNat → k.toNat ≤ 64 → s.findTake b.toNat = some x →
      Shows (.takeGet b k) s fun _ => takeRecord x k.toNat) ∧
    (Shows .takeList s fun t => u8 t.takes.length ++
      (t.takes.flatMap fun x => u8 x.number ++ u8 x.cues.length ++ flagByte x.active) ++
      u16 (256 - (t.takes.map fun x => x.cues.length).sum)) ∧
    (∀ b k m, bankOfNumber b.toNat = some k → s.lens.banks.get k = some m →
      Shows (.lensMapGet b) s fun t => mapRecord k (t.lens.selected == some k) m) ∧
    (∀ b g, 1 ≤ b.toNat → b.toNat ≤ 8 → s.findTarget b.toNat = some g → Shows (.targetGet b) s fun t => targetRecord t g)) ∧
  (∀ s,
    identRecord s = recordOf [(2, 0x2A17), (2, 0x7240), (1, 1), (1, s.link.address), (1, s.link.rate.toNat), (1, 128),
      (1, 16), (2, 256), (1, 24), (1, 4), (1, 8), (1, codeIn [.cold, .warm] s.power.lastKind),
      (1, codeIn [.powerInvalid, .powerValid, .resetHold, .resetPulse] s.power.lastCause),
      (1, s.power.survived.toNat), (1, s.notices.mask.toNat), (1, 0)] ∧
    (identRecord s).length = 19 ∧ (statusRecord s).length = 78 ∧
    (fits32 s.head.x → fits32 s.head.y → fits32 s.head.z →
      statusRecord s = recordOf ([
        (1, codeIn [.parked, .arming, .ready, .stopping, .halted, .tripped, .parking] s.crane.state),
        (1, s.crane.retreat.toNat), (1, (causeFields s.stops.first).1), (1, (causeFields s.stops.first).2.1),
        (1, (causeFields s.stops.first).2.2),
        (1, bitSet (allCauses.map fun k => (getCause s.stops.latches k).isSome)),
        (1, bitSet (allCauses.map fun k => (getCause s.stops.conditions k).isSome)),
        (2, bitSet (allChans.map fun c => (s.chan c).inhibitMinus)),
        (2, bitSet (allChans.map fun c => (s.chan c).inhibitPlus)),
        (1, codeIn [.idle, .cueing, .armed, .waitFrame, .playing, .paused] s.engine.state),
        (1, (s.engine.take.getD 0 : Nat)), (1, s.engine.cueIndex), (2, s.engine.rate),
        (2, (min 65535 (s.engine.lag / 1024) : Nat)), (2, s.zoneMonitor.scale), (1, (s.zoneMonitor.limiting.getD 0 : Nat)),
        (4, s.head.x), (4, s.head.y), (4, s.head.z), (1, s.head.valid.toNat),
        (1, codeIn [.off, .active, .suspended] s.lens.tracking.state), (1, s.lens.tracking.range.toNat),
        (1, bitSet [s.notices.state.detail.isSome, s.notices.zone.detail.isSome, s.notices.take.detail.isSome,
          s.notices.move.detail.isSome, s.notices.track.detail.isSome, s.notices.input.detail.isSome])] ++
        (allChans.map fun c => (1, codeIn [.none, .console, .wheel, .take, .track] (s.chan c).owner)) ++
        allCauses.flatMap fun k => [(1, (causeFields (getCause s.stops.latches k)).2.1),
          (1, (causeFields (getCause s.stops.latches k)).2.2), (1, (causeFields (getCause s.stops.conditions k)).2.1),
          (1, (causeFields (getCause s.stops.conditions k)).2.2)])) ∧
    (∀ c, (channelRecord s c).length = 51 ∧
      let r := s.chan c
      let demand := if r.mode = .velocity then r.demand.getD 0 else 0
      let target := if r.mode = .position then r.target.getD 0 else 0
      ((∀ v ∈ [r.setpoint, r.velocity, demand, target, r.feedback, s.lo c, s.hi c], fits32 v) →
        channelRecord s c = recordOf [(1, chanIndex c), (1, codeIn [.off, .enabling, .active, .fault] r.drive),
          (1, codeIn [.hold, .velocity, .position, .path] r.mode),
          (1, codeIn [.none, .console, .wheel, .take, .track] r.owner), (4, r.setpoint), (2, r.fraction), (4, r.velocity),
          (4, demand), (4, target), (4, r.feedback), (1, r.stale),
          (1, bitSet [r.atLimit, r.outside, r.inhibitMinus, r.inhibitPlus, r.stopDecel,
            s.moves.any fun m => m.remaining.get c, r.inPosition, r.known]),
          (4, s.lo c), (4, s.hi c), (4, (s.cfg c).vmax), (2, (s.cfg c).accel), (2, (s.cfg c).stopStep),
          (4, (s.cfg c).followLimit), (1, (s.cfg c).releaseSlot), (1, (s.cfg c).keepActive.toNat),
          (1, (!isArm c).toNat)])) ∧
    (∀ z, (∀ v ∈ [z.xLo, z.xHi, z.yLo, z.yHi, z.zLo, z.zHi], fits32 v) →
      zoneRecordBytes s z = recordOf [(1, z.number), (1, codeIn [.guard, .slow] z.kind), (1, z.line), (4, z.xLo), (4, z.xHi),
        (4, z.yLo), (4, z.yHi), (4, z.zLo), (4, z.zHi), (4, z.stopMargin), (4, z.slowMargin), (1, z.active.toNat),
        (1, z.occupied.toNat), (4, clearanceField z.clearance), (1, codeIn [.clear, .slow, .stop] z.band),
        (2, (z.contribution.getD 0xFFFF : Nat)), (1, (decide (s.zoneMonitor.limiting = some z.number)).toNat),
        (1, (s.stops.retreatSet.any fun r => r.zone == z.number).toNat),
        (4, clearanceField ((s.stops.retreatSet.find? fun r => r.zone == z.number).map (·.reference)))]) ∧
    (∀ g, fits32 g.x → fits32 g.y → fits32 g.z →
      let k := s.lens.tracking
      let on := decide (k.state ≠ .off ∧ k.target = some g.number)
      targetRecord s g = recordOf [(1, g.number), (4, g.x), (4, g.y), (4, g.z), (2, g.maxAge), (2, g.age),
        (1, (staleAt g.maxAge g.age).toNat), (1, bitSet [on, on && k.range, on && k.distance.isSome, on && k.count.isSome]),
        (1, if on = true then codeIn [.off, .active, .suspended] k.state else 0),
        (4, if on = true then Int.ofNat (k.distance.getD 0) else 0),
        (2, if on = true then Int.ofNat (k.count.getD 0) else 0)])) ∧
  (∀ m : Mark, (∀ c v, m.values.get c = some v → fits32 v) →
    markRecord m = recordOf ([(1, Int.ofNat m.number), (2, Int.ofNat m.tag.toNat),
      (2, bitSet (allChans.map fun c => (m.values.get c).isSome)), (2, Int.ofNat m.refCount),
      (1, Int.ofNat m.locked.toNat)] ++ (allChans.filterMap m.values.get).map fun v => (4, v))) ∧
  (∀ (x : Take) (k : Nat), 1 ≤ k →
    takeRecord x k = recordOf [(1, x.number), (2, x.tag.toNat), (1, x.cues.length),
      (1, codeIn [.none, .done, .slowed, .partial_, .stopped, .aborted, .failed] x.lastResult), (2, x.lastLag),
      (2, x.passCount), (1, x.active.toNat), (1, (decide (16 < (x.cues.drop (k - 1)).length)).toNat)] ++
      (((x.cues.drop (k - 1)).take 16).zipIdx k).flatMap fun p => recordOf [(1, p.2), (1, p.1.mark), (4, p.1.travel),
        (4, p.1.dwell), (1, codeIn [.linear, .ease] p.1.curve), (2, p.1.mask.toNat)]) ∧
  (∀ b selected m, ∃ iris zoom : List Byte, iris.length = 4 ∧ zoom.length = 4 ∧
    (∀ p, m.iris = some p → iris = recordOf [(2, p.lo), (2, p.hi)]) ∧
    (∀ p, m.zoom = some p → zoom = recordOf [(2, p.lo), (2, p.hi)]) ∧
    mapRecord b selected m = recordOf [(1, b.val), (2, m.tag.toNat), (1, m.points.length),
      (1, bitSet [m.iris.isSome, m.zoom.isSome])] ++ iris ++ zoom ++
      (m.points.flatMap fun p => recordOf [(4, p.distance), (2, p.count)]) ++ recordOf [(1, selected.toNat)])

/-- R26, R29, R71, R111, R112, R114 to R116, R130, R131, R136, R158, R163: a number or a channel out of range is refused
BAD_OPERAND, a number without a record NOT_FOUND. R126: a cue whose operands are out of their ranges is refused BAD_OPERAND.
R191: the tests of CONFIG_SET in their order. R24 to R28, R194: a channel above 8, a velocity beyond 1,000,000, and a mask
that is empty or names more than the nine channels are refused BAD_OPERAND. R127 to R129: so is a position of a cue out of
its range. R26, R165: GOTO_MARK and TRACK_ON test their numbers likewise. -/
def Obligations.RequestTestsRefuse : Prop :=
  (∀ s n, s.canReceive = true →
     (∀ i ∈ [Instr.zoneGet n, .zoneRetire n],
       (n.toNat = 0 ∨ 24 < n.toNat → RefusedWith i s .badOperand) ∧
       (1 ≤ n.toNat → n.toNat ≤ 24 → s.findZone n.toNat = none → RefusedWith i s .notFound)) ∧
     (∀ i ∈ [Instr.markGet n, .markRetire n],
       (n.toNat = 0 ∨ 128 < n.toNat → RefusedWith i s .badOperand) ∧
       (1 ≤ n.toNat → n.toNat ≤ 128 → s.findMark n.toNat = none → RefusedWith i s .notFound)) ∧
     (n.toNat = 0 ∨ 128 < n.toNat → RefusedWith (.markList n) s .badOperand) ∧
     (∀ tag m, n.toNat = 0 ∨ 128 < n.toNat ∨ m = 0#16 ∨ 512 ≤ m.toNat → RefusedWith (.markCapture n tag m) s .badOperand ∧
       ∀ vs, vs.length = maskCount m → RefusedWith (.markSet n tag m vs) s .badOperand) ∧
     (8 < n.toNat → RefusedWith (.channelGet n) s .badOperand) ∧
     (∀ k (q : CueOperands), q.mark.toNat = 0 ∨ 128 < q.mark.toNat ∨ q.travel.toNat = 0 ∨ 600000 < q.travel.toNat ∨
         600000 < q.dwell.toNat ∨ 1 < q.curve.toNat ∨ q.mask = 0#16 ∨ 512 ≤ q.mask.toNat →
       RefusedWith (.takeCueInsert n k q) s .badOperand ∧ RefusedWith (.takeCueReplace n k q) s .badOperand) ∧
     (∀ i ∈ [Instr.takeGet n 1#8, .takeCueDelete n 1#8, .takeRetire n, .takeArm n],
       (n.toNat = 0 ∨ 16 < n.toNat → RefusedWith i s .badOperand) ∧
       (1 ≤ n.toNat → n.toNat ≤ 16 → s.findTake n.toNat = none → RefusedWith i s .notFound)) ∧
     (∀ k : Byte, (k.toNat = 0 ∨ 64 < k.toNat → RefusedWith (.takeGet n k) s .badOperand ∧
         RefusedWith (.takeCueDelete n k) s .badOperand ∧ ∀ q, RefusedWith (.takeCueReplace n k q) s .badOperand) ∧
       (k.toNat = 0 ∨ 65 < k.toNat → ∀ q, RefusedWith (.takeCueInsert n k q) s .badOperand)) ∧
     (∀ m, (n.toNat = 0 ∨ 128 < n.toNat → RefusedWith (.gotoMark n m) s .badOperand) ∧
       (1 ≤ n.toNat → n.toNat ≤ 128 → m ≠ 0#16 → m.toNat < 512 → s.findMark n.toNat = none →
         RefusedWith (.gotoMark n m) s .notFound)) ∧
     (n.toNat = 0 ∨ 8 < n.toNat → RefusedWith (.trackOn n) s .badOperand) ∧
     (∀ i ∈ [Instr.targetGet n, .targetRetire n],
       (n.toNat = 0 ∨ 8 < n.toNat → RefusedWith i s .badOperand) ∧
       (1 ≤ n.toNat → n.toNat ≤ 8 → s.findTarget n.toNat = none → RefusedWith i s .notFound)) ∧
     (∀ i ∈ [Instr.lensMapGet n, .lensMapRetire n],
       (3 < n.toNat → RefusedWith i s .badOperand) ∧
       (∀ k, bankOfNumber n.toNat = some k → s.lens.banks.get k = none → RefusedWith i s .notFound))) ∧
  (∀ s item value, s.canReceive = true →
     (configItem item = none → RefusedWith (.configSet item value) s .badOperand ∧
       RefusedWith (.configGet item) s .badOperand) ∧
     ∀ k, configItem item = some k →
       (twoValuedItem k = true → value.toInt ≠ 0 → value.toInt ≠ 1 → RefusedWith (.configSet item value) s .badOperand) ∧
       ((twoValuedItem k = true → value.toInt = 0 ∨ value.toInt = 1) → parkedItem k = true → s.crane.state ≠ .parked →
         RefusedWith (.configSet item value) s .state) ∧
       (∀ c, k = .softLo c → (s.cfg c).hi < max (softRange c).1 (min (softRange c).2 value.toInt) →
         RefusedWith (.configSet item value) s .badOperand) ∧
       (∀ c, k = .softHi c → max (softRange c).1 (min (softRange c).2 value.toInt) < (s.cfg c).lo →
         RefusedWith (.configSet item value) s .badOperand)) ∧
  (∀ s, s.canReceive = true →
     (∀ b v, 8 < b.toNat ∨ v.toInt < -1000000 ∨ 1000000 < v.toInt → RefusedWith (.jog b v) s .badOperand) ∧
     (∀ m, m = 0#16 ∨ 512 ≤ m.toNat → RefusedWith (.release m) s .badOperand ∧
       (∀ n, RefusedWith (.gotoMark n m) s .badOperand) ∧
       ∀ ps, ps.length = maskCount m → RefusedWith (.goto m ps) s .badOperand) ∧
     (∀ w c g, w.toNat = 0 ∨ 4 < w.toNat ∨ (8 < c.toNat ∧ c ≠ 0xFF#8) → RefusedWith (.wheelAssign w c g) s .badOperand))

/-- R10, R159, R190, R191: CONFIG_SET stores the value brought within the range of the item and nothing else, answers CLAMPED
where that changed it, and a soft limit that is in force acts on the flags of its channel at once. R65: a write of a polarity
makes the line occupied, whatever it stored before, and counts as a change where the filter stood deasserted. R181: a write
of the supervision mode stops the notice timer, or, in PERIODIC+NOTICE with STATE or ZONE pending, starts it at 0; one of the
period leaves the periodic timer with the old period and the notice timer as the frame's acceptance left it (log entry 14).
-/
def Obligations.ConfigSetStoresTheValue : Prop :=
  (∀ s item value k, s.canReceive = true → configItem item = some k →
     (twoValuedItem k = true → value.toInt = 0 ∨ value.toInt = 1) →
     (parkedItem k = true → s.crane.state = .parked) →
     keepsOrder s.config k (max (itemRange k).1 (min (itemRange k).2 value.toInt)) = true →
     ∃ t w, w = max (itemRange k).1 (min (itemRange k).2 value.toInt) ∧
       Replied (.configSet item value) s t (if w = value.toInt then .ok else .clamped) (item :: s32 w) ∧
       readItem t.config k = w ∧ (∀ j, j ≠ k → readItem t.config j = readItem s.config j) ∧
       t = { servedBy s t with config := t.config, channels := t.channels, presence := t.presence, notices := t.notices } ∧
       ((∀ l, k ≠ .polarity l) → t.presence = s.presence ∧ t.notices = s.notices) ∧
       ∀ c, t.chan c = if (k = .softLo c ∨ k = .softHi c) ∧ limitsConfigured s c = true then
           { s.chan c with
             outside := standsOutside (t.lo c) (t.hi c) (s.chan c).setpoint
             atLimit := (s.chan c).atLimit && standsOn (t.lo c) (t.hi c) (s.chan c).setpoint }
         else s.chan c) ∧
  (∀ s item value l, s.canReceive = true → configItem item = some (.polarity l) → value.toInt = 0 ∨ value.toInt = 1 →
     ∃ t, Replied (.configSet item value) s t .ok (item :: s32 value.toInt) ∧
       (t.config.lines.get l).polarity = (if value.toInt = 0 then .highOccupied else .lowOccupied) ∧
       t.presence.get l = ⟨⟨true, true, true, true,
         (s.presence.get l).filter.changed || !(s.presence.get l).filter.filtered⟩, true, none⟩ ∧
       (∀ j, j ≠ l → t.presence.get j = s.presence.get j) ∧
       t.notices = if (s.presence.get l).filter.filtered = true then s.notices
         else noticesWith { s.notices with input := ⟨some (changeFlags t), s.notices.input.detail.isSome⟩ }) ∧
  (∀ s (v : BitVec 32), s.canReceive = true → v.toInt = 0 ∨ v.toInt = 1 →
     ∃ t, Replied (.configSet 0x0A#8 v) s t .ok (0x0A#8 :: s32 v.toInt) ∧
       t = { servedBy s t with config := { s.config with
         supervisionMode := if v.toInt = 0 then .periodic else .periodicNotice } } ∧
       t.link.periodic = .running 0 s.config.supervisionPeriod ∧
       t.link.noticeTimer = if v.toInt = 0 then .stopped else timerFor s.config.supervisionPeriod s.notices) ∧
  (∀ s (v : BitVec 32), s.canReceive = true → ∃ t, exec (.configSet 0x09#8 v) s = .next t ∧
     t = { servedBy s t with config := { s.config with supervisionPeriod := (max 20 (min 5000 v.toInt)).toNat } } ∧
     t.link.periodic = .running 0 s.config.supervisionPeriod ∧ t.link.noticeTimer = servedTimer s)

/-! ## Arming and parking -/

/-- R33, R34: ARM, its tests passed, starts the lowest used slot: its inactive drives are enabled at their feedback,
and STATE reports ARMING. Otherwise the first test that fails refuses it. -/
def Obligations.ArmStartsTheLowestSlot : Prop :=
  ∀ s, s.canReceive = true → slotsInRange s →
    (s.crane.state ≠ .parked → RefusedWith .arm s .state) ∧
    (s.crane.state = .parked → (∃ k, getCause s.stops.latches k ≠ none) → RefusedWith .arm s .latched) ∧
    (s.crane.state = .parked → (∀ k, getCause s.stops.latches k = none) → s.stops.conditions.zone ≠ none →
      RefusedWith .arm s .causeActive) ∧
    (s.crane.state = .parked → (∀ k, getCause s.stops.latches k = none) → s.stops.conditions.zone = none →
      (s.head.valid = false ∨ ∃ c, (s.chan c).known = false ∨ (s.chan c).stale ≠ 0) → RefusedWith .arm s .state) ∧
    (s.crane.state = .parked → (∀ k, getCause s.stops.latches k = none) → s.stops.conditions.zone = none →
      s.head.valid = true → (∀ c, (s.chan c).known = true ∧ (s.chan c).stale = 0) →
      ∃ t n, Replied .arm s t .ok [] ∧ (∃ c, (s.cfg c).releaseSlot = n) ∧ (∀ c, n ≤ (s.cfg c).releaseSlot) ∧
        t = { servedBy s t with
          crane := { s.crane with state := .arming, sequence := .up, slotPointer := some n, slotTimer := 0 }
          channels := t.channels
          notices := stateNotice ⟨.arming, s.stops.first, .none⟩ s.notices } ∧
        ∀ c, t.chan c = if (s.cfg c).releaseSlot = n ∧ (s.chan c).drive ≠ .active then
            { followRecord (s.lo c) (s.hi c) (s.chan c).feedback .enabling (s.chan c) with commanded := true }
          else s.chan c)

/-- R32, R36, R37: the slot timer rises; at the slot duration an arming slot with a channel that is not ACTIVE turns into
PARKING from that slot, and otherwise the next higher used slot starts, or the crane is READY. The model's choices: a named
event is the periodic event at which it comes about (log entry 5), and the stopped slot timer stands at 0 (log entry 34). -/
def Obligations.ArmingSlotsEnd : Prop :=
  ∀ s n, s.running = true → slotsInRange s → s.crane.state = .arming → s.crane.sequence = .up →
    s.crane.slotPointer = some n →
    (s.crane.slotTimer + 1 < s.config.slotDuration →
      exec .slotEvent s = .next { s with crane := { s.crane with slotTimer := s.crane.slotTimer + 1 } }) ∧
    (s.config.slotDuration ≤ s.crane.slotTimer + 1 → exec .armingSlotEnd s = exec .slotEvent s ∧
      (∀ c, (s.cfg c).releaseSlot = n → (s.chan c).drive ≠ .active →
        (∀ d, chanIndex d < chanIndex c → (s.cfg d).releaseSlot = n → (s.chan d).drive = .active) →
        ∃ t, exec .slotEvent s = .next t ∧
          t = { withTimerOf s t with
            crane := { s.crane with
              state := .parking, sequence := .down, slotPointer := some n, slotTimer := 0, brakes := t.crane.brakes }
            notices := stateNotice ⟨.parking, s.stops.first, .armFail c⟩ s.notices } ∧
          ∀ d b, brakeOf d = some b →
            t.crane.brakes.get b = (s.crane.brakes.get b || decide ((s.cfg d).releaseSlot = n))) ∧
      ((∀ c, (s.cfg c).releaseSlot = n → (s.chan c).drive = .active) →
        (∀ k c, n < k → (s.cfg c).releaseSlot = k → (∀ d, n < (s.cfg d).releaseSlot → k ≤ (s.cfg d).releaseSlot) →
          ∃ t, exec .slotEvent s = .next t ∧
            t = { s with crane := { s.crane with slotPointer := some k, slotTimer := 0 }, channels := t.channels } ∧
            ∀ d, t.chan d = if (s.cfg d).releaseSlot = k ∧ (s.chan d).drive ≠ .active then
                { followRecord (s.lo d) (s.hi d) (s.chan d).feedback .enabling (s.chan d) with commanded := true }
              else s.chan d) ∧
        ((∀ c, (s.cfg c).releaseSlot ≤ n) →
          ∃ t, exec .slotEvent s = .next t ∧
            t = { withTimerOf s t with
              crane := { s.crane with state := .ready, sequence := .none, slotPointer := none, slotTimer := 0 }
              notices := stateNotice ⟨.ready, s.stops.first, .none⟩ s.notices })))

/-- R39, R40, R43: PARK, its tests passed, starts the highest used slot, whose ARM brakes are applied; RETREAT
clears. Otherwise the first test that fails refuses it. -/
def Obligations.ParkStartsTheHighestSlot : Prop :=
  ∀ s, s.canReceive = true → slotsInRange s →
    (s.crane.state ≠ .ready ∨ s.engine.take ≠ none → RefusedWith .park s .state) ∧
    (s.crane.state = .ready → s.engine.take = none →
      (∃ c, isLens c = false ∧ ((s.chan c).owner ≠ .none ∨ (s.chan c).velocity ≠ 0)) → RefusedWith .park s .moving) ∧
    (s.crane.state = .ready → s.engine.take = none →
      (∀ c, isLens c = false → (s.chan c).owner = .none ∧ (s.chan c).velocity = 0) →
      ∃ t n, Replied .park s t .ok [] ∧ (∃ c, (s.cfg c).releaseSlot = n) ∧ (∀ c, (s.cfg c).releaseSlot ≤ n) ∧
        t = { servedBy s t with
          crane := { s.crane with
            state := .parking, sequence := .down, slotPointer := some n, slotTimer := 0, retreat := false,
            brakes := t.crane.brakes }
          stops := { (servedBy s t).stops with retreatSet := [] }
          notices := stateNotice ⟨.parking, s.stops.first, .none⟩ s.notices } ∧
        ∀ c b, brakeOf c = some b → t.crane.brakes.get b = (s.crane.brakes.get b || decide ((s.cfg c).releaseSlot = n)))

/-- R3, R14, R19, R27, R32, R40, R41, R169: the slot timer rises; at the end of a parking slot the drives of its channels
that are not keep-active are commanded off and released, tracking with FOCUS, which raises TRACK; the next lower used slot
starts, or the crane is PARKED. The model's choices: a named event is the periodic event at which it comes about (log entry
5), a channel commanded off is in HOLD, without velocity, demand or target, at once (log entry 12), the moves that end
raise MOVE in the order of opening (log entry 13), and the stopped slot timer stands at 0 (log entry 34). -/
def Obligations.ParkingSlotsEnd : Prop :=
  (∀ s n, s.running = true → s.crane.slotPointer = some n → s.crane.slotTimer + 1 < s.config.slotDuration →
    exec .slotEvent s = .next { s with crane := { s.crane with slotTimer := s.crane.slotTimer + 1 } }) ∧
  ∀ s n, s.running = true → slotsInRange s → s.crane.state = .parking → s.crane.sequence = .down →
    s.crane.slotPointer = some n → s.config.slotDuration ≤ s.crane.slotTimer + 1 →
    let hit := fun c => decide ((s.cfg c).releaseSlot = n) && !(s.cfg c).keepActive
    ∃ t, exec .slotEvent s = .next t ∧ exec .parkingSlotEnd s = .next t ∧
      (∀ c, t.chan c = if hit c = true then offRecord (s.chan c) else s.chan c) ∧
      t.moves = movesLeft hit s.moves ∧ t.notices.move = moveSourceAfter hit s.moves s.notices.move ∧
      (hit .focus = true → t.lens.tracking.state = .off) ∧ (hit .focus = false → t.lens = s.lens) ∧
      (hit .focus = true → s.lens.tracking.state ≠ .off →
        t.lens = { s.lens with tracking := { s.lens.tracking with state := .off, target := none, range := false } } ∧
        t.notices.track = ⟨some ⟨.off, false, none⟩, s.notices.track.detail.isSome⟩) ∧
      (hit .focus = false ∨ s.lens.tracking.state = .off → t.lens = s.lens ∧ t.notices.track = s.notices.track) ∧
      t = { withTimerOf s t with
        channels := t.channels, moves := t.moves, crane := t.crane, lens := t.lens, notices := t.notices } ∧
      (∀ k c, k < n → (s.cfg c).releaseSlot = k → (∀ d, (s.cfg d).releaseSlot < n → (s.cfg d).releaseSlot ≤ k) →
        t.crane = { s.crane with slotPointer := some k, slotTimer := 0, brakes := t.crane.brakes } ∧
        t.notices.state = s.notices.state ∧
        ∀ d b, brakeOf d = some b → t.crane.brakes.get b = (s.crane.brakes.get b || decide ((s.cfg d).releaseSlot = k))) ∧
      ((∀ c, n ≤ (s.cfg c).releaseSlot) →
        t.crane = { s.crane with state := .parked, sequence := .none, slotPointer := none, slotTimer := 0 } ∧
        t.notices.state = ⟨some ⟨.parked, s.stops.first, .none⟩, s.notices.state.detail.isSome⟩)

/-! ## Claims and motion -/

/-- R16, R18, R25, R27: JOG claims its channel for CONSOLE in VELOCITY mode with the demand brought within vmax, and
takes it out of an open move; a claim that is not granted refuses it. R16: what the crane state and the drive allow, and the
order of the tests of a claim. R17: the owner test of every party against every owner. That the channel is not in position
and that its ended move raises MOVE at once are the model's choice (log entries 13, 20). -/
def Obligations.JogClaimsTheChannel : Prop :=
  (∀ s c,
    (claimAllowed s c = true ↔ if isLens c = true then (s.chan c).drive = .active
      else s.crane.state = .ready ∨
        (s.crane.state = .parked ∧ isHead c = true ∧ (s.cfg c).keepActive = true ∧ (s.chan c).drive = .active)) ∧
    ∀ p moves, claimCode p moves s c = if claimAllowed s c = false then some .state
      else if p = .console ∧ moves = true ∧ isLens c = false ∧ s.gripHeld = false then some .noGrip
      else ownerTest p c (s.chan c)) ∧
  (∀ (c : Chan) (r : Channel),
    (ownerTest .console c r = if r.owner = .none ∨ r.owner = .console then none else some .owned) ∧
    (ownerTest .wheel c r = none ↔ r.owner ≠ .take ∨ isArm c = false) ∧
    (∀ p, p = .take ∨ p = .track → ownerTest p c r =
      if r.owner = .none ∨ (r.owner = .console ∧ r.velocity = 0) ∨ (r.owner = .track ∧ p = .track) then none
      else if r.owner = .console then some .moving else some .owned)) ∧
  ∀ s b v c, s.canReceive = true → chanOfIndex b.toNat = some c → -1000000 ≤ v.toInt → v.toInt ≤ 1000000 →
    (claimAllowed s c = false → RefusedWith (.jog b v) s .state) ∧
    (claimAllowed s c = true → v.toInt ≠ 0 → isLens c = false → s.gripHeld = false → RefusedWith (.jog b v) s .noGrip) ∧
    (claimAllowed s c = true → (v.toInt = 0 ∨ isLens c = true ∨ s.gripHeld = true) →
      (s.chan c).owner ≠ .none → (s.chan c).owner ≠ .console → RefusedWith (.jog b v) s .owned) ∧
    (claimAllowed s c = true → (v.toInt = 0 ∨ isLens c = true ∨ s.gripHeld = true) →
      (s.chan c).owner = .none ∨ (s.chan c).owner = .console →
      ∃ t w, w = max (-(Int.ofNat (s.cfg c).vmax)) (min (Int.ofNat (s.cfg c).vmax) v.toInt) ∧
        Replied (.jog b v) s t (if w = v.toInt then .ok else .clamped) [] ∧
        t.chan c = consoleRecord .velocity (some w) none (s.chan c) ∧ (∀ d, d ≠ c → t.chan d = s.chan d) ∧
        ((s.chan c).owner = .none → t.moves = s.moves ∧ t.notices = s.notices) ∧
        ((s.chan c).owner = .console → t.moves = movesLeft (fun d => d == c) s.moves ∧
          t.notices.move = moveSourceAfter (fun d => d == c) s.moves s.notices.move) ∧
        t = { servedBy s t with channels := t.channels, moves := t.moves, notices := t.notices })

/-- R16, R26, R27: GOTO sets a target, brought within the limits in force, for every channel of the mask, all or none: the
lowest-indexed channel whose claim is refused refuses it; granted, it opens one console move. GOTO_MARK does so for the
channels of its mask that the mark holds, with the values of the mark (R117); a mark that holds none of them refuses it. Each
answers CLAMPED where a target had to be brought within the limits. The mask of a move that GOTO_MARK opens, and the order in
which several moves end, are the model's choice (log entry 13), and so is that the channels are not in position (log entry
20). -/
def Obligations.GotoOpensOneMove : Prop :=
  (∀ s m ps, s.canReceive = true → m ≠ 0#16 → m.toNat < 512 → ps.length = maskCount m →
     (∀ c code, maskHas m c = true → claimCode .console true s c = some code →
       (∀ d, maskHas m d = true → chanIndex d < chanIndex c → claimCode .console true s d = none) →
       RefusedWith (.goto m ps) s code) ∧
     ((∀ c, maskHas m c = true → claimCode .console true s c = none) →
       ∃ t code, Replied (.goto m ps) s t code [] ∧
         (code = .ok ∨ code = .clamped) ∧
         (code = .ok ↔ ∀ p ∈ (maskChans m).zip ps, clampInt (s.lo p.1) (s.hi p.1) p.2.toInt = p.2.toInt) ∧
         (∀ p ∈ (maskChans m).zip ps, t.chan p.1 =
           consoleRecord .position none (some (clampInt (s.lo p.1) (s.hi p.1) p.2.toInt)) (s.chan p.1)) ∧
         (∀ c, maskHas m c = false → t.chan c = s.chan c) ∧
         t.moves = movesLeft (maskHas m) s.moves ++ [⟨m, setOfMask m⟩] ∧
         t.notices.move = moveSourceAfter (maskHas m) s.moves s.notices.move ∧
         t = { servedBy s t with channels := t.channels, moves := t.moves, notices := t.notices })) ∧
  (∀ s n m k, s.canReceive = true → m ≠ 0#16 → m.toNat < 512 → 1 ≤ n.toNat → n.toNat ≤ 128 →
     s.findMark n.toNat = some k →
     let named := fun c => maskHas m c && (k.values.get c).isSome
     ((∀ c, named c = false) → RefusedWith (.gotoMark n m) s .badOperand) ∧
     (∀ c code, named c = true → claimCode .console true s c = some code →
       (∀ d, named d = true → chanIndex d < chanIndex c → claimCode .console true s d = none) →
       RefusedWith (.gotoMark n m) s code) ∧
     ((∃ c, named c = true) → (∀ c, named c = true → claimCode .console true s c = none) →
       ∃ t code, Replied (.gotoMark n m) s t code [] ∧ (code = .ok ∨ code = .clamped) ∧
         (code = .ok ↔ ∀ c v, maskHas m c = true → k.values.get c = some v → clampInt (s.lo c) (s.hi c) v = v) ∧
         t.notices.move = moveSourceAfter named s.moves s.notices.move ∧
         (∀ c v, maskHas m c = true → k.values.get c = some v → t.chan c =
           consoleRecord .position none (some (clampInt (s.lo c) (s.hi c) v)) (s.chan c)) ∧
         (∀ c, named c = false → t.chan c = s.chan c) ∧
         t.moves = movesLeft named s.moves ++ [⟨m, .ofFn named⟩] ∧
         t = { servedBy s t with channels := t.channels, moves := t.moves, notices := t.notices }))

/-- R19, R20, R24, R27, R28: RELEASE lets the console's channels of the mask go, and ends their moves; WHEEL_ASSIGN writes
one entry and lets go of the channel that the wheel held; an edge counts one up or down (R21). The order in which several
moves end is the model's choice (log entry 13), and so is that a released channel is not in position (log entry 20). -/
def Obligations.ReleasesLetChannelsGo : Prop :=
  ∀ s, (s.canReceive = true →
    (∀ m, m ≠ 0#16 → m.toNat < 512 →
      let hit := fun c => maskHas m c && decide ((s.chan c).owner = .console)
      ∃ t, Replied (.release m) s t .ok [] ∧
        (∀ c, t.chan c = if hit c = true then releasedRecord (s.chan c) else s.chan c) ∧
        t.moves = movesLeft hit s.moves ∧ t.notices.move = moveSourceAfter hit s.moves s.notices.move ∧
        t = { servedBy s t with channels := t.channels, moves := t.moves, notices := t.notices }) ∧
    (∀ w b g i ch, wheelOfNumber w.toNat = some i → wheelChannel b = some ch →
      ∃ t, Replied (.wheelAssign w b g) s t .ok [] ∧
        (∀ c, t.chan c = if (s.wheels.get i).channel = some c ∧ (s.chan c).owner = .wheel then
          releasedRecord (s.chan c) else s.chan c) ∧
        t = { servedBy s t with channels := t.channels, wheels := s.wheels.set i ⟨ch, g.toInt, 0, 0, none⟩ })) ∧
  (s.running = true → ∀ i up, exec (.wheelEdge i up) s = .next { s with
    wheels := s.wheels.set i { s.wheels.get i with counter := (s.wheels.get i).counter + if up then 1 else -1 } })

/-- R3, R4, R5, R6, R9, R20: a channel update of a channel in VELOCITY mode within its limits: the demand is brought
within vmax, scaled for an ARM channel, barred and capped; the velocity steps toward it by A, or under stop deceleration by
the larger of S and A, in STOPPING too; the setpoint advances and is stopped at a limit; at velocity 0 without an owner the
channel holds. That it is then not in position is the model's choice (log entry 20). -/
def Obligations.VelocityModeFollowsTheDemand : Prop :=
  ∀ s c d, s.running = true → wheelsStill s →
    (s.crane.state = .stopping → isLens c = false ∨ (s.chan c).stopDecel = false) → (s.chan c).drive = .active →
    (s.chan c).mode = .velocity → (s.chan c).demand = some d → (s.chan c).owner ≠ .wheel →
    s.lo c ≤ (s.chan c).setpoint → (s.chan c).setpoint ≤ s.hi c → (s.chan c).fraction < 1000 →
    let g := s.cfg c
    let d1 := max (-(Int.ofNat g.vmax)) (min (Int.ofNat g.vmax) d)
    let d2 := if isArm c = true then (d1 * s.zoneMonitor.scale).tdiv 1024 else d1
    let v := steppedVelocity (velocityStepOf g (s.chan c)) (s.chan c)
      (allowedDemand (s.lo c) (s.hi c) g.accel (s.chan c) d2)
    let r := flaggedRecord (s.lo c) (s.hi c) (advancedRecord (s.lo c) (s.hi c) v (s.chan c))
    ∃ t, exec .channelUpdate s = .next t ∧
      t.chan c = if r.velocity ≠ 0 then r
        else if r.owner = .none then heldRecord r
        else { r with stopDecel := false }

/-- R4, R5, R6, R7: a channel update of a channel in POSITION mode within its limits, owned by CONSOLE, TRACK or WHEEL, moves
it toward its clamped target at no more than the speed from which it can stop there, and sets it on the target when it is
within one count and slow enough. R23: a channel of WHEEL that this leaves at rest, with no idle timer of its wheels running
any more, is then released. The model's choices: the idle release follows the profile (log entry 12), the idle timer counts
channel updates (log entry 11) against the wheel idle time in force (log entry 29), and the arrival test sets and clears a
flag (log entry 20). -/
def Obligations.PositionModeReachesTheTarget : Prop :=
  ∀ s c x, s.running = true → wheelsStill s → (s.chan c).drive = .active →
    (s.chan c).mode = .position → (s.chan c).target = some x →
    (s.chan c).owner = .console ∨ (s.chan c).owner = .track ∨ (s.chan c).owner = .wheel →
    s.lo c ≤ (s.chan c).setpoint → (s.chan c).setpoint ≤ s.hi c → (s.chan c).fraction < 1000 →
    (s.chan c).stopDecel = false →
    let g := s.cfg c
    let goal := max (s.lo c) (min (s.hi c) x)
    let fast := if isArm c = true then (Int.ofNat g.vmax * s.zoneMonitor.scale).tdiv 1024 else Int.ofNat g.vmax
    let speed := min fast (Int.ofNat (isqrt (2000 * g.accel * (goal - (s.chan c).setpoint).natAbs)))
    let d := if (s.chan c).setpoint < goal then speed else if goal < (s.chan c).setpoint then -speed else 0
    let v := steppedVelocity g.accel (s.chan c) (allowedDemand (s.lo c) (s.hi c) g.accel (s.chan c) d)
    let r := flaggedRecord (s.lo c) (s.hi c)
      (arrivedRecord g.accel goal { advancedRecord (s.lo c) (s.hi c) v (s.chan c) with target := some goal })
    ∃ t, exec .channelUpdate s = .next t ∧
      t.chan c = if (s.chan c).owner = .wheel ∧ r.velocity = 0 ∧
          (∀ i, (s.wheels.get i).channel = some c → idleAfter s.config.wheelIdle (s.wheels.get i).idle = none) then
        { heldRecord r with owner := .none }
      else r

/-- R7, R27: IN_POSITION is the update whose arrival test a channel passes that was not in position; it then stands on its
target and belongs to no open move. R3: the update leaves the setpoint of a channel in HOLD, and of one whose drive is not
ACTIVE, which then is in HOLD. R5, R20, R23: the update at which a deceleration without an owner ends leaves the channel in
HOLD, and the one at which every wheel of a channel at rest is idle releases it; until then a running idle timer rises by 1
at each update without motion, and the channel, at rest or moving, stays WHEEL's. The model's choices: a named event is the
periodic event at which it comes about (log entry 5), the idle timer counts channel updates (log entry 11) and is evaluated
after the profiles (log entry 12) against the wheel idle time in force (log entry 29), in position is a flag (log entry 20),
and OUTSIDE waits for the first good reply (log entry 28). -/
def Obligations.ChannelsComeToRest : Prop :=
  (∀ s c x, s.running = true → wheelsStill s → (s.chan c).drive = .active → (s.chan c).mode = .position →
     (s.chan c).owner = .console ∨ (s.chan c).owner = .track → (s.chan c).fraction < 1000 →
     (s.chan c).target = some x → s.lo c ≤ (s.chan c).setpoint → (s.chan c).setpoint ≤ s.hi c →
     (s.chan c).inPosition = false → (s.chan c).stopDecel = false →
     let goal := max (s.lo c) (min (s.hi c) x)
     let r := approachedRecord c (s.cfg c) (s.lo c) (s.hi c) s.zoneMonitor.scale x (s.chan c)
     (goal - r.setpoint).natAbs ≤ 1 → r.velocity.natAbs ≤ (s.cfg c).accel →
     ∃ t, exec (.inPosition c) s = .next t ∧ exec .channelUpdate s = .next t ∧
       t.chan c = flaggedRecord (s.lo c) (s.hi c)
         { r with setpoint := goal, fraction := 0, velocity := 0, inPosition := true } ∧
       (∀ m ∈ t.moves, m.remaining.get c = false) ∧
       (∀ k, s.moves = [k] → (∀ d, k.remaining.get d = decide (d = c)) →
         t.moves = [] ∧ t.notices.move = ⟨some ⟨k.mask, true⟩, s.notices.move.detail.isSome⟩)) ∧
  (∀ s c, s.running = true → wheelsStill s → (s.chan c).owner ≠ .wheel → ∃ t, exec .channelUpdate s = .next t ∧
     let here := { s.chan c with
       outside := standsOutside (s.lo c) (s.hi c) (s.chan c).setpoint
       atLimit := (s.chan c).atLimit && standsOn (s.lo c) (s.hi c) (s.chan c).setpoint }
     ((s.chan c).drive = .active → (s.chan c).mode = .hold → (s.chan c).stopDecel = false → t.chan c = here) ∧
     ((s.chan c).drive ≠ .active → t.chan c =
       heldRecord (if (s.chan c).known = true then here else { here with outside := (s.chan c).outside }))) ∧
  (∀ s c, s.running = true → wheelsStill s → (s.chan c).drive = .active →
     (s.chan c).fraction < 1000 → s.lo c ≤ (s.chan c).setpoint → (s.chan c).setpoint ≤ s.hi c →
     ((s.chan c).owner = .none → (s.chan c).mode = .velocity → (s.chan c).demand = some 0 →
       (s.chan c).velocity.natAbs ≤ velocityStepOf (s.cfg c) (s.chan c) →
       ∃ t, exec (.decelerationEnd c) s = .next t ∧ exec .channelUpdate s = .next t ∧
         t.chan c = { heldRecord (s.chan c) with
           outside := false
           atLimit := (s.chan c).atLimit && standsOn (s.lo c) (s.hi c) (s.chan c).setpoint }) ∧
     ((s.chan c).owner = .wheel → (s.chan c).mode = .position → (s.chan c).target = some (s.chan c).setpoint →
       (s.chan c).velocity = 0 →
       (∀ i, (s.wheels.get i).channel = some c → ∀ x, (s.wheels.get i).idle = some x → s.config.wheelIdle ≤ x + 1) →
       ∃ t, exec (.wheelIdleRelease c) s = .next t ∧ exec .channelUpdate s = .next t ∧
         (t.chan c).owner = .none ∧ (t.chan c).mode = .hold ∧ (t.chan c).setpoint = (s.chan c).setpoint ∧
         (t.chan c).velocity = 0 ∧ (t.chan c).target = none)) ∧
  (∀ s, s.running = true → wheelsStill s → ∃ t, exec .channelUpdate s = .next t ∧
     (∀ i, t.wheels.get i = { s.wheels.get i with idle := idleAfter s.config.wheelIdle (s.wheels.get i).idle }) ∧
     ∀ c, (s.chan c).owner = .wheel →
       (∃ i, (t.wheels.get i).channel = some c ∧ (t.wheels.get i).idle ≠ none) ∨ (t.chan c).velocity ≠ 0 →
       (t.chan c).owner = .wheel ∧
         ((s.chan c).drive = .active → (s.chan c).mode = .position → (t.chan c).mode = .position))

/-- R98: the update that finds every ARM and HEAD channel at rest while STOPPING makes the crane HALTED, stops the deadline
timer and ends every stop deceleration. The model's choice: a named event is the periodic event at which it comes about (log
entry 5). -/
def Obligations.StandstillHaltsTheCrane : Prop :=
  ∀ s, s.running = true → wheelsStill s → s.crane.state = .stopping →
    (∀ c, isLens c = false → (s.chan c).owner = .none ∧ (s.chan c).drive = .active ∧
      ((s.chan c).mode = .hold ∧ (s.chan c).velocity = 0 ∨
        (s.chan c).mode = .velocity ∧ (s.chan c).demand = some 0 ∧
          (s.chan c).velocity.natAbs ≤ velocityStepOf (s.cfg c) (s.chan c))) →
    ∃ t, exec .standstill s = .next t ∧ exec .channelUpdate s = .next t ∧ t.crane.state = .halted ∧
      t.stops.deadlineTimer = none ∧ (∀ c, (t.chan c).stopDecel = false) ∧
      (∀ c, isLens c = false → (t.chan c).velocity = 0 ∧ (t.chan c).owner = .none) ∧
      t.stops.latches = s.stops.latches ∧
      t.notices.state = ⟨some ⟨.halted, s.stops.first, .none⟩, s.notices.state.detail.isSome⟩

/-- R6, R9: no channel update leaves a setpoint further outside the channel's limits than it was. R4, R5, R9: a channel in
VELOCITY mode that stands outside its limits: no demand outward, a step further outside is not taken and ends the velocity,
and inward motion goes on as usual, capped toward the far limit. That such a step keeps the fraction too is the model's
choice (log entry 12). -/
def Obligations.NoUpdateMovesFurtherOutside : Prop :=
  (∀ s t c, LimitsOrdered s → RemaindersSmall s → exec .channelUpdate s = .next t →
    t.limits c = s.limits c ∧
      beyond (s.lo c) (s.hi c) (t.chan c).setpoint ≤ beyond (s.lo c) (s.hi c) (s.chan c).setpoint) ∧
  (∀ s c d, s.running = true → wheelsStill s → LimitsOrdered s → (s.chan c).drive = .active →
    (s.chan c).mode = .velocity → (s.chan c).demand = some d → (s.chan c).owner ≠ .wheel → (s.chan c).fraction < 1000 →
    (s.crane.state = .stopping → isLens c = false ∨ (s.chan c).stopDecel = false) →
    (s.chan c).setpoint < s.lo c ∨ s.hi c < (s.chan c).setpoint →
    let g := s.cfg c
    let d1 := max (-(Int.ofNat g.vmax)) (min (Int.ofNat g.vmax) d)
    let d2 := if isArm c = true then (d1 * s.zoneMonitor.scale).tdiv 1024 else d1
    let v := steppedVelocity (velocityStepOf g (s.chan c)) (s.chan c)
      (allowedDemand (s.lo c) (s.hi c) g.accel (s.chan c) d2)
    let r := flaggedRecord (s.lo c) (s.hi c) (heldBackRecord (s.lo c) (s.hi c) v (s.chan c))
    ∃ t, exec .channelUpdate s = .next t ∧
      t.chan c = if r.velocity ≠ 0 then r
        else if r.owner = .none then heldRecord r
        else { r with stopDecel := false })

/-- R16, R17, R18, R21, R22: a wheel's motion on a channel it may claim hands its whole counts to the channel's target and
keeps the rest as carry; a claim that is not granted discards the count and keeps the carry. A wheel with no channel or with
gain 0 has its count discarded: the update is as if it had not turned. Two wheels on one channel that turn in the same
millisecond both contribute, each with its own carry. R5 to R7: the channel then moves toward that target as in
PositionModeReachesTheTarget, with the velocity that it had (R18). R151, R154: a channel that the wheel takes from TAKE leaves the take's
set, the play goes on PARTIAL, and with the last channel it ends so. The model's choices: the profile of the same update
already sees the new target, and it clamps the sum of the contributions (log entry 11), and a discarded count leaves the idle
timer running (log entry 29). -/
def Obligations.WheelsHandOverTheirCounts : Prop :=
  (∀ s i c n, s.running = true → (s.wheels.get i).channel = some c → (s.wheels.get i).counter ≠ 0 →
    (s.wheels.get i).gain ≠ 0 → (∀ j, j ≠ i → (s.wheels.get j).counter = 0) → claimAllowed s c = true →
    isArm c = false → (s.chan c).owner = .take → (s.chan c).drive = .active → s.engine.set.get c = true →
    s.engine.take = some n → ∃ t, exec .channelUpdate s = .next t ∧ (t.chan c).owner = .wheel ∧
      ((∃ d, d ≠ c ∧ s.engine.set.get d = true) →
        t.engine = { s.engine with
          set := s.engine.set.set c false, path := s.engine.path.set c none, spans := s.engine.spans.set c none
          untaken := .ofFn fun _ => false, overtaken := true } ∧
        t.takes = s.takes ∧ t.marks = s.marks ∧
        t.notices.take = ⟨some ⟨n, s.engine.state, .partial_, s.engine.cueIndex⟩, s.notices.take.detail.isSome⟩) ∧
      ((∀ d, d ≠ c → s.engine.set.get d = false) →
        t.engine.state = .idle ∧ t.engine.take = none ∧ (∀ d, t.engine.set.get d = false) ∧
        (∀ x, s.findTake n = some x → t.findTake n = some { x with
          lastResult := .partial_, lastLag := min 65535 (s.engine.lag / 1024)
          passCount := min 65535 (x.passCount + 1), active := false }) ∧
        t.notices.take = ⟨some ⟨n, .idle, .partial_, s.engine.cueIndex⟩, s.notices.take.detail.isSome⟩)) ∧
  (∀ s i, s.running = true → (s.wheels.get i).channel = none ∨ (s.wheels.get i).gain = 0 →
    exec .channelUpdate s =
        exec .channelUpdate { s with wheels := s.wheels.set i { s.wheels.get i with counter := 0 } } ∧
      ∃ t, exec .channelUpdate s = .next t ∧ t.wheels.get i =
        { s.wheels.get i with counter := 0, idle := idleAfter s.config.wheelIdle (s.wheels.get i).idle }) ∧
  (∀ s i j c, s.running = true → i ≠ j → (∀ k, k = i ∨ k = j → (s.wheels.get k).channel = some c ∧
      (s.wheels.get k).counter ≠ 0 ∧ (s.wheels.get k).gain ≠ 0) →
    (∀ k, k ≠ i → k ≠ j → (s.wheels.get k).counter = 0) → LimitsOrdered s →
    let sum := fun k : Fin 4 =>
      (s.wheels.get k).counter * (s.wheels.get k).gain + Int.ofNat (s.wheels.get k).carry
    let start := if (s.chan c).owner = .wheel then (s.chan c).target.getD (s.chan c).setpoint else (s.chan c).setpoint
    ∃ t, exec .channelUpdate s = .next t ∧
      (claimAllowed s c = true → ownerTest .wheel c (s.chan c) = none → (s.chan c).drive = .active →
        (t.chan c).owner = .wheel ∧ (t.chan c).mode = .position ∧
        (t.chan c).target = some (max (s.lo c) (min (s.hi c) (start + sum i / 256 + sum j / 256))) ∧
        ∀ k, k = i ∨ k = j → t.wheels.get k =
          { s.wheels.get k with counter := 0, idle := some 0, carry := (sum k % 256).toNat }) ∧
      (claimAllowed s c = false ∨ ownerTest .wheel c (s.chan c) ≠ none →
        ∀ k, k = i ∨ k = j → t.wheels.get k = { s.wheels.get k with counter := 0, idle := some 0 })) ∧
  ∀ s i c, s.running = true → (s.wheels.get i).channel = some c → (s.wheels.get i).counter ≠ 0 →
    (s.wheels.get i).gain ≠ 0 → (∀ j, j ≠ i → (s.wheels.get j).counter = 0) → LimitsOrdered s →
    let w := s.wheels.get i
    let sum := w.counter * w.gain + Int.ofNat w.carry
    let start := if (s.chan c).owner = .wheel then (s.chan c).target.getD (s.chan c).setpoint else (s.chan c).setpoint
    ∃ t, exec .channelUpdate s = .next t ∧
      (claimAllowed s c = true → ownerTest .wheel c (s.chan c) = none → (s.chan c).drive = .active →
        (t.chan c).owner = .wheel ∧ (t.chan c).mode = .position ∧
        (t.chan c).target = some (max (s.lo c) (min (s.hi c) (start + sum / 256))) ∧
        (s.lo c ≤ (s.chan c).setpoint → (s.chan c).setpoint ≤ s.hi c → (s.chan c).fraction < 1000 →
          t.chan c = flaggedRecord (s.lo c) (s.hi c) (arrivedRecord (s.cfg c).accel
            (max (s.lo c) (min (s.hi c) (start + sum / 256)))
            (approachedRecord c (s.cfg c) (s.lo c) (s.hi c) s.zoneMonitor.scale (start + sum / 256)
              { s.chan c with owner := .wheel, mode := .position, demand := none, stopDecel := false }))) ∧
        t.wheels.get i = { w with counter := 0, idle := some 0, carry := (sum % 256).toNat }) ∧
      (claimAllowed s c = false ∨ ownerTest .wheel c (s.chan c) ≠ none →
        t.wheels.get i = { w with counter := 0, idle := some 0 })

/-! ## The drives -/

/-- R12, R13, R14, R35: in an exchange that raises no DRIVE every drive is sent its command; a channel of a good reply takes
the feedback, and follows it unless its drive was and stays ACTIVE; a miss raises the stale count; in ARMING a brake is
released by the reply that makes its channel ACTIVE. R15, R87, R93: a new FAULT, a second miss, a following error and a
dropout of any drive latch DRIVE with that channel and kind, and trip the crane; of several the latch keeps the
lowest-indexed channel's. The DRIVE condition names the lowest-indexed channel whose FAULT is present. R196: the bytes of the
command record, and of the replies that are good. The order inside an exchange is the model's choice (log entry 6), and so
is that the reply by which a drive leaves ACTIVE is already followed (log entry 12). -/
def Obligations.DriveExchangesAreChecked : Prop :=
  (∀ s replies, s.running = true → (∀ c, exchangeRise s replies c = none) →
     ∃ t, exec (.driveExchange replies) s = .next t ∧
       t = { s with
         channels := t.channels
         driveBus := allChans.map fun c => driveCommand c (s.chan c)
         crane := { s.crane with brakes := t.crane.brakes }
         stops := { s.stops with conditions := { s.stops.conditions with drive := t.stops.conditions.drive } } } ∧
       (∀ c, goodReply c (replies.get c) = none → t.chan c = { s.chan c with stale := min 2 ((s.chan c).stale + 1) }) ∧
       (∀ c fb, goodReply c (replies.get c) = some (.active, fb) → (s.chan c).commanded = true →
         (s.chan c).drive = .active →
         t.chan c = { s.chan c with feedback := fb, known := true, stale := 0, faultPresent := false }) ∧
       (∀ c fb st, goodReply c (replies.get c) = some (st, fb) → ¬((s.chan c).commanded = true ∧ (s.chan c).drive = .active) →
         t.chan c = followRecord (s.lo c) (s.hi c) fb
           (if st = .fault then .fault else if (s.chan c).commanded = false then .off
             else if st = .active then .active else .enabling)
           { s.chan c with feedback := fb, known := true, stale := 0, faultPresent := decide (st = .fault) }) ∧
       ∀ c b, brakeOf c = some b → t.crane.brakes.get b =
         (s.crane.brakes.get b && !decide (s.crane.state = .arming ∧ (s.chan c).drive ≠ .active ∧ (t.chan c).drive = .active))) ∧
  (∀ s replies c k,
     let rises := (k = .stale ∧ goodReply c (replies.get c) = none ∧ 1 ≤ (s.chan c).stale) ∨
       (k = .fault ∧ ∃ fb, goodReply c (replies.get c) = some (.fault, fb) ∧ (s.chan c).faultPresent = false) ∨
       (k = .following ∧ ∃ fb, goodReply c (replies.get c) = some (.active, fb) ∧ (s.chan c).commanded = true ∧
         (s.chan c).drive = .active ∧ (s.cfg c).followLimit < ((s.chan c).setpoint - fb).natAbs) ∨
       (k = .dropout ∧ ∃ fb st, goodReply c (replies.get c) = some (st, fb) ∧ (st = .off ∨ st = .busy) ∧
         (s.chan c).commanded = true ∧ (s.chan c).drive = .active)
     (exchangeRise s replies c = some k ↔ rises) ∧
     (s.running = true → rises →
       ∃ t, exec (.driveExchange replies) s = .next t ∧ t.crane.state = .tripped ∧ t.stops.latches.drive ≠ none ∧
         ((∀ d, chanIndex d < chanIndex c → exchangeRise s replies d = none) →
           t.stops.latches.drive = some (s.stops.latches.drive.getD (.drive c k)) ∧
           t.stops.first = if noneLatched s.stops.latches = true then some (.drive c k) else s.stops.first))) ∧
  (∀ s replies, s.running = true → ∃ t, exec (.driveExchange replies) s = .next t ∧
     ((∀ c, (t.chan c).faultPresent = false) → t.stops.conditions.drive = none) ∧
     ∀ c, (t.chan c).faultPresent = true → (∀ d, chanIndex d < chanIndex c → (t.chan d).faultPresent = false) →
       t.stops.conditions.drive = some (.drive c .fault)) ∧
  (∀ (c : Chan) (r : Channel), fits32 r.setpoint → ∃ check, sumsToZero (driveCommand c r) ∧
     driveCommand c r = recordOf [(1, chanIndex c), (1, r.commanded.toNat), (4, r.setpoint)] ++ [check]) ∧
  (∀ c, goodReply c none = none ∧ ∀ bytes st fb, goodReply c (some bytes) = some (st, fb) ↔
     ∃ (code : Nat) (check : Byte), [ReplyState.off, .busy, .active, .fault][code]? = some st ∧ fits32 fb ∧
       sumsToZero bytes ∧ bytes = recordOf [(1, chanIndex c), (1, code), (4, fb)] ++ [check])

/-! ## Geometry, presence and zones -/

/-- R53, R55, R56, R57: GEOMETRY_UPDATE publishes the point of the arm's setpoints and its validity, and nothing
else. -/
def Obligations.GeometryPublishesTheHeadPoint : Prop :=
  ∀ s, s.running = true →
    let len := Int.ofNat s.config.armBase + (s.chan .reach).setpoint
    let rq := fun p : Int => (p + 8192) / 16384
    let h := rq (len * cosine (s.chan .boom).setpoint)
    ∃ t, exec .geometryUpdate s = .next t ∧ t = { s with head := t.head } ∧
      t.head.x = (s.chan .track).setpoint + rq (h * cosine (s.chan .swing).setpoint) ∧
      t.head.y = rq (h * sine (s.chan .swing).setpoint) ∧
      t.head.z = Int.ofNat s.config.pivotHeight + rq (len * sine (s.chan .boom).setpoint) ∧
      (t.head.valid = true ↔ ∀ c, isArm c = true → (s.chan c).known = true ∧
        (s.crane.state = .parked ∨ s.crane.state = .tripped ∨ s.crane.state = .parking →
          (s.chan c).drive ≠ .active → (s.chan c).stale = 0))

/-- R51: the quarter-wave function. R52: sine and cosine of any angle. R60: isqrt is the greatest integer whose square
does not exceed its operand. -/
def Obligations.SineAndRootAreExact : Prop :=
  ((∀ x, x < 16384 → quarterSine x = sineEntry (x / 64) +
       ((sineEntry (x / 64 + 1) - sineEntry (x / 64)) * Int.ofNat (x % 64) + 32) / 64 ∧
       sineEntry (x / 64) ≤ quarterSine x ∧ quarterSine x ≤ sineEntry (x / 64 + 1)) ∧
     (quarterSine 16384 = 16384 ∧ ∀ i, i ≤ 256 → quarterSine (64 * i) = sineEntry i) ∧
     (∀ x y, x ≤ y → y ≤ 16384 → quarterSine x ≤ quarterSine y) ∧
     (∀ (a : Int) (x : Nat), x < 16384 →
       (a % 65536 = x → sine a = quarterSine x) ∧ (a % 65536 = 16384 + x → sine a = quarterSine (16384 - x)) ∧
       (a % 65536 = 32768 + x → sine a = -quarterSine x) ∧
       (a % 65536 = 49152 + x → sine a = -quarterSine (16384 - x))) ∧
     (∀ a, cosine a = sine (a + 16384) ∧ sine (-a) = -sine a ∧ -16384 ≤ sine a ∧ sine a ≤ 16384) ∧
     sine 0 = 0 ∧ sine 16384 = 16384 ∧ sine 32768 = 0 ∧ sine (-16384) = -16384 ∧ cosine 0 = 16384 ∧ cosine 32768 = -16384) ∧
  ((∀ n, n ≤ 2 ^ 64 - 1 → isqrt n * isqrt n ≤ n ∧ ∀ m, m * m ≤ n → m ≤ isqrt n) ∧
     isqrt 0 = 0 ∧ isqrt (2 ^ 64 - 1) = 4294967295)

/-- R63, R64: a presence line's filter is the majority of its last three samples; occupancy rises at once and falls after the
release delay; a filtered change of any line raises INPUT with the lines whose change flags stand set. A named event is the
periodic event at which it comes about (log entry 5). -/
def Obligations.PresenceFollowsTheSamples : Prop :=
  ∀ s levels, s.running = true → ∃ t, exec (.presenceSample levels) s = .next t ∧
    t = { s with presence := t.presence, notices := t.notices } ∧
    (∀ l, let p := s.presence.get l
      let q := t.presence.get l
      let sample := levels.getLsbD l.val == decide ((s.config.lines.get l).polarity = .highOccupied)
      q.filter.old = p.filter.mid ∧ q.filter.mid = p.filter.new ∧ q.filter.new = sample ∧
      (q.filter.filtered = true ↔ 2 ≤ p.filter.mid.toNat + p.filter.new.toNat + sample.toNat) ∧
      (q.filter.changed = true ↔ p.filter.changed = true ∨ q.filter.filtered ≠ p.filter.filtered) ∧
      (q.filter.filtered = true → q.occupancy = true ∧ q.releaseTimer = none) ∧
      (q.filter.filtered = false → p.occupancy = false → q.occupancy = false ∧ q.releaseTimer = none) ∧
      (q.filter.filtered = false → p.occupancy = true →
        let n := if p.filter.filtered = true then 0 else p.releaseTimer.getD 0 + 1
        if (s.config.lines.get l).delay ≤ n then q.occupancy = false ∧ q.releaseTimer = none
        else q.occupancy = true ∧ q.releaseTimer = some n)) ∧
    ((∀ l, (t.presence.get l).filter.filtered = (s.presence.get l).filter.filtered) → t.notices = s.notices) ∧
    ((∃ l, (t.presence.get l).filter.filtered ≠ (s.presence.get l).filter.filtered) →
      t.notices.input.detail = some (changeFlags t)) ∧
    ∀ l, (s.presence.get l).occupancy = true →
      exec (.occupancyRelease l levels) s = .next (if (t.presence.get l).occupancy = true then s else t)

/-- R66, R67, R68, R69: the ranges of the operands of ZONE_SET; ZONE_SET stores the zone as given, in place of the one of its
number, which keeps its derived fields; each of its tests refuses it in its order. R70: ZONE_RETIRE removes the zone; an
occupied one, one that the latched ZONE cause names or that is in the retreat set, and a standing GUARD outside PARKED,
refuse it in that order. -/
def Obligations.ZonesAreStoredAndRetired : Prop :=
  (∀ z : ZoneOperands, zoneOperandsValid z = true ↔
     1 ≤ z.number.toNat ∧ z.number.toNat ≤ 24 ∧ z.kind.toNat ≤ 1 ∧ z.line.toNat ≤ 12 ∧
     (∀ v ∈ [z.xLo, z.xHi, z.yLo, z.yHi, z.zLo, z.zHi], -1000000 ≤ v.toInt ∧ v.toInt ≤ 1000000) ∧
     z.xLo.toInt ≤ z.xHi.toInt ∧ z.yLo.toInt ≤ z.yHi.toInt ∧ z.zLo.toInt ≤ z.zHi.toInt ∧
     z.stopMargin.toNat ≤ 50000 ∧ z.slowMargin.toNat ≤ 100000 ∧ z.stopMargin.toNat < z.slowMargin.toNat) ∧
  (∀ s z, s.canReceive = true →
     (zoneOperandsValid z = false → RefusedWith (.zoneSet z) s .badOperand) ∧
     (zoneOperandsValid z = true → ∀ o, s.findZone z.number.toNat = some o → s.lineOccupied o.line = true →
       RefusedWith (.zoneSet z) s .occupied) ∧
     (zoneOperandsValid z = true → (∀ o, s.findZone z.number.toNat = some o → s.lineOccupied o.line = false) →
       ((∃ r ∈ s.stops.retreatSet, r.zone = z.number.toNat) → RefusedWith (.zoneSet z) s .inUse) ∧
       ((∀ r ∈ s.stops.retreatSet, r.zone ≠ z.number.toNat) →
         let guarded := (∃ o, s.findZone z.number.toNat = some o ∧ o.kind = .guard ∧ o.line = 0) ∨
           (z.kind = 0#8 ∧ z.line = 0#8)
         (guarded → s.crane.state ≠ .parked → RefusedWith (.zoneSet z) s .state) ∧
         (¬guarded ∨ s.crane.state = .parked → ∃ t n, Replied (.zoneSet z) s t .ok [] ∧
           t = { servedBy s t with zoneMonitor := { s.zoneMonitor with zones := t.zoneMonitor.zones } } ∧
           t.findZone z.number.toNat = some n ∧ (∀ k, k ≠ z.number.toNat → t.findZone k = s.findZone k) ∧
           n.kind = (if z.kind = 0#8 then .guard else .slow) ∧ n.line = z.line.toNat ∧
           n.xLo = z.xLo.toInt ∧ n.xHi = z.xHi.toInt ∧ n.yLo = z.yLo.toInt ∧ n.yHi = z.yHi.toInt ∧
           n.zLo = z.zLo.toInt ∧ n.zHi = z.zHi.toInt ∧ n.stopMargin = z.stopMargin.toNat ∧
           n.slowMargin = z.slowMargin.toNat ∧
           (s.findZone z.number.toNat = none → n.active = false ∧ n.occupied = false ∧ n.clearance = none ∧
             n.band = .clear ∧ n.contribution = none) ∧
           ∀ o, s.findZone z.number.toNat = some o → n.active = o.active ∧ n.occupied = o.occupied ∧
             n.clearance = o.clearance ∧ n.band = o.band ∧ n.contribution = o.contribution)))) ∧
  (∀ s b z, s.canReceive = true → 1 ≤ b.toNat → b.toNat ≤ 24 → s.findZone b.toNat = some z →
     let used := s.stops.latches.zone = some (.zone b.toNat) ∨ ∃ r ∈ s.stops.retreatSet, r.zone = b.toNat
     (s.lineOccupied z.line = true → RefusedWith (.zoneRetire b) s .occupied) ∧
     (s.lineOccupied z.line = false → used → RefusedWith (.zoneRetire b) s .inUse) ∧
     (s.lineOccupied z.line = false → ¬used → z.kind = .guard → z.line = 0 → s.crane.state ≠ .parked →
       RefusedWith (.zoneRetire b) s .state) ∧
     (s.lineOccupied z.line = false → ¬used → z.kind = .slow ∨ z.line ≠ 0 ∨ s.crane.state = .parked →
       ∃ t, Replied (.zoneRetire b) s t .ok [] ∧
         t = { servedBy s t with zoneMonitor := { s.zoneMonitor with zones := t.zoneMonitor.zones } } ∧
         t.findZone b.toNat = none ∧ ∀ k, k ≠ b.toNat → t.findZone k = s.findZone k))

/-- R67, R72 to R76: with a valid head point every zone is measured, and the arm velocity scale is the least contribution of
the active zones; without one the scale is 0 and no zone is limiting. Of several zones with the least contribution the
lowest-numbered is limiting. Each zone whose occupied value has changed, or that is active and whose band has changed, raises
ZONE, in ascending order: the detail left is the highest-numbered one's, with overrun set where it was pending already or
several raise it; without such a zone ZONE stays as it is. -/
def Obligations.EvaluationPublishesTheScale : Prop :=
  (∀ s, s.running = true → Ascending (s.zoneMonitor.zones.map (·.number)) → ∃ t, exec .zoneEvaluation s = .next t ∧
    (∀ n, t.zoneMonitor.limiting = some n →
      ∀ z ∈ t.zoneMonitor.zones, z.contribution = some t.zoneMonitor.scale → n ≤ z.number) ∧
    let told := (s.zoneMonitor.zones.zip t.zoneMonitor.zones).filter fun p =>
      decide (p.1.occupied ≠ p.2.occupied ∨ (p.2.active = true ∧ p.1.band ≠ p.2.band))
    (told = [] → t.notices.zone = s.notices.zone) ∧
    ∀ p ∈ told, (∀ q ∈ told, q.2.number ≤ p.2.number) → t.notices.zone =
      ⟨some ⟨p.2.number, p.2.band, if p.2.line = 0 then none else some p.2.occupied⟩,
        s.notices.zone.detail.isSome || decide (1 < told.length)⟩) ∧
  ∀ s, s.running = true → s.stops.retreatSet = [] → ∃ t, exec .zoneEvaluation s = .next t ∧
    t.zoneMonitor.zones.length = s.zoneMonitor.zones.length ∧
    (∀ p ∈ s.zoneMonitor.zones.zip t.zoneMonitor.zones,
      let gap := fun lo hi v : Int => max 0 (max (lo - v) (v - hi))
      let far := max (gap p.1.xLo p.1.xHi s.head.x) (max (gap p.1.yLo p.1.yHi s.head.y) (gap p.1.zLo p.1.zHi s.head.z))
      let c := (far - Int.ofNat s.config.headRadius).toNat
      let share := if c ≤ p.1.stopMargin then 0 else 1024 * (c - p.1.stopMargin) / (p.1.slowMargin - p.1.stopMargin)
      p.2.number = p.1.number ∧ p.2.occupied = s.lineOccupied p.1.line ∧
      (p.2.active = true ↔ p.1.line = 0 ∨ s.lineOccupied p.1.line = true) ∧
      (s.head.valid = true → p.2.clearance = some c ∧
        p.2.band = (if c < p.1.stopMargin then .stop else if c < p.1.slowMargin then .slow else .clear) ∧
        p.2.contribution = if p.2.active = false then none else if p.1.slowMargin ≤ c then some 1024
          else if p.1.kind = .guard then some share else some (max share s.config.creep)) ∧
      (s.head.valid = false → p.2.clearance = p.1.clearance ∧ p.2.band = p.1.band ∧ p.2.contribution = none)) ∧
    (s.head.valid = false → t.zoneMonitor.scale = 0 ∧ t.zoneMonitor.limiting = none ∧ t.stops.conditions.zone = none) ∧
    (s.head.valid = true →
      ((∀ z ∈ t.zoneMonitor.zones, z.active = false) → t.zoneMonitor.scale = 1024 ∧ t.zoneMonitor.limiting = none) ∧
      ((∃ z ∈ t.zoneMonitor.zones, z.active = true) →
        (∃ z ∈ t.zoneMonitor.zones, z.contribution = some t.zoneMonitor.scale ∧ t.zoneMonitor.limiting = some z.number) ∧
        ∀ z ∈ t.zoneMonitor.zones, ∀ k, z.contribution = some k → t.zoneMonitor.scale ≤ k))

/-- R78, R84, R90, R95, R97: an active GUARD zone within its stop margin that is not in the retreat set makes ZONE present
with the lowest such zone; where ZONE was absent and the crane is READY, it latches and stops the crane. R43, R75, R76, R79,
R80: a zone of the retreat set stays in it while it is active and within its stop margin, with its clearance as its
reference; while one stays the scale is at most creep; one whose clearance has fallen below its reference makes ZONE present,
and in READY stops the crane, which empties the set. -/
def Obligations.BreachesAndRetreat : Prop :=
  (∀ s, s.running = true → s.stops.retreatSet = [] → s.head.valid = true → ∃ t, exec .zoneEvaluation s = .next t ∧
     (∀ n, n ∈ t.stops.breachSet ↔ ∃ z ∈ t.zoneMonitor.zones, z.number = n ∧ z.active = true ∧ z.kind = .guard ∧
       z.band = .stop) ∧
     (t.stops.breachSet = [] → t.stops.conditions.zone = none ∧ t.crane.state = s.crane.state ∧
       t.channels = s.channels) ∧
     ∀ n ∈ t.stops.breachSet, (∀ k ∈ t.stops.breachSet, n ≤ k) → t.stops.conditions.zone = some (.zone n) ∧
       (s.crane.state = .ready → s.stops.conditions.zone = none →
         t.crane.state = .stopping ∧ t.stops.latches.zone ≠ none) ∧
       (s.crane.state = .parked ∨ s.crane.state = .tripped ∨ s.crane.state = .parking →
         t.stops.latches = s.stops.latches ∧ t.crane.state = s.crane.state)) ∧
  (∀ s, s.running = true → s.head.valid = true → ∃ t, exec .zoneEvaluation s = .next t ∧
     let stays := fun r : RetreatZone => (t.findZone r.zone).any fun z =>
       z.active && decide (z.clearance.getD 0 < z.stopMargin)
     let now := fun r : RetreatZone => ((t.findZone r.zone).bind (·.clearance)).getD 0
     let kept := (s.stops.retreatSet.filter stays).map fun r => RetreatZone.mk r.zone (now r)
     let fallen := fun r : RetreatZone => r ∈ s.stops.retreatSet ∧ stays r = true ∧ now r < r.reference
     (t.crane.state = s.crane.state →
       t.stops.retreatSet = kept ∧ t.crane.retreat = (s.crane.retreat && decide (kept ≠ []))) ∧
     (kept ≠ [] → t.zoneMonitor.scale ≤ s.config.creep) ∧
     (∀ n, n ∈ t.stops.breachSet ↔ (∀ r ∈ kept, r.zone ≠ n) ∧ ∃ z ∈ t.zoneMonitor.zones, z.number = n ∧
       z.active = true ∧ z.kind = .guard ∧ z.band = .stop) ∧
     (t.stops.breachSet = [] → (∀ r, ¬fallen r) → t.stops.conditions.zone = none ∧ t.crane.state = s.crane.state) ∧
     (∀ n, n ∈ t.stops.breachSet ∨ (∃ r, fallen r ∧ r.zone = n) →
       (∀ k ∈ t.stops.breachSet, n ≤ k) → (∀ r, fallen r → n ≤ r.zone) → t.stops.conditions.zone = some (.zone n)) ∧
     ∀ r, fallen r → s.crane.state = .ready →
       t.crane.state = .stopping ∧ t.stops.latches.zone ≠ none ∧ t.stops.retreatSet = [] ∧ t.crane.retreat = false)

/-! ## Stops -/

/-- R63, R83: the filter of every safety line is the majority of its last three samples and a filtered change sets its change
flag; such a change, or the lapse of FRAME present, leaves INPUT pending with the lines whose change flags stand set, and
without one INPUT stays as it is. R84, R85, R86, R93: a sample that makes an E-stop contact read open, or an overtravel line
active, trips the crane and latches the cause with its detail. Of several overtravel lines that become active at one sample
the latch keeps the lowest and the condition shows the highest. R88, R90, R95: a sample that finds GRIP released while
CONSOLE or TAKE moves an ARM or HEAD channel in READY, or while the engine cues in or plays at a rate above 0 with such a
channel in its set, the other safety lines being at rest, starts STOPPING with GRIP latched; with nothing moving and the
engine in none of these states it does not. The model's choices: the order inside a sample (log entry 7), the detail of the
OVERTRAVEL condition with several lines active (log entry 15), the in position flag (log entry 20), and that GRIP rises in
ARMED and PAUSED too while a TAKE channel still has the velocity of its last path step (log entry 35). -/
def Obligations.SafetySamplesStopTheCrane : Prop :=
  (∀ s x, s.running = true → ∃ t, exec (.inputSample x) s = .next t ∧
     ∀ l, let f := getFilter s.stops l
       let g := getFilter t.stops l
       g.old = f.mid ∧ g.mid = f.new ∧ g.new = sampleOf x l ∧
       (g.filtered = true ↔ 2 ≤ f.mid.toNat + f.new.toNat + (sampleOf x l).toNat) ∧
       (g.changed = true ↔ f.changed = true ∨ g.filtered ≠ f.filtered) ∧
       (g.filtered ≠ f.filtered → t.notices.input.detail ≠ none)) ∧
  (∀ s x, s.running = true → ∃ t, exec (.inputSample x) s = .next t ∧
     let turned := (∃ l, (getFilter t.stops l).filtered ≠ (getFilter s.stops l).filtered) ∨
       (s.stops.frame.present = true ∧ t.stops.frame.present = false)
     (turned → t.notices.input.detail = some (changeFlags t)) ∧ (¬turned → t.notices.input = s.notices.input)) ∧
  (∀ s x, s.running = true → ∃ t, exec (.inputSample x) s = .next t ∧
     ((t.stops.estop1.filtered = true ∨ t.stops.estop2.filtered = true) → s.stops.conditions.estop = none →
       t.crane.state = .tripped ∧
       t.stops.conditions.estop = some (.estop t.stops.estop1.filtered t.stops.estop2.filtered t.stops.discrepancy) ∧
       t.stops.latches.estop = some (s.stops.latches.estop.getD
         (.estop t.stops.estop1.filtered t.stops.estop2.filtered t.stops.discrepancy))) ∧
     (let risen := fun i : Fin 8 =>
        (s.stops.overtravel.get i).filtered = false ∧ (t.stops.overtravel.get i).filtered = true
      ∀ i, risen i → t.crane.state = .tripped ∧
        [Chan.track, .swing, .boom, .reach][i.val / 2]? = some (overtravelChan i) ∧
        (overtravelPlus i = true ↔ i.val % 2 = 1) ∧
        ((∀ j, risen j → i ≤ j) → t.stops.latches.overtravel =
          some (s.stops.latches.overtravel.getD (.overtravel (overtravelChan i) (overtravelPlus i)))) ∧
        ((∀ j, risen j → j ≤ i) → t.stops.conditions.overtravel =
          some (.overtravel (overtravelChan i) (overtravelPlus i)))) ∧
     (∀ i, (t.stops.overtravel.get i).filtered = false →
       if overtravelPlus i = true then (t.chan (overtravelChan i)).inhibitPlus = false
       else (t.chan (overtravelChan i)).inhibitMinus = false)) ∧
  (∀ s x c, s.running = true → s.crane.state = .ready → isLens c = false →
     (s.chan c).owner = .console ∨ (s.chan c).owner = .take → (s.chan c).velocity ≠ 0 →
     (∀ d, isLens d = false → chanIndex d < chanIndex c → (s.chan d).velocity = 0) →
     s.stops.conditions.grip = none → s.stops.latches.grip = none → OnlyGripReleased s x →
     ∃ t, exec (.inputSample x) s = .next t ∧ t.crane.state = .stopping ∧
       t.stops.latches.grip = some (.grip (some c)) ∧ t.stops.conditions.grip = some (.grip (some c)) ∧
       t.stops.deadlineTimer = some ⟨0, s.config.stopDeadline⟩ ∧
       (∀ d, isLens d = false → (t.chan d).owner = .none ∧ (t.chan d).velocity = (s.chan d).velocity ∧
         ((s.chan d).velocity = 0 → (t.chan d).mode = .hold) ∧
         ((s.chan d).velocity ≠ 0 → (t.chan d).mode = .velocity ∧ (t.chan d).demand = some 0 ∧
           (t.chan d).stopDecel = true)) ∧
       t.engine.take = none) ∧
  (∀ s x, s.running = true → s.crane.state = .ready → (∀ c, isLens c = false → (s.chan c).velocity = 0) →
     s.stops.conditions.grip = none → s.stops.latches.grip = none → OnlyGripReleased s x →
     ∃ t, exec (.inputSample x) s = .next t ∧
       let needed := (∃ c, s.engine.set.get c = true ∧ isLens c = false) ∧
         (s.engine.state = .cueing ∨ (s.engine.state = .playing ∧ 0 < s.engine.rate))
       (needed → t.crane.state = .stopping ∧ t.stops.latches.grip = some (.grip none) ∧
         t.stops.conditions.grip = some (.grip none) ∧ t.engine.take = none) ∧
       (¬needed → t.crane.state = .ready ∧ t.stops.latches.grip = none ∧ t.stops.conditions.grip = none ∧
         t.engine = s.engine))

/-- R83, R85, R99: the samples at which the discrepancy latch sets, the deadline expires and FRAME present lapses; below its
expiry the deadline timer rises by 1 ms at each sample that finds the crane STOPPING and does not trip it, and at no other;
the age of FRAME present rises by 1 at each sample, an edge clearing it (GoStartsThePlay). R85: a sample that finds both
contacts open sets both-open seen, whether or not the latch is set (log entry 15); one that then finds both closed clears it
with the latch; disagreement leaves it as it is. That each named event is such a sample, and that FRAME lapses at the 250th
sample, is the model's choice (log entries 5, 9). -/
def Obligations.TimedInputsExpire : Prop :=
  ∀ s x, s.running = true →
    (s.stops.discrepancyTimer = some 100 → s.stops.discrepancy = false →
      let o1 := majority s.stops.estop1.mid s.stops.estop1.new x.estop1
      let o2 := majority s.stops.estop2.mid s.stops.estop2.new x.estop2
      o1 ≠ o2 → ∃ t, exec (.discrepancyLatch x) s = .next t ∧ exec (.inputSample x) s = .next t ∧
        t.stops.discrepancy = true ∧ t.stops.discrepancyTimer = none ∧
        t.stops.conditions.estop = some (.estop o1 o2 true)) ∧
    (∃ t, exec (.inputSample x) s = .next t ∧
      let o1 := t.stops.estop1.filtered
      let o2 := t.stops.estop2.filtered
      (o1 = true → o2 = true → t.stops.bothOpenSeen = true ∧ t.stops.discrepancy = s.stops.discrepancy ∧
        t.stops.discrepancyTimer = none) ∧
      (o1 = false → o2 = false → t.stops.bothOpenSeen = false ∧ t.stops.discrepancyTimer = none ∧
        t.stops.discrepancy = (s.stops.discrepancy && !s.stops.bothOpenSeen)) ∧
      (o1 ≠ o2 → t.stops.bothOpenSeen = s.stops.bothOpenSeen ∧ (s.stops.discrepancy = true → t.stops.discrepancy = true) ∧
        (s.stops.discrepancy = false → s.stops.discrepancyTimer = none → t.stops.discrepancyTimer = some 0 ∧
          t.stops.discrepancy = false) ∧
        ∀ n, s.stops.discrepancy = false → s.stops.discrepancyTimer = some n → n + 1 < 101 →
          t.stops.discrepancyTimer = some (n + 1) ∧ t.stops.discrepancy = false)) ∧
    (∀ d, s.crane.state = .stopping → s.stops.deadlineTimer = some d → d.expiry ≤ d.elapsed + 1 →
      s.stops.latches.deadline = none → ∃ t, exec (.deadlineExpiry x) s = .next t ∧ exec (.inputSample x) s = .next t ∧ t.crane.state = .tripped ∧
        t.stops.latches.deadline = some .deadline ∧ t.stops.deadlineTimer = none) ∧
    (s.stops.frame.present = true → 250 ≤ s.stops.frame.age + 1 →
      ∃ t, exec (.framePresentLapse x) s = .next t ∧ exec (.inputSample x) s = .next t ∧
        t.stops.frame.present = false ∧ t.stops.frame.changed = true ∧ t.notices.input.detail ≠ none) ∧
    (∃ t, exec (.inputSample x) s = .next t ∧
      (s.stops.frame.present = true → s.stops.frame.age + 1 < 250 →
        t.stops.frame = { s.stops.frame with age := s.stops.frame.age + 1 }) ∧
      (s.stops.frame.present = false → t.stops.frame = s.stops.frame) ∧
      (s.crane.state ≠ .stopping → t.stops.latches.deadline = s.stops.latches.deadline ∧
        (t.crane.state = s.crane.state → t.stops.deadlineTimer = s.stops.deadlineTimer)) ∧
      ∀ d, s.crane.state = .stopping → s.stops.deadlineTimer = some d → d.elapsed + 1 < d.expiry →
        t.stops.latches.deadline = s.stops.latches.deadline ∧
        (s.stops.conditions.estop ≠ none ∨ t.stops.conditions.estop = none →
          (∀ i, (t.stops.overtravel.get i).filtered = true → (s.stops.overtravel.get i).filtered = true) →
          t.crane.state = .stopping ∧ t.stops.deadlineTimer = some { d with elapsed := d.elapsed + 1 }))

/-- R89, R90, R91, R95, R97: STOP latches REQUEST with its origin in every crane state; in READY it starts
STOPPING with its deadline: the arm's and head's owners are cleared, what moves is decelerated, and the take ends. That a
channel at rest is then not in position is the model's choice (log entry 20). -/
def Obligations.StopBeginsStopping : Prop :=
  ∀ s o, s.canReceive = true → ∃ t, exec (.stop o) s = .next t ∧
    (o = .unit → Replied (.stop o) s t .ok []) ∧ (o = .broadcast → t.link.receiver = .unaddressed) ∧
    t.stops.latches = { s.stops.latches with request := some (s.stops.latches.request.getD (.request o)) } ∧
    t.stops.first = (if noneLatched s.stops.latches = true then some (.request o) else s.stops.first) ∧
    (s.crane.state = .ready → t.crane.state = .stopping ∧ t.crane.retreat = false ∧ t.stops.retreatSet = [] ∧
      t.stops.deadlineTimer = some ⟨0, s.config.stopDeadline⟩ ∧ t.engine.take = none ∧
      (∀ c, isLens c = false → t.chan c = stoppedRecord (s.chan c)) ∧
      ∀ c, isLens c = true → (s.chan c).owner ≠ .take → t.chan c = s.chan c) ∧
    (s.crane.state = .arming → t.crane.state = .parking ∧ t.crane.sequence = .down ∧ t.crane.slotTimer = 0) ∧
    (s.crane.state ≠ .ready → s.crane.state ≠ .arming → t.crane = s.crane) ∧
    (s.crane.state = .parked ∨ s.crane.state = .parking → ∀ c, t.chan c =
      if isHead c = true ∧ (s.cfg c).keepActive = true ∧ (s.chan c).drive = .active then stoppedRecord (s.chan c)
      else s.chan c) ∧
    (s.crane.state = .stopping ∨ s.crane.state = .halted ∨ s.crane.state = .tripped →
      t.channels = s.channels ∧ t.moves = s.moves ∧ t.engine = s.engine)

/-- R79, R100, R101, R102: ACK_STOP clears every latch where it is accepted: HALTED becomes READY, with the breached
zones as the retreat set while ZONE is present; TRIPPED becomes PARKED and PARKED stays, with an inhibit for each
active overtravel line. That a zone retired since the evaluation enters the retreat set with reference 0, and one created
anew since with its present clearance, is the model's choice (log entry 31). -/
def Obligations.AckStopClearsTheLatches : Prop :=
  ∀ s, s.canReceive = true →
    (s.crane.state ∈ [CraneState.ready, .arming, .stopping, .parking] → RefusedWith .ackStop s .state) ∧
    (s.crane.state = .tripped → (s.stops.conditions.estop ≠ none ∨ ∃ c, (s.chan c).faultPresent = true) →
      RefusedWith .ackStop s .causeActive) ∧
    (s.crane.state = .halted → ∃ t, Replied .ackStop s t .ok [] ∧
      t.stops.retreatSet = (if s.stops.conditions.zone = none then [] else s.stops.breachSet.map fun n =>
        ⟨n, ((s.findZone n).bind (·.clearance)).getD 0⟩) ∧
      t = { servedBy s t with
        crane := { s.crane with state := .ready, retreat := decide (t.stops.retreatSet ≠ []) }
        stops := { (servedBy s t).stops with latches := noCauses, first := none, retreatSet := t.stops.retreatSet }
        notices := stateNotice ⟨.ready, none, .none⟩ s.notices }) ∧
    (s.crane.state = .parked ∨ (s.crane.state = .tripped ∧ s.stops.conditions.estop = none ∧
        ∀ c, (s.chan c).faultPresent = false) → ∃ t, Replied .ackStop s t .ok [] ∧
      t = { servedBy s t with
        crane := { s.crane with state := .parked }
        stops := { (servedBy s t).stops with latches := noCauses, first := none }
        channels := t.channels
        notices := stateNotice ⟨.parked, none, .none⟩ s.notices } ∧
      ∀ c, t.chan c = { s.chan c with
        inhibitMinus := (s.chan c).inhibitMinus || allOvertravel.any fun i =>
          (s.stops.overtravel.get i).filtered && !overtravelPlus i && overtravelChan i == c
        inhibitPlus := (s.chan c).inhibitPlus || allOvertravel.any fun i =>
          (s.stops.overtravel.get i).filtered && overtravelPlus i && overtravelChan i == c })

/-! ## Marks and takes -/

/-- R107 to R113: MARK_SET stores tag and values, each brought within the limits in force, keeping the reference count of a
replaced mark; MARK_CAPTURE stores setpoints in the same way, and is refused STATE where a setpoint does not describe where
the axis stands; a locked mark refuses both. R116: MARK_RETIRE's tests in their order, and the removal of a
mark that is neither locked nor named by a cue. -/
def Obligations.MarksAreStoredAndRetired : Prop :=
  (∀ s n tag mask, s.canReceive = true → 1 ≤ n.toNat → n.toNat ≤ 128 → mask ≠ 0#16 → mask.toNat < 512 →
     ((∃ k, s.findMark n.toNat = some k ∧ k.locked = true) → RefusedWith (.markCapture n tag mask) s .locked ∧
       ∀ vs, vs.length = maskCount mask → RefusedWith (.markSet n tag mask vs) s .locked) ∧
     ((∀ k, s.findMark n.toNat = some k → k.locked = false) →
       (∀ vs, vs.length = maskCount mask → ∃ t k clamped,
         Replied (.markSet n tag mask vs) s t (if clamped = 0#16 then .ok else .clamped) (maskBytes clamped) ∧
         t = { servedBy s t with marks := t.marks } ∧ t.findMark n.toNat = some k ∧
         (∀ j, j ≠ n.toNat → t.findMark j = s.findMark j) ∧ k.tag = tag ∧
         k.refCount = ((s.findMark n.toNat).map (·.refCount)).getD 0 ∧ k.locked = false ∧
         (∀ p ∈ (maskChans mask).zip vs, k.values.get p.1 = some (clampInt (s.lo p.1) (s.hi p.1) p.2.toInt) ∧
           (maskHas clamped p.1 = true ↔ clampInt (s.lo p.1) (s.hi p.1) p.2.toInt ≠ p.2.toInt)) ∧
         ∀ c, maskHas mask c = false → k.values.get c = none ∧ maskHas clamped c = false) ∧
       ((∃ c, maskHas mask c = true ∧ ((s.chan c).known = false ∨ ((s.chan c).drive ≠ .active ∧ (s.chan c).stale ≠ 0))) →
         RefusedWith (.markCapture n tag mask) s .state) ∧
       ((∀ c, maskHas mask c = true → (s.chan c).known = true ∧ ((s.chan c).drive = .active ∨ (s.chan c).stale = 0)) →
         ∃ t k clamped,
         Replied (.markCapture n tag mask) s t (if clamped = 0#16 then .ok else .clamped) (maskBytes clamped ++
           (maskChans mask).flatMap fun c => s32 (clampInt (s.lo c) (s.hi c) (s.chan c).setpoint)) ∧
         t = { servedBy s t with marks := t.marks } ∧ t.findMark n.toNat = some k ∧
         (∀ j, j ≠ n.toNat → t.findMark j = s.findMark j) ∧ k.tag = tag ∧
         k.refCount = ((s.findMark n.toNat).map (·.refCount)).getD 0 ∧
         (∀ c, k.values.get c = if maskHas mask c = true then some (clampInt (s.lo c) (s.hi c) (s.chan c).setpoint) else none) ∧
         ∀ c, (maskHas clamped c = true ↔ maskHas mask c = true ∧
           clampInt (s.lo c) (s.hi c) (s.chan c).setpoint ≠ (s.chan c).setpoint)))) ∧
  (∀ s n, s.canReceive = true →
     (n.toNat = 0 ∨ 128 < n.toNat → RefusedWith (.markRetire n) s .badOperand) ∧
     (1 ≤ n.toNat → n.toNat ≤ 128 → s.findMark n.toNat = none → RefusedWith (.markRetire n) s .notFound) ∧
     (∀ k, 1 ≤ n.toNat → n.toNat ≤ 128 → s.findMark n.toNat = some k →
       (k.locked = true → RefusedWith (.markRetire n) s .locked) ∧
       (k.locked = false → k.refCount ≠ 0 → RefusedWith (.markRetire n) s .inUse) ∧
       (k.locked = false → k.refCount = 0 → ∃ t, Replied (.markRetire n) s t .ok [] ∧
         t = { servedBy s t with marks := t.marks } ∧ t.findMark n.toNat = none ∧
         ∀ j, j ≠ n.toNat → t.findMark j = s.findMark j)))

/-- R125: TAKE_CREATE creates an empty take, which TAKE_ARM refuses; a number out of range or in use refuses it. R126: the
ranges of the operands of a cue; one out of them is refused BAD_OPERAND. R122, R124, R127 to R130: the active
take refuses its edits and its retirement LOCKED; a position beyond the cues refuses an edit BAD_OPERAND, a full
take or an empty pool an insertion FULL, a cue of a missing mark NOT_FOUND; a retirement returns the cues to the pool and
their references to the marks. -/
def Obligations.TakesAreCreatedAndRetired : Prop :=
  (∀ q : CueOperands,
     (cueValid q = true ↔ 1 ≤ q.mark.toNat ∧ q.mark.toNat ≤ 128 ∧ 1 ≤ q.travel.toNat ∧ q.travel.toNat ≤ 600000 ∧
       q.dwell.toNat ≤ 600000 ∧ q.curve.toNat ≤ 1 ∧ q.mask ≠ 0#16 ∧ q.mask.toNat < 512) ∧
     (cueValid q = false → ∀ s n p, s.canReceive = true →
       RefusedWith (.takeCueInsert n p q) s .badOperand ∧ RefusedWith (.takeCueReplace n p q) s .badOperand)) ∧
  (∀ s n tag, s.canReceive = true →
     (n.toNat = 0 ∨ 16 < n.toNat → RefusedWith (.takeCreate n tag) s .badOperand) ∧
     (1 ≤ n.toNat → n.toNat ≤ 16 → s.findTake n.toNat ≠ none → RefusedWith (.takeCreate n tag) s .exists_) ∧
     (1 ≤ n.toNat → n.toNat ≤ 16 → s.findTake n.toNat = none → ∃ t, Replied (.takeCreate n tag) s t .ok [] ∧
       t = { servedBy s t with takes := t.takes } ∧ t.findTake n.toNat = some ⟨n.toNat, tag, [], .none, 0, 0, false⟩ ∧
       (∀ j, j ≠ n.toNat → t.findTake j = s.findTake j) ∧ t.freeCues = s.freeCues) ∧
     (∀ x, 1 ≤ n.toNat → n.toNat ≤ 16 → s.findTake n.toNat = some x → x.cues = [] →
       s.crane.state = .ready → s.engine.state = .idle →
       RefusedWith (.takeArm n) s .badOperand)) ∧
  (∀ s n p x, s.canReceive = true → RecordsAgree s → 1 ≤ n.toNat → n.toNat ≤ 16 → s.findTake n.toNat = some x →
     1 ≤ p.toNat → p.toNat ≤ 65 →
     (x.active = true → RefusedWith (.takeRetire n) s .locked ∧
       (p.toNat ≤ 64 → RefusedWith (.takeCueDelete n p) s .locked) ∧
       ∀ q, cueValid q = true → RefusedWith (.takeCueInsert n p q) s .locked ∧
         (p.toNat ≤ 64 → RefusedWith (.takeCueReplace n p q) s .locked)) ∧
     (x.active = false → ∀ q, cueValid q = true →
       (x.cues.length + 1 < p.toNat → RefusedWith (.takeCueInsert n p q) s .badOperand) ∧
       (p.toNat ≤ x.cues.length + 1 → x.cues.length = 64 ∨ cuesStored s.takes = 256 →
         RefusedWith (.takeCueInsert n p q) s .full) ∧
       (x.cues.length < p.toNat → p.toNat ≤ 64 → RefusedWith (.takeCueReplace n p q) s .badOperand ∧
         RefusedWith (.takeCueDelete n p) s .badOperand) ∧
       (s.findMark q.mark.toNat = none →
         (p.toNat ≤ x.cues.length + 1 → x.cues.length < 64 → cuesStored s.takes < 256 →
           RefusedWith (.takeCueInsert n p q) s .notFound) ∧
         (p.toNat ≤ x.cues.length → RefusedWith (.takeCueReplace n p q) s .notFound))) ∧
     (x.active = false → ∃ t, Replied (.takeRetire n) s t .ok (u16 (256 - (cuesStored s.takes - x.cues.length))) ∧
       t = { servedBy s t with takes := t.takes, marks := t.marks } ∧ t.findTake n.toNat = none ∧
       (∀ j, j ≠ n.toNat → t.findTake j = s.findTake j) ∧
       ∀ m, t.findMark m = (s.findMark m).map fun k => { k with
         refCount := k.refCount - (x.cues.filter fun o => o.mark == m).length }))

/-- R108, R122, R126 to R129: an accepted cue edit changes one take's list at one place, moves the later cues, leaves every
other take as it is, and counts the marks that its cues name; the reply gives the new cue count and the pool's free count. -/
def Obligations.CueEditsChangeOnePlace : Prop :=
  ∀ s n p x, s.canReceive = true → RecordsAgree s → 1 ≤ n.toNat → n.toNat ≤ 16 → s.findTake n.toNat = some x →
    1 ≤ p.toNat → x.active = false →
    (∀ q, cueValid q = true → p.toNat ≤ x.cues.length + 1 → x.cues.length < 64 → cuesStored s.takes < 256 →
      s.findMark q.mark.toNat ≠ none → ∃ t cues, Replied (.takeCueInsert n p q) s t .ok
        (u8 (x.cues.length + 1) ++ u16 (256 - (cuesStored s.takes + 1))) ∧
      t = { servedBy s t with takes := t.takes, marks := t.marks } ∧ t.findTake n.toNat = some { x with cues := cues } ∧
      cues.length = x.cues.length + 1 ∧ cues[p.toNat - 1]? = some (storedCue q) ∧ cues.eraseIdx (p.toNat - 1) = x.cues ∧
      (∀ j, j ≠ n.toNat → t.findTake j = s.findTake j) ∧
      ∀ m, t.findMark m = (s.findMark m).map fun k => { k with refCount := k.refCount + if q.mark.toNat = m then 1 else 0 }) ∧
    (∀ q o, cueValid q = true → x.cues[p.toNat - 1]? = some o → s.findMark q.mark.toNat ≠ none →
      ∃ t, Replied (.takeCueReplace n p q) s t .ok (u8 x.cues.length ++ u16 (256 - cuesStored s.takes)) ∧
      t = { servedBy s t with takes := t.takes, marks := t.marks } ∧
      t.findTake n.toNat = some { x with cues := x.cues.set (p.toNat - 1) (storedCue q) } ∧
      (∀ j, j ≠ n.toNat → t.findTake j = s.findTake j) ∧
      ∀ m, t.findMark m = (s.findMark m).map fun k => { k with
        refCount := k.refCount + (if q.mark.toNat = m then 1 else 0) - if o.mark = m then 1 else 0 }) ∧
    (∀ o, x.cues[p.toNat - 1]? = some o →
      ∃ t, Replied (.takeCueDelete n p) s t .ok (u8 (x.cues.length - 1) ++ u16 (256 - (cuesStored s.takes - 1))) ∧
      t = { servedBy s t with takes := t.takes, marks := t.marks } ∧
      t.findTake n.toNat = some { x with cues := x.cues.eraseIdx (p.toNat - 1) } ∧
      (∀ j, j ≠ n.toNat → t.findTake j = s.findTake j) ∧
      ∀ m, t.findMark m = (s.findMark m).map fun k => { k with refCount := k.refCount - if o.mark = m then 1 else 0 })

/-! ## Playback -/

/-- R109, R135 to R138, R142, R145, R154: TAKE_ARM, its tests passed, gives the take's channels to TAKE in PATH mode at their
setpoints, locks its marks, and starts cue 1 from the setpoints to the end points; the first test that fails refuses it: a
cue that would carry a channel faster than its vmax with the lowest such channel of the first such cue, a refused claim with
the code of the lowest-indexed channel. R27: the moves of the channels that the console loses end, in the order of opening
(log entry 13); that order, the in position flag (log entry 20) and the note of values not yet taken (log entry 33) are the
model's choice. -/
def Obligations.TakeArmClaimsTheSet : Prop :=
  ∀ s n x, s.canReceive = true → 1 ≤ n.toNat → n.toNat ≤ 16 → s.findTake n.toNat = some x →
    let set := channelSet s x.cues
    (∀ c, set.get c = true ↔ ∃ q ∈ x.cues, cueEnd s q c ≠ none) ∧
    (s.crane.state ≠ .ready ∨ s.engine.state ≠ .idle → RefusedWith (.takeArm n) s .state) ∧
    (s.crane.state = .ready → s.engine.state = .idle → (∀ c, set.get c = false) → RefusedWith (.takeArm n) s .badOperand) ∧
    (s.crane.state = .ready → s.engine.state = .idle → (∃ c, set.get c = true ∧ isLens c = false) → s.gripHeld = false →
      RefusedWith (.takeArm n) s .noGrip) ∧
    (s.crane.state = .ready → s.engine.state = .idle → x.cues ≠ [] → (∃ c, set.get c = true) →
      ((∃ c, set.get c = true ∧ isLens c = false) → s.gripHeld = true) →
      (∀ k c, tooFast s x.cues k c → (∀ d, chanIndex d < chanIndex c → ¬tooFast s x.cues k d) →
        (∀ j d, j < k → ¬tooFast s x.cues j d) → ∃ t,
        Replied (.takeArm n) s t .tooFast [BitVec.ofNat 8 (k + 1), chanByte c] ∧ OnlyLink s t) ∧
      (∀ c code, (∀ k d, ¬tooFast s x.cues k d) → set.get c = true → claimCode .take false s c = some code →
        (∀ d, set.get d = true → chanIndex d < chanIndex c → claimCode .take false s d = none) →
        RefusedWith (.takeArm n) s code) ∧
      ((∀ k d, ¬tooFast s x.cues k d) → (∀ c, set.get c = true → claimCode .take false s c = none) →
        ∃ t, Replied (.takeArm n) s t .ok (maskBytes (maskOf set)) ∧
          t.engine.state = .cueing ∧ t.engine.take = some n.toNat ∧ t.engine.cueIndex = 1 ∧ t.engine.cueTime = 0 ∧
          t.engine.lag = 0 ∧ t.engine.pause = false ∧ t.engine.overtaken = false ∧ t.engine.frameWait = none ∧
          t.engine.set = set ∧
          t.engine.rate = (if setHasArm set = true then s.zoneMonitor.scale else 1024) ∧
          (∀ c, t.engine.path.get c = if set.get c = true then some (s.chan c).setpoint else none) ∧
          t.engine.untaken = set ∧
          (∀ q rest, x.cues = q :: rest → ∀ c, t.engine.spans.get c =
            (cueEnd s q c).map fun e => ⟨(s.chan c).setpoint, e⟩) ∧
          (∀ c, t.chan c = if set.get c = true then { s.chan c with
              owner := .take, mode := .path, demand := none, target := none, stopDecel := false, inPosition := false }
            else s.chan c) ∧
          (∀ j, t.findTake j = (s.findTake j).map fun y => { y with active := y.active || decide (j = n.toNat) }) ∧
          (∀ j, t.findMark j = (s.findMark j).map fun k => { k with
            locked := k.locked || x.cues.any fun q => q.mark == j }) ∧
          t.moves = movesLeft (fun c => set.get c && decide ((s.chan c).owner = .console)) s.moves ∧
          t.notices.move = moveSourceAfter (fun c => set.get c && decide ((s.chan c).owner = .console)) s.moves
            s.notices.move ∧
          t.notices.take = ⟨some ⟨n.toNat, .cueing, .none, 1⟩, s.notices.take.detail.isSome⟩ ∧
          t = { servedBy s t with
            engine := t.engine, channels := t.channels, takes := t.takes, marks := t.marks, moves := t.moves
            notices := t.notices }))

/-- R140, R141, R145, R154: TAKE_GO in ARMED plays from cue 2, which starts at the path points, or waits for FRAME, whose
rising edge starts the same play; elsewhere, or with the grip let go, it is refused, and an edge only renews FRAME present. A
take of one cue ends at once, DONE or PARTIAL, with lag 0 and cue index 1 (its two raises of TAKE are log entry 17, the value
its channels still take is log entry 33: the model's choices). -/
def Obligations.GoStartsThePlay : Prop :=
  ∀ s, (s.canReceive = true →
    (∀ m, m ≠ 0#8 → m ≠ 1#8 → RefusedWith (.takeGo .unit m) s .badOperand) ∧
    (∀ m, m = 0#8 ∨ m = 1#8 → s.engine.state ≠ .armed → RefusedWith (.takeGo .unit m) s .state) ∧
    (∀ m, m = 0#8 ∨ m = 1#8 → s.engine.state = .armed → setHasBody s.engine.set = true → s.gripHeld = false →
      RefusedWith (.takeGo .unit m) s .noGrip) ∧
    (s.engine.state = .armed → (setHasBody s.engine.set = true → s.gripHeld = true) →
      (∃ t, Replied (.takeGo .unit 1#8) s t .ok [] ∧
        t = { servedBy s t with engine := { s.engine with state := .waitFrame, frameWait := some 0 }, notices := t.notices } ∧
        ∃ d, t.notices.take.detail = some d ∧ d.state = .waitFrame) ∧
      (2 ≤ (activeCues s).length → s.engine.pause = false → ∃ t, Replied (.takeGo .unit 0#8) s t .ok [] ∧
        t = { servedBy s t with engine := t.engine, notices := t.notices } ∧ t.engine.state = .playing ∧
        t.engine.cueIndex = 2 ∧ t.engine.cueTime = 0 ∧ t.engine.take = s.engine.take ∧ t.engine.set = s.engine.set ∧
        t.engine = { s.engine with
          state := .playing, cueIndex := 2, cueTime := 0, frameWait := none, spans := t.engine.spans
          rate := if setHasArm s.engine.set = true then s.zoneMonitor.scale else 1024 } ∧
        (∀ q c, (activeCues s)[1]? = some q → t.engine.spans.get c = spanFrom s q c (s.engine.path.get c)) ∧
        (∃ d, t.notices.take.detail = some d ∧ d.state = .playing ∧ d.cueIndex = 2) ∧
        ∀ w, s.running = true → s.engine.state = .armed → s.engine.frameWait = none →
          ∃ u, exec .frameEdge { s with engine := { s.engine with state := .waitFrame, frameWait := w } } = .next u ∧
            u.engine = t.engine ∧ u.channels = s.channels ∧ u.stops.frame.present = true) ∧
      (∀ n x, (activeCues s).length ≤ 1 → s.engine.take = some n → s.findTake n = some x → s.engine.lag = 0 →
        s.engine.pause = false →
        let result := if s.engine.overtaken = true then TakeResult.partial_ else .done
        ∃ t, Replied (.takeGo .unit 0#8) s t .ok [] ∧ t.engine.state = .idle ∧ t.engine.take = none ∧
          t.engine.cueIndex = 1 ∧ t.engine.lag = 0 ∧ (∀ c, t.engine.set.get c = false) ∧
          t.findTake n = some { x with
            lastResult := result, lastLag := 0, passCount := min 65535 (x.passCount + 1), active := false } ∧
          (∀ c, s.lo c ≤ s.hi c → t.chan c = if s.engine.set.get c = true ∧ (s.chan c).owner = .take then
              endedRecord (s.lo c) (s.hi c) (s.engine.path.get c) (s.engine.untaken.get c) (s.chan c)
            else s.chan c) ∧
          t.notices.take = ⟨some ⟨n, .idle, result, 1⟩, true⟩ ∧
          ∀ w, ∃ u, exec .frameEdge { s with engine := { s.engine with state := .waitFrame, frameWait := w } } = .next u ∧
            u.engine = t.engine ∧ u.takes = t.takes ∧ u.marks = t.marks ∧ u.channels = t.channels))) ∧
  (s.running = true → s.engine.state ≠ .waitFrame → ∃ t, exec .frameEdge s = .next t ∧ t.engine = s.engine ∧
    t.channels = s.channels ∧ t.stops.frame = ⟨true, s.stops.frame.changed || !s.stops.frame.present, 0⟩ ∧
    t = { s with stops := { s.stops with frame := t.stops.frame }, notices := t.notices })

/-- R139, R142 to R146: one engine millisecond: the rate is stepped, the clock moves by it, the channels are written at their
interpolated setpoints, the cue-in ends in ARMED at its end points, and PLAYING with pause set becomes PAUSED when the rate
reaches 0. In ARMED and in IDLE it changes nothing: the clock stands and the rate is not stepped. R8, R9, R147: the channel
update takes the value last written: within the limits, not toward an inhibited direction, the velocity being the change of
setpoint. The model's choices: a named event is the periodic event at which it comes about (log entry 5), the value is
clamped before it is judged (log entry 27), and the engine notes which values no update has taken (log entry 33). -/
def Obligations.EngineMillisecondsAdvanceTheTake : Prop :=
  (∀ s, s.engine.state = .armed ∨ s.engine.state = .idle → exec .engineMillisecond s = .next s) ∧
  (∀ s c w, s.running = true → wheelsStill s → (s.chan c).drive = .active → (s.chan c).mode = .path →
    (s.chan c).owner = .take → (s.chan c).stopDecel = false → s.engine.path.get c = some w → s.lo c ≤ s.hi c →
    ∃ t, exec .channelUpdate s = .next t ∧ t.chan c = pathRecord (s.lo c) (s.hi c) w (s.chan c) ∧
      t.engine = { s.engine with untaken := .ofFn fun _ => false }) ∧
  ∀ s q, s.running = true → cueInPlay s = some q → s.engine.rate ≤ 1024 →
    let target := if s.engine.pause = true then 0 else if setHasArm s.engine.set = true then s.zoneMonitor.scale else 1024
    let rate := if s.engine.pause = false ∧ target < s.engine.rate then target
      else max (s.engine.rate - s.config.rateSlew) (min (s.engine.rate + s.config.rateSlew) target)
    let time := s.engine.cueTime + rate
    (s.engine.state = .cueing → time < q.travel * 1024 → ∃ t, exec .engineMillisecond s = .next t ∧
      t = { s with engine := { s.engine with
        rate := rate, cueTime := time, path := t.engine.path, untaken := t.engine.untaken } } ∧
      (∀ c, t.engine.untaken.get c = (s.engine.untaken.get c || (s.engine.spans.get c).isSome)) ∧
      ∀ c, t.engine.path.get c = match s.engine.spans.get c with
        | some p => some (pathPoint q time p)
        | none => s.engine.path.get c) ∧
    (s.engine.state = .cueing → q.travel * 1024 ≤ time → ∃ t, exec .cueInComplete s = .next t ∧
      exec .engineMillisecond s = .next t ∧
      t = { s with
        engine := { s.engine with
          rate := rate, cueTime := q.travel * 1024, state := .armed, path := t.engine.path, untaken := t.engine.untaken }
        notices := t.notices } ∧
      (∀ c, t.engine.untaken.get c = (s.engine.untaken.get c || (s.engine.spans.get c).isSome)) ∧
      (∃ d, t.notices.take.detail = some d ∧ d.state = .armed) ∧
      ∀ c, t.engine.path.get c = match s.engine.spans.get c with
        | some p => some p.stop
        | none => s.engine.path.get c) ∧
    (s.engine.state = .playing ∨ s.engine.state = .paused → time < (q.travel + q.dwell) * 1024 → rate ≤ 1024 →
      ∃ t, exec .engineMillisecond s = .next t ∧
        t = { s with
          engine := { s.engine with
            rate := rate, cueTime := time, lag := min 67107840 (s.engine.lag + 1024 - rate), path := t.engine.path
            untaken := s.engine.set
            state := if s.engine.state = .playing ∧ s.engine.pause = true ∧ rate = 0 then .paused else s.engine.state }
          notices := t.notices } ∧
        (s.engine.state = .playing → s.engine.pause = true → rate = 0 → exec .pauseReached s = .next t) ∧
        ∀ c, t.engine.path.get c = match s.engine.spans.get c with
          | some p => some (pathPoint q time p)
          | none => s.engine.path.get c)

/-- R141, R143 to R146, R148, R152, R153: the millisecond that ends a cue, at whatever rate and with pause set or clear,
starts the next one at the path points with the excess; the one that ends the last cue ends the play DONE, SLOWED or PARTIAL
and lets its channels go where the last values leave them; the one that brings the frame wait to 250 ms ends it FAILED. The
model's choices: a named event is the periodic event at which it comes about (log entry 5), and a released channel takes a
written value only if no update has taken it (log entry 33). -/
def Obligations.CuesAndPlaysEnd : Prop :=
  (∀ s q n, s.running = true → cueInPlay s = some q → s.engine.take = some n →
    s.engine.state = .playing ∨ s.engine.state = .paused →
    let target := if s.engine.pause = true then 0 else if setHasArm s.engine.set = true then s.zoneMonitor.scale else 1024
    let rate := if s.engine.pause = false ∧ target < s.engine.rate then target
      else max (s.engine.rate - s.config.rateSlew) (min (s.engine.rate + s.config.rateSlew) target)
    let length := (q.travel + q.dwell) * 1024
    let lag := min 67107840 (s.engine.lag + 1024 - rate)
    let pausing := s.engine.state = .playing ∧ s.engine.pause = true ∧ rate = 0
    let reached := fun c => match s.engine.spans.get c with
      | some p => some p.stop
      | none => s.engine.path.get c
    rate ≤ 1024 → length ≤ s.engine.cueTime + rate →
    (∀ r, (activeCues s)[s.engine.cueIndex]? = some r → ∃ t, exec .cueEnd s = .next t ∧ exec .engineMillisecond s = .next t ∧
      t = { s with
        engine := { s.engine with
          rate := rate, lag := lag, cueTime := s.engine.cueTime + rate - length, cueIndex := s.engine.cueIndex + 1
          state := if pausing then .paused else s.engine.state
          path := t.engine.path, spans := t.engine.spans, untaken := s.engine.set }
        notices := t.notices } ∧
      (¬pausing → t.notices = s.notices) ∧
      ∀ c, t.engine.spans.get c = spanFrom s r c (reached c) ∧
        t.engine.path.get c = match t.engine.spans.get c with
          | some p => some (pathPoint r t.engine.cueTime p)
          | none => reached c) ∧
    (∀ x, (activeCues s).length ≤ s.engine.cueIndex → s.findTake n = some x →
      let result := if s.engine.overtaken = true then TakeResult.partial_ else if 1024 ≤ lag then .slowed else .done
      ∃ t, exec .playEnd s = .next t ∧ exec .engineMillisecond s = .next t ∧
        t.engine.state = .idle ∧ t.engine.take = none ∧ (∀ c, t.engine.set.get c = false) ∧ t.engine.lag = lag ∧
        t.findTake n = some { x with
          lastResult := result, lastLag := min 65535 (lag / 1024), passCount := min 65535 (x.passCount + 1)
          active := false } ∧
        (∀ j, j ≠ n → t.findTake j = s.findTake j) ∧
        (∀ j, t.findMark j = (s.findMark j).map fun k => { k with
          locked := k.locked && !(x.cues.any fun q => q.mark == j) }) ∧
        (∀ c, s.lo c ≤ s.hi c → t.chan c = if s.engine.set.get c = true ∧ (s.chan c).owner = .take then
            endedRecord (s.lo c) (s.hi c) (reached c) (s.engine.untaken.get c || (s.engine.spans.get c).isSome) (s.chan c)
          else s.chan c) ∧
        t = { s with
          engine := t.engine, takes := t.takes, marks := t.marks, channels := t.channels, notices := t.notices } ∧
        t.notices.take.detail = some ⟨n, .idle, result, s.engine.cueIndex⟩)) ∧
  ∀ s n, s.running = true → s.engine.take = some n → s.engine.state = .waitFrame →
    (∀ k, s.engine.frameWait = some k → k + 1 < 250 →
      exec .engineMillisecond s = .next { s with engine := { s.engine with frameWait := some (k + 1) } }) ∧
    (∀ k, s.engine.frameWait = some k → 250 ≤ k + 1 → ∃ t, exec .frameWaitExpiry s = .next t ∧
      exec .engineMillisecond s = .next t ∧ t.engine.state = .idle ∧ t.engine.take = none ∧
      (∀ x, s.findTake n = some x → ∃ y, t.findTake n = some y ∧ y.lastResult = .failed ∧
        y.passCount = x.passCount ∧ y.active = false) ∧
      ∃ d, t.notices.take.detail = some d ∧ d.result = .failed ∧ d.state = .idle)

/-- R8, R11, R123, R148, R149, R150, R153, R154: TAKE_PAUSE and TAKE_RESUME set and clear pause, TAKE_ABORT ends the take
ABORTED by the end step, whose channels that still move decelerate from their velocity and which raises TAKE with IDLE,
ABORTED and the cue index, and each is refused in the states in which it is not taken. That a released channel takes a
written value only if no update has taken it, and else keeps its velocity, is the model's reading (log entry 33). -/
def Obligations.PauseResumeAbort : Prop :=
  ∀ s, s.canReceive = true →
    (s.engine.state ≠ .playing → RefusedWith .takePause s .state) ∧
    (s.engine.state = .playing → ∃ t, Replied .takePause s t .ok [] ∧
      t = { servedBy s t with engine := { s.engine with pause := true } }) ∧
    (¬(s.engine.state = .paused ∨ (s.engine.state = .playing ∧ s.engine.pause = true)) → RefusedWith .takeResume s .state) ∧
    (s.engine.state = .paused ∨ (s.engine.state = .playing ∧ s.engine.pause = true) →
      (setHasBody s.engine.set = true → s.gripHeld = false → RefusedWith .takeResume s .noGrip) ∧
      ((setHasBody s.engine.set = true → s.gripHeld = true) → ∃ t, Replied .takeResume s t .ok [] ∧
        t = { servedBy s t with engine := { s.engine with pause := false, state := .playing }, notices := t.notices } ∧
        (s.engine.state = .playing → t.notices = s.notices) ∧
        (s.engine.state = .paused → ∃ d, t.notices.take.detail = some d ∧ d.state = .playing))) ∧
    (s.engine.state = .idle → RefusedWith .takeAbort s .state) ∧
    (∀ n x, s.engine.state ≠ .idle → s.engine.take = some n → s.findTake n = some x → ∃ t, Replied .takeAbort s t .ok [] ∧
      t.engine = { s.engine with
        state := .idle, take := none, pause := false, overtaken := false, frameWait := none
        set := .ofFn fun _ => false, path := .ofFn fun _ => none, spans := .ofFn fun _ => none
        untaken := .ofFn fun _ => false } ∧
      (∃ y, t.findTake n = some y ∧ y = { x with
        lastResult := .aborted, lastLag := min 65535 (s.engine.lag / 1024), active := false }) ∧
      (∀ j, t.findMark j = (s.findMark j).map fun k => { k with
        locked := k.locked && !(x.cues.any fun q => q.mark == j) }) ∧
      (∀ c, (s.engine.set.get c = false ∨ (s.chan c).owner ≠ .take) → t.chan c = s.chan c) ∧
      (∀ c, s.engine.set.get c = true → (s.chan c).owner = .take → s.lo c ≤ s.hi c → t.chan c =
        endedRecord (s.lo c) (s.hi c) (s.engine.path.get c) (s.engine.untaken.get c) (s.chan c)) ∧
      (∀ c, s.engine.set.get c = true → (s.chan c).owner = .take → (t.chan c).owner = .none ∧
        (((t.chan c).mode = .hold ∧ (t.chan c).velocity = 0) ∨
          ((t.chan c).mode = .velocity ∧ (t.chan c).demand = some 0 ∧ (t.chan c).velocity ≠ 0))) ∧
      (∀ j, j ≠ n → t.findTake j = s.findTake j) ∧
      t.notices = noticesWith { s.notices with
        take := ⟨some ⟨n, .idle, .aborted, s.engine.cueIndex⟩, s.notices.take.detail.isSome⟩ } ∧
      t = { servedBy s t with
        engine := t.engine, takes := t.takes, marks := t.marks, channels := t.channels, notices := t.notices })

/-! ## Lens maps, targets and tracking -/

/-- R156 to R160: LENS_MAP_SET stores the map as given, and refuses one whose points or limits are not in order or out of
range; LENS_MAP_RETIRE empties a bank that is not selected, and LENS_SELECT selects a bank; the limits in force that change
act on the flags of the channels at once. R159: the limits in force are those configured, but that the selected map gives
FOCUS the span of its counts and, where it has them, IRIS and ZOOM their limits. R161, R162: TARGET_SET stores a target of
age 0; TARGET_RETIRE removes a target that is not tracked. That bits 2 to 7 of the limit flags carry no meaning is the
model's choice (log entry 18). -/
def Obligations.LensRecordsAreKept : Prop :=
  (∀ s : State, (∀ c, s.lens.selected = none ∨ isLens c = false → s.lo c = (s.cfg c).lo ∧ s.hi c = (s.cfg c).hi) ∧
     ∀ b (m : LensMap), s.lens.selected = some b → s.lens.banks.get b = some m →
       (m.points ≠ [] → (∀ p ∈ m.points, s.lo .focus ≤ Int.ofNat p.count ∧ Int.ofNat p.count ≤ s.hi .focus) ∧
         (∃ p ∈ m.points, s.lo .focus = Int.ofNat p.count) ∧ ∃ p ∈ m.points, s.hi .focus = Int.ofNat p.count) ∧
       (∀ p, m.iris = some p → s.lo .iris = Int.ofNat p.lo ∧ s.hi .iris = Int.ofNat p.hi) ∧
       (m.iris = none → s.lo .iris = (s.cfg .iris).lo ∧ s.hi .iris = (s.cfg .iris).hi) ∧
       (∀ p, m.zoom = some p → s.lo .zoom = Int.ofNat p.lo ∧ s.hi .zoom = Int.ofNat p.hi) ∧
       (m.zoom = none → s.lo .zoom = (s.cfg .zoom).lo ∧ s.hi .zoom = (s.cfg .zoom).hi)) ∧
  (∀ s, s.canReceive = true →
     (∀ m, m.points.length = m.pointCount.toNat →
       3 < m.bank.toNat ∨ m.points.length < 2 ∨ 32 < m.points.length ∨
         (∃ p ∈ m.points, p.distance.toNat < 100 ∨ 1000000 < p.distance.toNat) ∨
         ¬m.points.Pairwise (fun p q => p.distance.toNat < q.distance.toNat) ∨
         (m.limitFlags.getLsbD 0 = true ∧ m.irisHi.toNat < m.irisLo.toNat) ∨
         (m.limitFlags.getLsbD 1 = true ∧ m.zoomHi.toNat < m.zoomLo.toNat) →
       RefusedWith (.lensMapSet m) s .badOperand) ∧
     (∀ m k, m.points.length = m.pointCount.toNat → bankOfNumber m.bank.toNat = some k →
       2 ≤ m.points.length → m.points.length ≤ 32 →
       (∀ p ∈ m.points, 100 ≤ p.distance.toNat ∧ p.distance.toNat ≤ 1000000) →
       m.points.Pairwise (fun p q => p.distance.toNat < q.distance.toNat) →
       (m.limitFlags.getLsbD 0 = true → m.irisLo.toNat ≤ m.irisHi.toNat) →
       (m.limitFlags.getLsbD 1 = true → m.zoomLo.toNat ≤ m.zoomHi.toNat) →
       (s.lens.selected = some k → (∃ c, isLens c = true ∧ ((s.chan c).owner = .take ∨ (s.chan c).owner = .track)) →
         RefusedWith (.lensMapSet m) s .locked) ∧
       (s.lens.selected ≠ some k ∨ (∀ c, isLens c = true → (s.chan c).owner ≠ .take ∧ (s.chan c).owner ≠ .track) →
         ∃ t x, Replied (.lensMapSet m) s t .ok [] ∧
           t = { servedBy s t with lens := { s.lens with banks := s.lens.banks.set k (some x) }, channels := t.channels } ∧
           x.tag = m.tag ∧ (x.points = m.points.map fun p => ⟨p.distance.toNat, p.count.toNat⟩) ∧
           x.iris = (if m.limitFlags.getLsbD 0 = true then some ⟨m.irisLo.toNat, m.irisHi.toNat⟩ else none) ∧
           x.zoom = (if m.limitFlags.getLsbD 1 = true then some ⟨m.zoomLo.toNat, m.zoomHi.toNat⟩ else none) ∧
           ∀ c, t.chan c = if t.limits c = s.limits c then s.chan c else flaggedRecord (t.lo c) (t.hi c) (s.chan c))) ∧
     (∀ b k, bankOfNumber b.toNat = some k → s.lens.banks.get k ≠ none →
       (s.lens.selected = some k → RefusedWith (.lensMapRetire b) s .inUse) ∧
       (s.lens.selected ≠ some k → ∃ t, Replied (.lensMapRetire b) s t .ok [] ∧
         t = { servedBy s t with lens := { s.lens with banks := s.lens.banks.set k none } })) ∧
     (∀ b : Byte, 4 ≤ b.toNat → b.toNat ≤ 254 → RefusedWith (.lensSelect b) s .badOperand) ∧
     (∀ b sel, (b = 0xFF#8 ∧ sel = none) ∨ (∃ k, bankOfNumber b.toNat = some k ∧ sel = some k) →
       ((∃ k, sel = some k ∧ s.lens.banks.get k = none) → RefusedWith (.lensSelect b) s .notFound) ∧
       ((∀ k, sel = some k → s.lens.banks.get k ≠ none) →
         ((∃ c, isLens c = true ∧ (s.chan c).owner ≠ .none ∧ (s.chan c).owner ≠ .console) →
           RefusedWith (.lensSelect b) s .owned) ∧
         ((∀ c, isLens c = true → (s.chan c).owner = .none ∨ (s.chan c).owner = .console) →
           ((∃ c, isLens c = true ∧ (s.chan c).velocity ≠ 0) → RefusedWith (.lensSelect b) s .moving) ∧
           ((∀ c, isLens c = true → (s.chan c).velocity = 0) → ∃ t, Replied (.lensSelect b) s t .ok [] ∧
             t = { servedBy s t with lens := { s.lens with selected := sel }, channels := t.channels } ∧
             ∀ c, t.chan c = if isLens c = true then flaggedRecord (t.lo c) (t.hi c) (s.chan c) else s.chan c))))) ∧
  (∀ s n, s.canReceive = true →
     (∀ x y z a, RefusedWith (.targetSet .unit n x y z a) s .badOperand ∨
       (1 ≤ n.toNat ∧ n.toNat ≤ 8 ∧ x.toInt.natAbs ≤ 2000000 ∧ y.toInt.natAbs ≤ 2000000 ∧ z.toInt.natAbs ≤ 2000000 ∧
         (a.toNat = 0 ∨ (10 ≤ a.toNat ∧ a.toNat ≤ 10000)))) ∧
     (∀ x y z a, 1 ≤ n.toNat → n.toNat ≤ 8 → x.toInt.natAbs ≤ 2000000 → y.toInt.natAbs ≤ 2000000 →
       z.toInt.natAbs ≤ 2000000 → a.toNat = 0 ∨ (10 ≤ a.toNat ∧ a.toNat ≤ 10000) →
       ∃ t, Replied (.targetSet .unit n x y z a) s t .ok [] ∧
         t = { servedBy s t with lens := { s.lens with targets := t.lens.targets } } ∧
         t.findTarget n.toNat = some ⟨n.toNat, x.toInt, y.toInt, z.toInt, a.toNat, 0⟩ ∧
         ∀ k, k ≠ n.toNat → t.findTarget k = s.findTarget k) ∧
     (1 ≤ n.toNat → n.toNat ≤ 8 → s.findTarget n.toNat ≠ none →
       let tracked := s.lens.tracking.state ≠ .off ∧ s.lens.tracking.target = some n.toNat
       (tracked → RefusedWith (.targetRetire n) s .inUse) ∧
       (¬tracked → ∃ t, Replied (.targetRetire n) s t .ok [] ∧
         t = { servedBy s t with lens := { s.lens with targets := t.lens.targets } } ∧
         t.findTarget n.toNat = none ∧ ∀ k, k ≠ n.toNat → t.findTarget k = s.findTarget k)))

/-- R16 to R18, R27, R164 to R166, R168 to R170: TRACK_ON gives FOCUS to TRACK and measures the target at once, or is
SUSPENDED where it cannot; TRACK_OFF lets FOCUS go. Each raises TRACK. That a TRACK_ON that cannot measure keeps the last
distance, the focus count and RANGE is the model's choice (log entry 22), and so is the in position flag (log entry 20). -/
def Obligations.TrackingStartsAndEnds : Prop :=
  ∀ s, s.canReceive = true →
    (∀ n, n.toNat = 0 ∨ 8 < n.toNat → RefusedWith (.trackOn n) s .badOperand) ∧
    (∀ n, 1 ≤ n.toNat → n.toNat ≤ 8 →
      (s.lens.selected = none → RefusedWith (.trackOn n) s .noMap) ∧
      (s.lens.selected ≠ none → s.findTarget n.toNat = none → RefusedWith (.trackOn n) s .notFound) ∧
      (∀ code, s.lens.selected ≠ none → s.findTarget n.toNat ≠ none → claimCode .track false s .focus = some code →
        RefusedWith (.trackOn n) s code) ∧
      (∀ g m, s.findTarget n.toNat = some g → s.selectedMap = some m → claimCode .track false s .focus = none →
        let measured := s.head.valid = true ∧ staleAt g.maxAge g.age = false
        let k := { s.lens.tracking with target := some n.toNat }
        let after := if measured then measuredRecord s.head g m k else { k with state := .suspended }
        let goal := if measured then (focusLookup m.points (distanceTo s.head g)).1 else (s.chan .focus).setpoint
        let lost := fun c : Chan => decide (c = .focus ∧ (s.chan .focus).owner = .console)
        ∃ t, Replied (.trackOn n) s t .ok [if measured then 1#8 else 2#8] ∧
          t = { servedBy s t with
            lens := { s.lens with tracking := after }
            channels := s.channels.set .focus { s.chan .focus with
              owner := .track, mode := .position, demand := none, target := some goal
              stopDecel := false, inPosition := false }
            moves := movesLeft lost s.moves
            notices := t.notices } ∧
          t.notices.move = moveSourceAfter lost s.moves s.notices.move ∧
          t.notices.track = ⟨some ⟨after.state, after.range, some n.toNat⟩, s.notices.track.detail.isSome⟩)) ∧
    (s.lens.tracking.state = .off → RefusedWith .trackOff s .state) ∧
    (s.lens.tracking.state ≠ .off → (s.chan .focus).owner = .track → ∃ t, Replied .trackOff s t .ok [] ∧
      t = { servedBy s t with
        lens := { s.lens with tracking := { s.lens.tracking with state := .off, target := none, range := false } }
        channels := s.channels.set .focus (releasedRecord (s.chan .focus))
        moves := movesLeft (fun c => decide (c = .focus)) s.moves
        notices := t.notices } ∧
      t.notices.track = ⟨some ⟨.off, false, none⟩, s.notices.track.detail.isSome⟩)

/-- R161, R166, R168, R170: an update raises every target's age; while tracking is on it measures the target and writes
FOCUS's position target, or is SUSPENDED with the values last written; a change raises TRACK. A named event is the periodic
event at which it comes about (log entry 5). -/
def Obligations.TrackingFollowsTheTarget : Prop :=
  ∀ s, s.running = true →
    (∃ t, exec .lensUpdate s = .next t ∧
      (∀ n, t.findTarget n = (s.findTarget n).map fun g => { g with age := min 65535 (g.age + 1) }) ∧
      (s.lens.tracking.state = .off → t = { s with lens := { s.lens with targets := t.lens.targets } }) ∧
      (∀ n g m, s.lens.tracking.state ≠ .off → s.lens.tracking.target = some n → s.findTarget n = some g →
        s.selectedMap = some m → (s.chan .focus).owner = .track →
        let k := s.lens.tracking
        let measured := s.head.valid = true ∧ staleAt g.maxAge (min 65535 (g.age + 1)) = false
        let after := if measured then measuredRecord s.head g m k else { k with state := .suspended }
        t = { s with
          lens := { s.lens with targets := t.lens.targets, tracking := after }
          channels := if measured then s.channels.set .focus
              { s.chan .focus with target := some (focusLookup m.points (distanceTo s.head g)).1 }
            else s.channels
          notices := if after.state = k.state ∧ after.range = k.range then s.notices
            else noticesWith { s.notices with
              track := ⟨some ⟨after.state, after.range, some n⟩, s.notices.track.detail.isSome⟩ } })) ∧
    ∀ (b : Byte) g, s.findTarget b.toNat = some g → g.age ≤ g.maxAge → 0 < g.maxAge → g.maxAge < min 65535 (g.age + 1) →
      ∃ t, exec (.targetStale b) s = .next t ∧ exec .lensUpdate s = .next t ∧
        ∃ k, t.findTarget b.toNat = some k ∧ k.age = g.age + 1 ∧ targetStale k = true

/-- R167: the count of a distance: the first or last point's with RANGE outside the map; within it, between the two
points of its bracket, truncated toward zero, and so within the map's span. -/
def Obligations.FocusIsLookedUpInTheMap : Prop :=
  ∀ (points : List MapPoint) (d : Nat), points.Pairwise (fun p q => p.distance < q.distance) →
    (∀ p rest, points = p :: rest → d < p.distance → focusLookup points d = (Int.ofNat p.count, true)) ∧
    (∀ q, points.getLast? = some q → q.distance < d → focusLookup points d = (Int.ofNat q.count, true)) ∧
    (∀ i p q, points[i]? = some p → points[i + 1]? = some q → p.distance ≤ d → d ≤ q.distance →
      (∀ r, points[i + 2]? = some r → d < q.distance) →
      focusLookup points d = (Int.ofNat p.count + ((Int.ofNat q.count - Int.ofNat p.count) *
        (Int.ofNat d - Int.ofNat p.distance)).tdiv (Int.ofNat q.distance - Int.ofNat p.distance), false) ∧
      min (Int.ofNat p.count) (Int.ofNat q.count) ≤ (focusLookup points d).1 ∧
      (focusLookup points d).1 ≤ max (Int.ofNat p.count) (Int.ofNat q.count)) ∧
    (∀ p ∈ points, 2 ≤ points.length → focusLookup points p.distance = (Int.ofNat p.count, false)) ∧
    (∀ lo hi : Nat, points ≠ [] → (∀ p ∈ points, lo ≤ p.count ∧ p.count ≤ hi) →
      Int.ofNat lo ≤ (focusLookup points d).1 ∧ (focusLookup points d).1 ≤ Int.ofNat hi)

/-! ## Power and reset -/

/-- R44 to R49, R173: RESET low and main power off quiet the outputs; the retention RAM loses its mark when it has lost both
supplies, in whichever order; the rise of RESET and the return of main power reset the part warm or cold by the length of the
hold and the retention; a warm reset keeps the retained records. The model's choices: the levels of the straps in State.reset
(log entry 4), that a loss of main power ends a RESET hold and that the backup supply is present again when main power
returns (log entry 19), that a short pulse over an invalid retention stores RESET_PULSE (log entry 21), and that a kept zone
is inactive until its first evaluation (log entry 30). -/
def Obligations.ResetsAreWarmOrCold : Prop :=
  ∀ s,
    (s.running = true → exec .resetAssert s = .next { quieted s with power := { s.power with resetLow := true } }) ∧
    (s.power.mainOn = true →
      exec .powerLoss s = .next { quieted s with power := { s.power with
        mainOn := false, resetLow := false
        retentionValid := if s.power.backupOn = true then s.power.retentionValid else false } }) ∧
    exec .backupSupplyLoss s = .next { s with power := { s.power with
      backupOn := false
      retentionValid := if s.power.mainOn = true then s.power.retentionValid else false } } ∧
    (∀ ms x, s.power.mainOn = true → s.power.resetLow = true →
      (3000 ≤ ms → exec (.resetRelease ms x) s = .next (afterCold .resetHold x s)) ∧
      (ms < 3000 → exec (.resetRelease ms x) s =
        .next (if s.power.retentionValid = true then afterWarm .resetPulse x s else afterCold .resetPulse x s))) ∧
    (∀ x, s.power.mainOn = false → exec (.powerUp x) s =
      let supplied := { s with power := { s.power with backupOn := true } }
      .next (if s.power.retentionValid = true then afterWarm .powerValid x supplied
        else afterCold .powerInvalid x supplied)) ∧
    (∀ c, State.reset.chan c = { heldRecord (State.reset.chan c) with
      drive := .off, commanded := false, owner := .none, setpoint := 0, fraction := 0, feedback := 0, known := false
      stale := 0, faultPresent := false, atLimit := false, outside := false, inhibitMinus := false, inhibitPlus := false }) ∧
    State.reset.crane = ⟨.parked, false, none, 0, .none, .ofFn fun _ => true⟩ ∧
    State.reset.stops.latches = noCauses ∧ State.reset.stops.first = none ∧ State.reset.stops.retreatSet = [] ∧
    State.reset.stops.discrepancy = false ∧ State.reset.marks = [] ∧ State.reset.takes = [] ∧ State.reset.moves = [] ∧
    State.reset.zoneMonitor.zones = [] ∧ (∀ l, (State.reset.presence.get l).occupancy = true) ∧
    State.reset.head.valid = false ∧ State.reset.engine.state = .idle ∧ State.reset.lens.tracking.state = .off ∧
    State.reset.link.periodic = .disarmed ∧ State.reset.link.noticeTimer = .disarmed ∧
    State.reset.notices.state = ⟨some ⟨.parked, none, .reset .cold⟩, false⟩ ∧ State.reset.notices.mask = 0x3F#8 ∧
    State.reset.notices.attn = true
end

