-- ==== Sys2Proof/Laws/State.lean ====
section
/-! SUPPORT. Reading after building: the fixed-size records, and the fields of the state after each plain update. -/

namespace Sys2Proof

variable {α : Type}

/-! ## The fixed-size records -/

@[simp] theorem PerChannel.get_ofFn (f : Chan → α) (c : Chan) : (PerChannel.ofFn f).get c = f c := by
  cases c <;> rfl

@[simp] theorem PerChannel.get_set (p : PerChannel α) (c d : Chan) (a : α) :
    (p.set c a).get d = if d = c then a else p.get d := by
  simp [PerChannel.set]

theorem PerChannel.ext_get {p q : PerChannel α} (h : ∀ c, p.get c = q.get c) : p = q := by
  cases p; cases q
  have h0 := h .track; have h1 := h .swing; have h2 := h .boom; have h3 := h .reach; have h4 := h .pan
  have h5 := h .tilt; have h6 := h .focus; have h7 := h .iris; have h8 := h .zoom
  simp only [PerChannel.get] at h0 h1 h2 h3 h4 h5 h6 h7 h8
  simp [*]

@[simp] theorem PerFour.get_ofFn (f : Fin 4 → α) (i : Fin 4) : (PerFour.ofFn f).get i = f i := by
  fin_cases i <;> rfl

@[simp] theorem PerFour.get_set (p : PerFour α) (i j : Fin 4) (a : α) :
    (p.set i a).get j = if j = i then a else p.get j := by
  simp [PerFour.set]

theorem PerFour.ext_get {p q : PerFour α} (h : ∀ i, p.get i = q.get i) : p = q := by
  cases p; cases q
  have h0 := h 0; have h1 := h 1; have h2 := h 2; have h3 := h 3
  simp only [PerFour.get] at h0 h1 h2 h3
  simp [*]

@[simp] theorem PerEight.get_ofFn (f : Fin 8 → α) (i : Fin 8) : (PerEight.ofFn f).get i = f i := by
  fin_cases i <;> rfl

@[simp] theorem PerEight.get_set (p : PerEight α) (i j : Fin 8) (a : α) :
    (p.set i a).get j = if j = i then a else p.get j := by
  simp [PerEight.set]

@[simp] theorem PerLine.get_ofFn (f : Fin 12 → α) (i : Fin 12) : (PerLine.ofFn f).get i = f i := by
  fin_cases i <;> rfl

@[simp] theorem PerLine.get_set (p : PerLine α) (i j : Fin 12) (a : α) :
    (p.set i a).get j = if j = i then a else p.get j := by
  simp [PerLine.set]

namespace Machine

theorem mem_allChans (c : Chan) : c ∈ allChans := by cases c <;> decide

theorem allChans_nodup : allChans.Nodup := by decide

/-! ## One channel -/

variable (s : State) (c d : Chan) (r : Channel) (f : Chan → Channel → Channel)

@[simp] theorem chan_setChan : (s.setChan c r).chan d = if d = c then r else s.chan d := by
  simp [State.setChan, State.chan]

@[simp] theorem setChan_config : (s.setChan c r).config = s.config := rfl
@[simp] theorem setChan_moves : (s.setChan c r).moves = s.moves := rfl
@[simp] theorem setChan_wheels : (s.setChan c r).wheels = s.wheels := rfl
@[simp] theorem setChan_driveBus : (s.setChan c r).driveBus = s.driveBus := rfl
@[simp] theorem setChan_crane : (s.setChan c r).crane = s.crane := rfl
@[simp] theorem setChan_head : (s.setChan c r).head = s.head := rfl
@[simp] theorem setChan_presence : (s.setChan c r).presence = s.presence := rfl
@[simp] theorem setChan_zoneMonitor : (s.setChan c r).zoneMonitor = s.zoneMonitor := rfl
@[simp] theorem setChan_stops : (s.setChan c r).stops = s.stops := rfl
@[simp] theorem setChan_marks : (s.setChan c r).marks = s.marks := rfl
@[simp] theorem setChan_takes : (s.setChan c r).takes = s.takes := rfl
@[simp] theorem setChan_engine : (s.setChan c r).engine = s.engine := rfl
@[simp] theorem setChan_lens : (s.setChan c r).lens = s.lens := rfl
@[simp] theorem setChan_link : (s.setChan c r).link = s.link := rfl
@[simp] theorem setChan_notices : (s.setChan c r).notices = s.notices := rfl
@[simp] theorem setChan_power : (s.setChan c r).power = s.power := rfl
@[simp] theorem setChan_freeCount : (s.setChan c r).freeCount = s.freeCount := rfl
@[simp] theorem setChan_pending : (s.setChan c r).pending = s.pending := rfl

/-! ## All channels -/

@[simp] theorem chan_mapChannels : (mapChannels s f).chan c = f c (s.chan c) := by
  simp [mapChannels, State.chan]

@[simp] theorem mapChannels_config : (mapChannels s f).config = s.config := rfl
@[simp] theorem mapChannels_moves : (mapChannels s f).moves = s.moves := rfl
@[simp] theorem mapChannels_wheels : (mapChannels s f).wheels = s.wheels := rfl
@[simp] theorem mapChannels_driveBus : (mapChannels s f).driveBus = s.driveBus := rfl
@[simp] theorem mapChannels_crane : (mapChannels s f).crane = s.crane := rfl
@[simp] theorem mapChannels_head : (mapChannels s f).head = s.head := rfl
@[simp] theorem mapChannels_presence : (mapChannels s f).presence = s.presence := rfl
@[simp] theorem mapChannels_zoneMonitor : (mapChannels s f).zoneMonitor = s.zoneMonitor := rfl
@[simp] theorem mapChannels_stops : (mapChannels s f).stops = s.stops := rfl
@[simp] theorem mapChannels_marks : (mapChannels s f).marks = s.marks := rfl
@[simp] theorem mapChannels_takes : (mapChannels s f).takes = s.takes := rfl
@[simp] theorem mapChannels_engine : (mapChannels s f).engine = s.engine := rfl
@[simp] theorem mapChannels_lens : (mapChannels s f).lens = s.lens := rfl
@[simp] theorem mapChannels_link : (mapChannels s f).link = s.link := rfl
@[simp] theorem mapChannels_notices : (mapChannels s f).notices = s.notices := rfl
@[simp] theorem mapChannels_power : (mapChannels s f).power = s.power := rfl
@[simp] theorem mapChannels_freeCount : (mapChannels s f).freeCount = s.freeCount := rfl
@[simp] theorem mapChannels_pending : (mapChannels s f).pending = s.pending := rfl

/-! ## Notices and conditions -/

@[simp] theorem setNotices_notices (n : NoticeUnit) : (setNotices s n).notices = withAttn n := rfl
@[simp] theorem setNotices_link (n : NoticeUnit) : (setNotices s n).link = s.link := rfl
@[simp] theorem withAttn_mask (n : NoticeUnit) : (withAttn n).mask = n.mask := rfl
@[simp] theorem withAttn_state (n : NoticeUnit) : (withAttn n).state = n.state := rfl
@[simp] theorem withAttn_zone (n : NoticeUnit) : (withAttn n).zone = n.zone := rfl
@[simp] theorem withAttn_take (n : NoticeUnit) : (withAttn n).take = n.take := rfl
@[simp] theorem withAttn_move (n : NoticeUnit) : (withAttn n).move = n.move := rfl
@[simp] theorem withAttn_track (n : NoticeUnit) : (withAttn n).track = n.track := rfl
@[simp] theorem withAttn_input (n : NoticeUnit) : (withAttn n).input = n.input := rfl
@[simp] theorem attnWanted_withAttn (n : NoticeUnit) : attnWanted (withAttn n) = attnWanted n := rfl
@[simp] theorem withAttn_attn (n : NoticeUnit) : (withAttn n).attn = attnWanted n := rfl

@[simp] theorem setCondition_conditions (k : Cause) (x : Option CauseDetail) :
    (setCondition k x s).stops.conditions = setCause s.stops.conditions k x := rfl
@[simp] theorem setCondition_latches (k : Cause) (x : Option CauseDetail) :
    (setCondition k x s).stops.latches = s.stops.latches := rfl
@[simp] theorem setCondition_first (k : Cause) (x : Option CauseDetail) :
    (setCondition k x s).stops.first = s.stops.first := rfl

@[simp] theorem getCause_setCause (p : PerCause) (k j : Cause) (x : Option CauseDetail) :
    getCause (setCause p k x) j = if j = k then x else getCause p j := by
  cases k <;> cases j <;> rfl

/-! ## Flags of one channel -/

variable (lo hi : Int)

@[simp] theorem withOutside_outside : (withOutside lo hi r).outside = outsideOf lo hi r.setpoint := rfl
@[simp] theorem withOutside_atLimit : (withOutside lo hi r).atLimit = r.atLimit := rfl
@[simp] theorem withOutside_setpoint : (withOutside lo hi r).setpoint = r.setpoint := rfl
@[simp] theorem withOutside_known : (withOutside lo hi r).known = r.known := rfl
@[simp] theorem withOutside_drive : (withOutside lo hi r).drive = r.drive := rfl
@[simp] theorem withLimits_outside : (withLimits lo hi r).outside = outsideOf lo hi r.setpoint := rfl
@[simp] theorem withLimits_atLimit : (withLimits lo hi r).atLimit = (r.atLimit && onLimit lo hi r.setpoint) := rfl
@[simp] theorem withLimits_setpoint : (withLimits lo hi r).setpoint = r.setpoint := rfl

/-! ## The parts that no stop, claim, notice or end of play touches -/

/-- Configuration, wheels, drive bus, head point, presence lines, zone results, power, and the queue. -/
def State.settled (s : State) :=
  (s.config, s.wheels, s.driveBus, s.head, s.presence, s.zoneMonitor, s.power, s.freeCount, s.pending)

@[simp] theorem setChan_settled : (s.setChan c r).settled = s.settled := rfl
@[simp] theorem mapChannels_settled : (mapChannels s f).settled = s.settled := rfl
@[simp] theorem setNotices_settled (n : NoticeUnit) : (setNotices s n).settled = s.settled := rfl
@[simp] theorem setCondition_settled (k : Cause) (x : Option CauseDetail) :
    (setCondition k x s).settled = s.settled := rfl

/-- Equal settled parts, field by field. -/
theorem settled_eq_iff {s t : State} : t.settled = s.settled ↔
    t.config = s.config ∧ t.wheels = s.wheels ∧ t.driveBus = s.driveBus ∧ t.head = s.head ∧
      t.presence = s.presence ∧ t.zoneMonitor = s.zoneMonitor ∧ t.power = s.power ∧ t.freeCount = s.freeCount ∧
      t.pending = s.pending := by
  simp [State.settled, Prod.ext_iff]

end Machine

end Sys2Proof
end

