-- ==== Sys2Proof/Laws/Frames.lean ====
section
/-! SUPPORT. What the shared operations leave as it is: for each operation, the parts of the state that it does
not touch. Parts that are not named here may change. -/

namespace Sys2Proof.Machine

variable (s : State)


/-! ### Notices -/

@[simp] theorem startNoticeTimer_settled : (startNoticeTimer s).settled = s.settled := by
  unfold startNoticeTimer; split <;> rfl
@[simp] theorem startNoticeTimer_channels : (startNoticeTimer s).channels = s.channels := by
  unfold startNoticeTimer; split <;> rfl
@[simp] theorem startNoticeTimer_moves : (startNoticeTimer s).moves = s.moves := by
  unfold startNoticeTimer; split <;> rfl
@[simp] theorem startNoticeTimer_crane : (startNoticeTimer s).crane = s.crane := by
  unfold startNoticeTimer; split <;> rfl
@[simp] theorem startNoticeTimer_stops : (startNoticeTimer s).stops = s.stops := by
  unfold startNoticeTimer; split <;> rfl
@[simp] theorem startNoticeTimer_marks : (startNoticeTimer s).marks = s.marks := by
  unfold startNoticeTimer; split <;> rfl
@[simp] theorem startNoticeTimer_takes : (startNoticeTimer s).takes = s.takes := by
  unfold startNoticeTimer; split <;> rfl
@[simp] theorem startNoticeTimer_engine : (startNoticeTimer s).engine = s.engine := by
  unfold startNoticeTimer; split <;> rfl
@[simp] theorem startNoticeTimer_lens : (startNoticeTimer s).lens = s.lens := by
  unfold startNoticeTimer; split <;> rfl
@[simp] theorem startNoticeTimer_notices : (startNoticeTimer s).notices = s.notices := by
  unfold startNoticeTimer; split <;> rfl
@[simp] theorem raiseState_settled (d : StateDetail) : (raiseState d s).settled = s.settled := by
  simp only [raiseState]; exact startNoticeTimer_settled s
@[simp] theorem raiseState_channels (d : StateDetail) : (raiseState d s).channels = s.channels := by
  simp only [raiseState]; exact startNoticeTimer_channels s
@[simp] theorem raiseState_moves (d : StateDetail) : (raiseState d s).moves = s.moves := by
  simp only [raiseState]; exact startNoticeTimer_moves s
@[simp] theorem raiseState_crane (d : StateDetail) : (raiseState d s).crane = s.crane := by
  simp only [raiseState]; exact startNoticeTimer_crane s
@[simp] theorem raiseState_stops (d : StateDetail) : (raiseState d s).stops = s.stops := by
  simp only [raiseState]; exact startNoticeTimer_stops s
@[simp] theorem raiseState_marks (d : StateDetail) : (raiseState d s).marks = s.marks := by
  simp only [raiseState]; exact startNoticeTimer_marks s
@[simp] theorem raiseState_takes (d : StateDetail) : (raiseState d s).takes = s.takes := by
  simp only [raiseState]; exact startNoticeTimer_takes s
@[simp] theorem raiseState_engine (d : StateDetail) : (raiseState d s).engine = s.engine := by
  simp only [raiseState]; exact startNoticeTimer_engine s
@[simp] theorem raiseState_lens (d : StateDetail) : (raiseState d s).lens = s.lens := by
  simp only [raiseState]; exact startNoticeTimer_lens s
@[simp] theorem raiseZone_settled (d : ZoneDetail) : (raiseZone d s).settled = s.settled := by
  simp only [raiseZone]; exact startNoticeTimer_settled s
@[simp] theorem raiseZone_channels (d : ZoneDetail) : (raiseZone d s).channels = s.channels := by
  simp only [raiseZone]; exact startNoticeTimer_channels s
@[simp] theorem raiseZone_moves (d : ZoneDetail) : (raiseZone d s).moves = s.moves := by
  simp only [raiseZone]; exact startNoticeTimer_moves s
@[simp] theorem raiseZone_crane (d : ZoneDetail) : (raiseZone d s).crane = s.crane := by
  simp only [raiseZone]; exact startNoticeTimer_crane s
@[simp] theorem raiseZone_stops (d : ZoneDetail) : (raiseZone d s).stops = s.stops := by
  simp only [raiseZone]; exact startNoticeTimer_stops s
@[simp] theorem raiseZone_marks (d : ZoneDetail) : (raiseZone d s).marks = s.marks := by
  simp only [raiseZone]; exact startNoticeTimer_marks s
@[simp] theorem raiseZone_takes (d : ZoneDetail) : (raiseZone d s).takes = s.takes := by
  simp only [raiseZone]; exact startNoticeTimer_takes s
@[simp] theorem raiseZone_engine (d : ZoneDetail) : (raiseZone d s).engine = s.engine := by
  simp only [raiseZone]; exact startNoticeTimer_engine s
@[simp] theorem raiseZone_lens (d : ZoneDetail) : (raiseZone d s).lens = s.lens := by
  simp only [raiseZone]; exact startNoticeTimer_lens s
@[simp] theorem raiseTake_settled (d : TakeDetail) : (raiseTake d s).settled = s.settled := by
  rfl
@[simp] theorem raiseTake_channels (d : TakeDetail) : (raiseTake d s).channels = s.channels := by
  rfl
@[simp] theorem raiseTake_moves (d : TakeDetail) : (raiseTake d s).moves = s.moves := by
  rfl
@[simp] theorem raiseTake_crane (d : TakeDetail) : (raiseTake d s).crane = s.crane := by
  rfl
@[simp] theorem raiseTake_stops (d : TakeDetail) : (raiseTake d s).stops = s.stops := by
  rfl
@[simp] theorem raiseTake_marks (d : TakeDetail) : (raiseTake d s).marks = s.marks := by
  rfl
@[simp] theorem raiseTake_takes (d : TakeDetail) : (raiseTake d s).takes = s.takes := by
  rfl
@[simp] theorem raiseTake_engine (d : TakeDetail) : (raiseTake d s).engine = s.engine := by
  rfl
@[simp] theorem raiseTake_lens (d : TakeDetail) : (raiseTake d s).lens = s.lens := by
  rfl
@[simp] theorem raiseTake_link (d : TakeDetail) : (raiseTake d s).link = s.link := by
  rfl
@[simp] theorem raiseMove_settled (d : MoveDetail) : (raiseMove d s).settled = s.settled := by
  rfl
@[simp] theorem raiseMove_channels (d : MoveDetail) : (raiseMove d s).channels = s.channels := by
  rfl
@[simp] theorem raiseMove_moves (d : MoveDetail) : (raiseMove d s).moves = s.moves := by
  rfl
@[simp] theorem raiseMove_crane (d : MoveDetail) : (raiseMove d s).crane = s.crane := by
  rfl
@[simp] theorem raiseMove_stops (d : MoveDetail) : (raiseMove d s).stops = s.stops := by
  rfl
@[simp] theorem raiseMove_marks (d : MoveDetail) : (raiseMove d s).marks = s.marks := by
  rfl
@[simp] theorem raiseMove_takes (d : MoveDetail) : (raiseMove d s).takes = s.takes := by
  rfl
@[simp] theorem raiseMove_engine (d : MoveDetail) : (raiseMove d s).engine = s.engine := by
  rfl
@[simp] theorem raiseMove_lens (d : MoveDetail) : (raiseMove d s).lens = s.lens := by
  rfl
@[simp] theorem raiseMove_link (d : MoveDetail) : (raiseMove d s).link = s.link := by
  rfl
@[simp] theorem raiseTrack_settled (d : TrackDetail) : (raiseTrack d s).settled = s.settled := by
  rfl
@[simp] theorem raiseTrack_channels (d : TrackDetail) : (raiseTrack d s).channels = s.channels := by
  rfl
@[simp] theorem raiseTrack_moves (d : TrackDetail) : (raiseTrack d s).moves = s.moves := by
  rfl
@[simp] theorem raiseTrack_crane (d : TrackDetail) : (raiseTrack d s).crane = s.crane := by
  rfl
@[simp] theorem raiseTrack_stops (d : TrackDetail) : (raiseTrack d s).stops = s.stops := by
  rfl
@[simp] theorem raiseTrack_marks (d : TrackDetail) : (raiseTrack d s).marks = s.marks := by
  rfl
@[simp] theorem raiseTrack_takes (d : TrackDetail) : (raiseTrack d s).takes = s.takes := by
  rfl
@[simp] theorem raiseTrack_engine (d : TrackDetail) : (raiseTrack d s).engine = s.engine := by
  rfl
@[simp] theorem raiseTrack_lens (d : TrackDetail) : (raiseTrack d s).lens = s.lens := by
  rfl
@[simp] theorem raiseTrack_link (d : TrackDetail) : (raiseTrack d s).link = s.link := by
  rfl
@[simp] theorem raiseInput_settled : (raiseInput s).settled = s.settled := by
  rfl
@[simp] theorem raiseInput_channels : (raiseInput s).channels = s.channels := by
  rfl
@[simp] theorem raiseInput_moves : (raiseInput s).moves = s.moves := by
  rfl
@[simp] theorem raiseInput_crane : (raiseInput s).crane = s.crane := by
  rfl
@[simp] theorem raiseInput_stops : (raiseInput s).stops = s.stops := by
  rfl
@[simp] theorem raiseInput_marks : (raiseInput s).marks = s.marks := by
  rfl
@[simp] theorem raiseInput_takes : (raiseInput s).takes = s.takes := by
  rfl
@[simp] theorem raiseInput_engine : (raiseInput s).engine = s.engine := by
  rfl
@[simp] theorem raiseInput_lens : (raiseInput s).lens = s.lens := by
  rfl
@[simp] theorem raiseInput_link : (raiseInput s).link = s.link := by
  rfl
@[simp] theorem raiseTakeRunning_settled : (raiseTakeRunning s).settled = s.settled := by
  rfl
@[simp] theorem raiseTakeRunning_channels : (raiseTakeRunning s).channels = s.channels := by
  rfl
@[simp] theorem raiseTakeRunning_moves : (raiseTakeRunning s).moves = s.moves := by
  rfl
@[simp] theorem raiseTakeRunning_crane : (raiseTakeRunning s).crane = s.crane := by
  rfl
@[simp] theorem raiseTakeRunning_stops : (raiseTakeRunning s).stops = s.stops := by
  rfl
@[simp] theorem raiseTakeRunning_marks : (raiseTakeRunning s).marks = s.marks := by
  rfl
@[simp] theorem raiseTakeRunning_takes : (raiseTakeRunning s).takes = s.takes := by
  rfl
@[simp] theorem raiseTakeRunning_engine : (raiseTakeRunning s).engine = s.engine := by
  rfl
@[simp] theorem raiseTakeRunning_lens : (raiseTakeRunning s).lens = s.lens := by
  rfl
@[simp] theorem raiseTakeRunning_link : (raiseTakeRunning s).link = s.link := by
  rfl

/-! ### A list of MOVE notices -/

theorem foldl_raiseMove_settled (r : Bool) (ms : List ConsoleMove) (s : State) :
    (ms.foldl (fun s m => raiseMove ⟨m.mask, r⟩ s) s).settled = s.settled := by
  induction ms generalizing s with
  | nil => rfl
  | cons m ms ih => exact ih _

theorem foldl_raiseMove_channels (r : Bool) (ms : List ConsoleMove) (s : State) :
    (ms.foldl (fun s m => raiseMove ⟨m.mask, r⟩ s) s).channels = s.channels := by
  induction ms generalizing s with
  | nil => rfl
  | cons m ms ih => exact ih _

theorem foldl_raiseMove_moves (r : Bool) (ms : List ConsoleMove) (s : State) :
    (ms.foldl (fun s m => raiseMove ⟨m.mask, r⟩ s) s).moves = s.moves := by
  induction ms generalizing s with
  | nil => rfl
  | cons m ms ih => exact ih _

theorem foldl_raiseMove_crane (r : Bool) (ms : List ConsoleMove) (s : State) :
    (ms.foldl (fun s m => raiseMove ⟨m.mask, r⟩ s) s).crane = s.crane := by
  induction ms generalizing s with
  | nil => rfl
  | cons m ms ih => exact ih _

theorem foldl_raiseMove_stops (r : Bool) (ms : List ConsoleMove) (s : State) :
    (ms.foldl (fun s m => raiseMove ⟨m.mask, r⟩ s) s).stops = s.stops := by
  induction ms generalizing s with
  | nil => rfl
  | cons m ms ih => exact ih _

theorem foldl_raiseMove_marks (r : Bool) (ms : List ConsoleMove) (s : State) :
    (ms.foldl (fun s m => raiseMove ⟨m.mask, r⟩ s) s).marks = s.marks := by
  induction ms generalizing s with
  | nil => rfl
  | cons m ms ih => exact ih _

theorem foldl_raiseMove_takes (r : Bool) (ms : List ConsoleMove) (s : State) :
    (ms.foldl (fun s m => raiseMove ⟨m.mask, r⟩ s) s).takes = s.takes := by
  induction ms generalizing s with
  | nil => rfl
  | cons m ms ih => exact ih _

theorem foldl_raiseMove_engine (r : Bool) (ms : List ConsoleMove) (s : State) :
    (ms.foldl (fun s m => raiseMove ⟨m.mask, r⟩ s) s).engine = s.engine := by
  induction ms generalizing s with
  | nil => rfl
  | cons m ms ih => exact ih _

theorem foldl_raiseMove_lens (r : Bool) (ms : List ConsoleMove) (s : State) :
    (ms.foldl (fun s m => raiseMove ⟨m.mask, r⟩ s) s).lens = s.lens := by
  induction ms generalizing s with
  | nil => rfl
  | cons m ms ih => exact ih _

theorem foldl_raiseMove_link (r : Bool) (ms : List ConsoleMove) (s : State) :
    (ms.foldl (fun s m => raiseMove ⟨m.mask, r⟩ s) s).link = s.link := by
  induction ms generalizing s with
  | nil => rfl
  | cons m ms ih => exact ih _


/-! ### The crane state -/

@[simp] theorem clearRetreat_settled : (clearRetreat s).settled = s.settled := by
  rfl
@[simp] theorem clearRetreat_channels : (clearRetreat s).channels = s.channels := by
  rfl
@[simp] theorem clearRetreat_moves : (clearRetreat s).moves = s.moves := by
  rfl
@[simp] theorem clearRetreat_marks : (clearRetreat s).marks = s.marks := by
  rfl
@[simp] theorem clearRetreat_takes : (clearRetreat s).takes = s.takes := by
  rfl
@[simp] theorem clearRetreat_engine : (clearRetreat s).engine = s.engine := by
  rfl
@[simp] theorem clearRetreat_lens : (clearRetreat s).lens = s.lens := by
  rfl
@[simp] theorem clearRetreat_link : (clearRetreat s).link = s.link := by
  rfl
@[simp] theorem clearRetreat_notices : (clearRetreat s).notices = s.notices := by
  rfl
@[simp] theorem enterCrane_settled (st : CraneState) (x : StateExtra) : (enterCrane st x s).settled = s.settled := by
  simp only [enterCrane, raiseState_settled]; split <;> rfl
@[simp] theorem enterCrane_channels (st : CraneState) (x : StateExtra) : (enterCrane st x s).channels = s.channels := by
  simp only [enterCrane, raiseState_channels]; split <;> rfl
@[simp] theorem enterCrane_moves (st : CraneState) (x : StateExtra) : (enterCrane st x s).moves = s.moves := by
  simp only [enterCrane, raiseState_moves]; split <;> rfl
@[simp] theorem enterCrane_marks (st : CraneState) (x : StateExtra) : (enterCrane st x s).marks = s.marks := by
  simp only [enterCrane, raiseState_marks]; split <;> rfl
@[simp] theorem enterCrane_takes (st : CraneState) (x : StateExtra) : (enterCrane st x s).takes = s.takes := by
  simp only [enterCrane, raiseState_takes]; split <;> rfl
@[simp] theorem enterCrane_engine (st : CraneState) (x : StateExtra) : (enterCrane st x s).engine = s.engine := by
  simp only [enterCrane, raiseState_engine]; split <;> rfl
@[simp] theorem enterCrane_lens (st : CraneState) (x : StateExtra) : (enterCrane st x s).lens = s.lens := by
  simp only [enterCrane, raiseState_lens]; split <;> rfl
@[simp] theorem startParkingSlot_settled (n : Nat) : (startParkingSlot n s).settled = s.settled := by
  rfl
@[simp] theorem startParkingSlot_channels (n : Nat) : (startParkingSlot n s).channels = s.channels := by
  rfl
@[simp] theorem startParkingSlot_moves (n : Nat) : (startParkingSlot n s).moves = s.moves := by
  rfl
@[simp] theorem startParkingSlot_stops (n : Nat) : (startParkingSlot n s).stops = s.stops := by
  rfl
@[simp] theorem startParkingSlot_marks (n : Nat) : (startParkingSlot n s).marks = s.marks := by
  rfl
@[simp] theorem startParkingSlot_takes (n : Nat) : (startParkingSlot n s).takes = s.takes := by
  rfl
@[simp] theorem startParkingSlot_engine (n : Nat) : (startParkingSlot n s).engine = s.engine := by
  rfl
@[simp] theorem startParkingSlot_lens (n : Nat) : (startParkingSlot n s).lens = s.lens := by
  rfl
@[simp] theorem startParkingSlot_link (n : Nat) : (startParkingSlot n s).link = s.link := by
  rfl
@[simp] theorem startParkingSlot_notices (n : Nat) : (startParkingSlot n s).notices = s.notices := by
  rfl
@[simp] theorem clearSequence_settled : (clearSequence s).settled = s.settled := by
  rfl
@[simp] theorem clearSequence_channels : (clearSequence s).channels = s.channels := by
  rfl
@[simp] theorem clearSequence_moves : (clearSequence s).moves = s.moves := by
  rfl
@[simp] theorem clearSequence_stops : (clearSequence s).stops = s.stops := by
  rfl
@[simp] theorem clearSequence_marks : (clearSequence s).marks = s.marks := by
  rfl
@[simp] theorem clearSequence_takes : (clearSequence s).takes = s.takes := by
  rfl
@[simp] theorem clearSequence_engine : (clearSequence s).engine = s.engine := by
  rfl
@[simp] theorem clearSequence_lens : (clearSequence s).lens = s.lens := by
  rfl
@[simp] theorem clearSequence_link : (clearSequence s).link = s.link := by
  rfl
@[simp] theorem clearSequence_notices : (clearSequence s).notices = s.notices := by
  rfl

/-! ### Console moves, releases, tracking -/

@[simp] theorem interruptMoves_settled (hit : Chan → Bool) : (interruptMoves hit s).settled = s.settled := by
  simp only [interruptMoves, foldl_raiseMove_settled]; try rfl
@[simp] theorem interruptMoves_channels (hit : Chan → Bool) : (interruptMoves hit s).channels = s.channels := by
  simp only [interruptMoves, foldl_raiseMove_channels]; try rfl
@[simp] theorem interruptMoves_crane (hit : Chan → Bool) : (interruptMoves hit s).crane = s.crane := by
  simp only [interruptMoves, foldl_raiseMove_crane]; try rfl
@[simp] theorem interruptMoves_stops (hit : Chan → Bool) : (interruptMoves hit s).stops = s.stops := by
  simp only [interruptMoves, foldl_raiseMove_stops]; try rfl
@[simp] theorem interruptMoves_marks (hit : Chan → Bool) : (interruptMoves hit s).marks = s.marks := by
  simp only [interruptMoves, foldl_raiseMove_marks]; try rfl
@[simp] theorem interruptMoves_takes (hit : Chan → Bool) : (interruptMoves hit s).takes = s.takes := by
  simp only [interruptMoves, foldl_raiseMove_takes]; try rfl
@[simp] theorem interruptMoves_engine (hit : Chan → Bool) : (interruptMoves hit s).engine = s.engine := by
  simp only [interruptMoves, foldl_raiseMove_engine]; try rfl
@[simp] theorem interruptMoves_lens (hit : Chan → Bool) : (interruptMoves hit s).lens = s.lens := by
  simp only [interruptMoves, foldl_raiseMove_lens]; try rfl
@[simp] theorem interruptMoves_link (hit : Chan → Bool) : (interruptMoves hit s).link = s.link := by
  simp only [interruptMoves, foldl_raiseMove_link]; try rfl
@[simp] theorem reachMove_settled (c : Chan) : (reachMove c s).settled = s.settled := by
  simp only [reachMove, foldl_raiseMove_settled]; try rfl
@[simp] theorem reachMove_channels (c : Chan) : (reachMove c s).channels = s.channels := by
  simp only [reachMove, foldl_raiseMove_channels]; try rfl
@[simp] theorem reachMove_crane (c : Chan) : (reachMove c s).crane = s.crane := by
  simp only [reachMove, foldl_raiseMove_crane]; try rfl
@[simp] theorem reachMove_stops (c : Chan) : (reachMove c s).stops = s.stops := by
  simp only [reachMove, foldl_raiseMove_stops]; try rfl
@[simp] theorem reachMove_marks (c : Chan) : (reachMove c s).marks = s.marks := by
  simp only [reachMove, foldl_raiseMove_marks]; try rfl
@[simp] theorem reachMove_takes (c : Chan) : (reachMove c s).takes = s.takes := by
  simp only [reachMove, foldl_raiseMove_takes]; try rfl
@[simp] theorem reachMove_engine (c : Chan) : (reachMove c s).engine = s.engine := by
  simp only [reachMove, foldl_raiseMove_engine]; try rfl
@[simp] theorem reachMove_lens (c : Chan) : (reachMove c s).lens = s.lens := by
  simp only [reachMove, foldl_raiseMove_lens]; try rfl
@[simp] theorem reachMove_link (c : Chan) : (reachMove c s).link = s.link := by
  simp only [reachMove, foldl_raiseMove_link]; try rfl
@[simp] theorem releaseOwner_settled (c : Chan) : (releaseOwner c s).settled = s.settled := by
  simp [releaseOwner]
@[simp] theorem releaseOwner_crane (c : Chan) : (releaseOwner c s).crane = s.crane := by
  simp [releaseOwner]
@[simp] theorem releaseOwner_stops (c : Chan) : (releaseOwner c s).stops = s.stops := by
  simp [releaseOwner]
@[simp] theorem releaseOwner_marks (c : Chan) : (releaseOwner c s).marks = s.marks := by
  simp [releaseOwner]
@[simp] theorem releaseOwner_takes (c : Chan) : (releaseOwner c s).takes = s.takes := by
  simp [releaseOwner]
@[simp] theorem releaseOwner_engine (c : Chan) : (releaseOwner c s).engine = s.engine := by
  simp [releaseOwner]
@[simp] theorem releaseOwner_lens (c : Chan) : (releaseOwner c s).lens = s.lens := by
  simp [releaseOwner]
@[simp] theorem releaseOwner_link (c : Chan) : (releaseOwner c s).link = s.link := by
  simp [releaseOwner]
@[simp] theorem trackingOff_settled : (trackingOff s).settled = s.settled := by
  unfold trackingOff; split <;> rfl
@[simp] theorem trackingOff_channels : (trackingOff s).channels = s.channels := by
  unfold trackingOff; split <;> rfl
@[simp] theorem trackingOff_moves : (trackingOff s).moves = s.moves := by
  unfold trackingOff; split <;> rfl
@[simp] theorem trackingOff_crane : (trackingOff s).crane = s.crane := by
  unfold trackingOff; split <;> rfl
@[simp] theorem trackingOff_stops : (trackingOff s).stops = s.stops := by
  unfold trackingOff; split <;> rfl
@[simp] theorem trackingOff_marks : (trackingOff s).marks = s.marks := by
  unfold trackingOff; split <;> rfl
@[simp] theorem trackingOff_takes : (trackingOff s).takes = s.takes := by
  unfold trackingOff; split <;> rfl
@[simp] theorem trackingOff_engine : (trackingOff s).engine = s.engine := by
  unfold trackingOff; split <;> rfl
@[simp] theorem trackingOff_link : (trackingOff s).link = s.link := by
  unfold trackingOff; split <;> rfl

/-! ### The end of a play -/

@[simp] theorem recordPlay_settled (n : Nat) (r : TakeResult) : (recordPlay n r s).settled = s.settled := by
  rfl
@[simp] theorem recordPlay_channels (n : Nat) (r : TakeResult) : (recordPlay n r s).channels = s.channels := by
  rfl
@[simp] theorem recordPlay_moves (n : Nat) (r : TakeResult) : (recordPlay n r s).moves = s.moves := by
  rfl
@[simp] theorem recordPlay_crane (n : Nat) (r : TakeResult) : (recordPlay n r s).crane = s.crane := by
  rfl
@[simp] theorem recordPlay_stops (n : Nat) (r : TakeResult) : (recordPlay n r s).stops = s.stops := by
  rfl
@[simp] theorem recordPlay_engine (n : Nat) (r : TakeResult) : (recordPlay n r s).engine = s.engine := by
  rfl
@[simp] theorem recordPlay_lens (n : Nat) (r : TakeResult) : (recordPlay n r s).lens = s.lens := by
  rfl
@[simp] theorem recordPlay_link (n : Nat) (r : TakeResult) : (recordPlay n r s).link = s.link := by
  rfl
@[simp] theorem recordPlay_notices (n : Nat) (r : TakeResult) : (recordPlay n r s).notices = s.notices := by
  rfl
@[simp] theorem releaseTakeChannels_settled : (releaseTakeChannels s).settled = s.settled := by
  rfl
@[simp] theorem releaseTakeChannels_moves : (releaseTakeChannels s).moves = s.moves := by
  rfl
@[simp] theorem releaseTakeChannels_crane : (releaseTakeChannels s).crane = s.crane := by
  rfl
@[simp] theorem releaseTakeChannels_stops : (releaseTakeChannels s).stops = s.stops := by
  rfl
@[simp] theorem releaseTakeChannels_marks : (releaseTakeChannels s).marks = s.marks := by
  rfl
@[simp] theorem releaseTakeChannels_takes : (releaseTakeChannels s).takes = s.takes := by
  rfl
@[simp] theorem releaseTakeChannels_engine : (releaseTakeChannels s).engine = s.engine := by
  rfl
@[simp] theorem releaseTakeChannels_lens : (releaseTakeChannels s).lens = s.lens := by
  rfl
@[simp] theorem releaseTakeChannels_link : (releaseTakeChannels s).link = s.link := by
  rfl
@[simp] theorem releaseTakeChannels_notices : (releaseTakeChannels s).notices = s.notices := by
  rfl
@[simp] theorem endTake_settled (r : TakeResult) : (endTake r s).settled = s.settled := by
  unfold endTake; split <;> rfl
@[simp] theorem endTake_moves (r : TakeResult) : (endTake r s).moves = s.moves := by
  unfold endTake; split <;> rfl
@[simp] theorem endTake_crane (r : TakeResult) : (endTake r s).crane = s.crane := by
  unfold endTake; split <;> rfl
@[simp] theorem endTake_stops (r : TakeResult) : (endTake r s).stops = s.stops := by
  unfold endTake; split <;> rfl
@[simp] theorem endTake_lens (r : TakeResult) : (endTake r s).lens = s.lens := by
  unfold endTake; split <;> rfl
@[simp] theorem endTake_link (r : TakeResult) : (endTake r s).link = s.link := by
  unfold endTake; split <;> rfl

/-! ### Claims -/

@[simp] theorem overtake_settled (c : Chan) : (overtake c s).settled = s.settled := by
  simp only [overtake]; split <;> simp <;> rfl
@[simp] theorem overtake_moves (c : Chan) : (overtake c s).moves = s.moves := by
  simp only [overtake]; split <;> simp
@[simp] theorem overtake_crane (c : Chan) : (overtake c s).crane = s.crane := by
  simp only [overtake]; split <;> simp
@[simp] theorem overtake_stops (c : Chan) : (overtake c s).stops = s.stops := by
  simp only [overtake]; split <;> simp
@[simp] theorem overtake_lens (c : Chan) : (overtake c s).lens = s.lens := by
  simp only [overtake]; split <;> simp
@[simp] theorem overtake_link (c : Chan) : (overtake c s).link = s.link := by
  simp only [overtake]; split <;> simp
@[simp] theorem reportLoss_settled (p : Party) (c : Chan) (o : Owner) : (reportLoss p c o s).settled = s.settled := by
  unfold reportLoss; (repeat' split) <;> simp
@[simp] theorem reportLoss_crane (p : Party) (c : Chan) (o : Owner) : (reportLoss p c o s).crane = s.crane := by
  unfold reportLoss; (repeat' split) <;> simp
@[simp] theorem reportLoss_stops (p : Party) (c : Chan) (o : Owner) : (reportLoss p c o s).stops = s.stops := by
  unfold reportLoss; (repeat' split) <;> simp
@[simp] theorem reportLoss_link (p : Party) (c : Chan) (o : Owner) : (reportLoss p c o s).link = s.link := by
  unfold reportLoss; (repeat' split) <;> simp
@[simp] theorem grant_settled (p : Party) (m : Mode) (d t : Option Int) (c : Chan) : (grant p m d t c s).settled = s.settled := by
  simp [grant]
@[simp] theorem grant_crane (p : Party) (m : Mode) (d t : Option Int) (c : Chan) : (grant p m d t c s).crane = s.crane := by
  simp [grant]
@[simp] theorem grant_stops (p : Party) (m : Mode) (d t : Option Int) (c : Chan) : (grant p m d t c s).stops = s.stops := by
  simp [grant]
@[simp] theorem grant_link (p : Party) (m : Mode) (d t : Option Int) (c : Chan) : (grant p m d t c s).link = s.link := by
  simp [grant]

/-! ### Stops -/

@[simp] theorem dropChannels_settled : (dropChannels s).settled = s.settled := by
  rfl
@[simp] theorem dropChannels_moves : (dropChannels s).moves = s.moves := by
  rfl
@[simp] theorem dropChannels_crane : (dropChannels s).crane = s.crane := by
  rfl
@[simp] theorem dropChannels_stops : (dropChannels s).stops = s.stops := by
  rfl
@[simp] theorem dropChannels_marks : (dropChannels s).marks = s.marks := by
  rfl
@[simp] theorem dropChannels_takes : (dropChannels s).takes = s.takes := by
  rfl
@[simp] theorem dropChannels_engine : (dropChannels s).engine = s.engine := by
  rfl
@[simp] theorem dropChannels_lens : (dropChannels s).lens = s.lens := by
  rfl
@[simp] theorem dropChannels_link : (dropChannels s).link = s.link := by
  rfl
@[simp] theorem dropChannels_notices : (dropChannels s).notices = s.notices := by
  rfl
@[simp] theorem latchCause_settled (d : CauseDetail) : (latchCause d s).settled = s.settled := by
  unfold latchCause; split <;> rfl
@[simp] theorem latchCause_channels (d : CauseDetail) : (latchCause d s).channels = s.channels := by
  unfold latchCause; split <;> rfl
@[simp] theorem latchCause_moves (d : CauseDetail) : (latchCause d s).moves = s.moves := by
  unfold latchCause; split <;> rfl
@[simp] theorem latchCause_crane (d : CauseDetail) : (latchCause d s).crane = s.crane := by
  unfold latchCause; split <;> rfl
@[simp] theorem latchCause_marks (d : CauseDetail) : (latchCause d s).marks = s.marks := by
  unfold latchCause; split <;> rfl
@[simp] theorem latchCause_takes (d : CauseDetail) : (latchCause d s).takes = s.takes := by
  unfold latchCause; split <;> rfl
@[simp] theorem latchCause_engine (d : CauseDetail) : (latchCause d s).engine = s.engine := by
  unfold latchCause; split <;> rfl
@[simp] theorem latchCause_lens (d : CauseDetail) : (latchCause d s).lens = s.lens := by
  unfold latchCause; split <;> rfl
@[simp] theorem latchCause_link (d : CauseDetail) : (latchCause d s).link = s.link := by
  unfold latchCause; split <;> rfl
@[simp] theorem latchCause_notices (d : CauseDetail) : (latchCause d s).notices = s.notices := by
  unfold latchCause; split <;> rfl
@[simp] theorem entryA_settled : (entryA s).settled = s.settled := by
  simp only [entryA, enterCrane_settled, clearSequence_settled]; exact (trackingOff_settled _).trans ((endTake_settled _ _).trans ((interruptMoves_settled _ _).trans rfl))
@[simp] theorem restLens_settled : (restLens s).settled = s.settled := by
  simp [restLens]
@[simp] theorem restLens_crane : (restLens s).crane = s.crane := by
  simp [restLens]
@[simp] theorem restLens_stops : (restLens s).stops = s.stops := by
  simp [restLens]
@[simp] theorem restLens_marks : (restLens s).marks = s.marks := by
  simp [restLens]
@[simp] theorem restLens_takes : (restLens s).takes = s.takes := by
  simp [restLens]
@[simp] theorem restLens_engine : (restLens s).engine = s.engine := by
  simp [restLens]
@[simp] theorem restLens_lens : (restLens s).lens = s.lens := by
  simp [restLens]
@[simp] theorem restLens_link : (restLens s).link = s.link := by
  simp [restLens]
@[simp] theorem entryBReady_settled : (entryBReady s).settled = s.settled := by
  simp only [entryBReady, enterCrane_settled]; exact (endTake_settled _ _).trans ((interruptMoves_settled _ _).trans rfl)
@[simp] theorem entryBReady_lens : (entryBReady s).lens = s.lens := by
  simp only [entryBReady, enterCrane_lens]; exact (endTake_lens _ _).trans ((interruptMoves_lens _ _).trans rfl)
@[simp] theorem stopLiveHead_settled : (stopLiveHead s).settled = s.settled := by
  simp [stopLiveHead]
@[simp] theorem stopLiveHead_crane : (stopLiveHead s).crane = s.crane := by
  simp [stopLiveHead]
@[simp] theorem stopLiveHead_stops : (stopLiveHead s).stops = s.stops := by
  simp [stopLiveHead]
@[simp] theorem stopLiveHead_marks : (stopLiveHead s).marks = s.marks := by
  simp [stopLiveHead]
@[simp] theorem stopLiveHead_takes : (stopLiveHead s).takes = s.takes := by
  simp [stopLiveHead]
@[simp] theorem stopLiveHead_engine : (stopLiveHead s).engine = s.engine := by
  simp [stopLiveHead]
@[simp] theorem stopLiveHead_lens : (stopLiveHead s).lens = s.lens := by
  simp [stopLiveHead]
@[simp] theorem stopLiveHead_link : (stopLiveHead s).link = s.link := by
  simp [stopLiveHead]
@[simp] theorem entryBArming_settled : (entryBArming s).settled = s.settled := by
  simp only [entryBArming, enterCrane_settled, startParkingSlot_settled]; exact stopLiveHead_settled s
@[simp] theorem entryBArming_marks : (entryBArming s).marks = s.marks := by
  simp only [entryBArming, enterCrane_marks, startParkingSlot_marks]; exact stopLiveHead_marks s
@[simp] theorem entryBArming_takes : (entryBArming s).takes = s.takes := by
  simp only [entryBArming, enterCrane_takes, startParkingSlot_takes]; exact stopLiveHead_takes s
@[simp] theorem entryBArming_engine : (entryBArming s).engine = s.engine := by
  simp only [entryBArming, enterCrane_engine, startParkingSlot_engine]; exact stopLiveHead_engine s
@[simp] theorem entryBArming_lens : (entryBArming s).lens = s.lens := by
  simp only [entryBArming, enterCrane_lens, startParkingSlot_lens]; exact stopLiveHead_lens s
@[simp] theorem entryB_settled : (entryB s).settled = s.settled := by
  unfold entryB; split <;> simp
@[simp] theorem entryB_lens : (entryB s).lens = s.lens := by
  unfold entryB; split <;> simp
@[simp] theorem actOnCrane_settled (d : CauseDetail) : (actOnCrane d s).settled = s.settled := by
  simp only [actOnCrane]; (repeat' split) <;> simp
@[simp] theorem rise_settled (d : CauseDetail) : (rise d s).settled = s.settled := by
  simp only [rise]; (repeat' split) <;> simp

/-! ### The link -/

@[simp] theorem serveSupervision_settled : (serveSupervision s).settled = s.settled := by
  rfl
@[simp] theorem serveSupervision_channels : (serveSupervision s).channels = s.channels := by
  rfl
@[simp] theorem serveSupervision_moves : (serveSupervision s).moves = s.moves := by
  rfl
@[simp] theorem serveSupervision_crane : (serveSupervision s).crane = s.crane := by
  rfl
@[simp] theorem serveSupervision_marks : (serveSupervision s).marks = s.marks := by
  rfl
@[simp] theorem serveSupervision_takes : (serveSupervision s).takes = s.takes := by
  rfl
@[simp] theorem serveSupervision_engine : (serveSupervision s).engine = s.engine := by
  rfl
@[simp] theorem serveSupervision_lens : (serveSupervision s).lens = s.lens := by
  rfl
@[simp] theorem serveSupervision_notices : (serveSupervision s).notices = s.notices := by
  rfl
@[simp] theorem sendReply_settled (r : Reply) : (sendReply r s).settled = s.settled := by
  rfl
@[simp] theorem sendReply_channels (r : Reply) : (sendReply r s).channels = s.channels := by
  rfl
@[simp] theorem sendReply_moves (r : Reply) : (sendReply r s).moves = s.moves := by
  rfl
@[simp] theorem sendReply_crane (r : Reply) : (sendReply r s).crane = s.crane := by
  rfl
@[simp] theorem sendReply_stops (r : Reply) : (sendReply r s).stops = s.stops := by
  rfl
@[simp] theorem sendReply_marks (r : Reply) : (sendReply r s).marks = s.marks := by
  rfl
@[simp] theorem sendReply_takes (r : Reply) : (sendReply r s).takes = s.takes := by
  rfl
@[simp] theorem sendReply_engine (r : Reply) : (sendReply r s).engine = s.engine := by
  rfl
@[simp] theorem sendReply_lens (r : Reply) : (sendReply r s).lens = s.lens := by
  rfl
@[simp] theorem sendReply_notices (r : Reply) : (sendReply r s).notices = s.notices := by
  rfl
@[simp] theorem endBroadcast_settled (b : List Byte) : (endBroadcast b s).settled = s.settled := by
  rfl
@[simp] theorem endBroadcast_channels (b : List Byte) : (endBroadcast b s).channels = s.channels := by
  rfl
@[simp] theorem endBroadcast_moves (b : List Byte) : (endBroadcast b s).moves = s.moves := by
  rfl
@[simp] theorem endBroadcast_crane (b : List Byte) : (endBroadcast b s).crane = s.crane := by
  rfl
@[simp] theorem endBroadcast_stops (b : List Byte) : (endBroadcast b s).stops = s.stops := by
  rfl
@[simp] theorem endBroadcast_marks (b : List Byte) : (endBroadcast b s).marks = s.marks := by
  rfl
@[simp] theorem endBroadcast_takes (b : List Byte) : (endBroadcast b s).takes = s.takes := by
  rfl
@[simp] theorem endBroadcast_engine (b : List Byte) : (endBroadcast b s).engine = s.engine := by
  rfl
@[simp] theorem endBroadcast_lens (b : List Byte) : (endBroadcast b s).lens = s.lens := by
  rfl
@[simp] theorem endBroadcast_notices (b : List Byte) : (endBroadcast b s).notices = s.notices := by
  rfl

end Sys2Proof.Machine
end

