-- ==== Sys2Proof/Laws/Ops.lean ====
section
/-! SUPPORT. What the shared operations do: one lemma for each, to be cited in place of an unfolding. -/

namespace Sys2Proof.Machine

variable (s : State)

/-! ## Acceptance and events -/

/-- A frame that can be received: the request runs after the supervision, and its reply is sent (R177, R178). -/
theorem acceptUnit_of_canReceive (f : State → State × Reply) (h : s.canReceive = true) :
    acceptUnit f s = sendReply (f (serveSupervision s)).2 (f (serveSupervision s)).1 := by simp [acceptUnit, h]

theorem acceptUnit_of_not (f : State → State × Reply) (h : s.canReceive = false) : acceptUnit f s = s := by
  simp [acceptUnit, h]

theorem acceptBroadcast_of_canReceive (b : List Byte) (f : State → State × Reply) (h : s.canReceive = true) :
    acceptBroadcast b f s = endBroadcast b (f (serveSupervision s)).1 := by simp [acceptBroadcast, h]

@[simp] theorem whileRunning_of_running (f : State → State) (h : s.running = true) : whileRunning f s = f s := by
  simp [whileRunning, h]

@[simp] theorem whileRunning_of_not (f : State → State) (h : s.running = false) : whileRunning f s = s := by
  simp [whileRunning, h]

/-- A named event that comes about is the periodic event (log entry 5). -/
theorem eventOf_of_happens (tick : State → State) (p : State → State → Bool) (h : s.running = true)
    (hp : p s (tick s) = true) : eventOf tick p s = tick s := by simp [eventOf, whileRunning, h, hp]

theorem running_of_canReceive (h : s.canReceive = true) : s.running = true := by
  simp [State.canReceive] at h; exact h.1

@[simp] theorem canReceive_serve (h : s.canReceive = true) : (serveSupervision s).running = true := by
  have := running_of_canReceive s h; simpa [State.running, serveSupervision, setCondition] using this

/-- R177, R182 to R184: all that the acceptance of a frame does before its request is taken. -/
theorem serveSupervision_eq : serveSupervision s =
    { servedBy s s with
      link := { s.link with periodic := .running 0 s.config.supervisionPeriod, noticeTimer := servedTimer s } } := by
  have h : (s.link.periodic = .disarmed ∨ s.stops.conditions.link ≠ none) ↔
      (!armed s.link || s.stops.conditions.link.isSome) = true := by
    simp [armed, Option.ne_none_iff_isSome]
  cases hm : s.config.supervisionMode <;>
    simp [serveSupervision, servedTimer, servedBy, setCondition, setCause, hm, h, noticeTimerIfPending, timerFor,
      watchedPending]

/-- R183: a raise of STATE or ZONE starts the notice timer at 0 where it is to start, and changes nothing else of the link. -/
theorem startNoticeTimer_link : (startNoticeTimer s).link =
    if s.config.supervisionMode = .periodicNotice ∧ armed s.link = true ∧ watchedPending s.notices = false ∧
        s.stops.conditions.link = none then
      { s.link with noticeTimer := .running 0 s.config.supervisionPeriod }
    else s.link := by
  unfold startNoticeTimer; split <;> rfl

/-- R183: what a NOTICE that has read source k does to the notice timer. -/
theorem serveNoticeTimer_link (k : Source) : (serveNoticeTimer k s).link =
    if (k = .state ∨ k = .zone) ∧ s.config.supervisionMode = .periodicNotice then
      { s.link with noticeTimer := timerFor s.config.supervisionPeriod s.notices }
    else s.link := by
  unfold serveNoticeTimer noticeTimerIfPending timerFor watchedPending; split <;> rfl

/-! ## Notices and the crane state -/

theorem raiseState_notices (d : StateDetail) :
    (raiseState d s).notices = withAttn { s.notices with state := ⟨some d, s.notices.state.detail.isSome⟩ } := by
  simp [raiseState, raised]

theorem raiseTake_notices (d : TakeDetail) :
    (raiseTake d s).notices = withAttn { s.notices with take := ⟨some d, s.notices.take.detail.isSome⟩ } := rfl

theorem raiseMove_notices (d : MoveDetail) :
    (raiseMove d s).notices = withAttn { s.notices with move := ⟨some d, s.notices.move.detail.isSome⟩ } := rfl

@[simp] theorem enterCrane_state (st : CraneState) (x : StateExtra) : (enterCrane st x s).crane.state = st := by
  simp [enterCrane]

/-- R43: leaving READY clears RETREAT and empties its set; any other change leaves both. -/
theorem enterCrane_retreat (st : CraneState) (x : StateExtra) :
    (enterCrane st x s).crane.retreat = (if s.crane.state = .ready ∧ st ≠ .ready then false else s.crane.retreat) ∧
      (enterCrane st x s).stops.retreatSet =
        (if s.crane.state = .ready ∧ st ≠ .ready then [] else s.stops.retreatSet) := by
  by_cases h : s.crane.state = .ready ∧ st ≠ .ready <;> simp [enterCrane, h, clearRetreat]

/-- R31: the STATE notice of a change carries the new state and the first cause. -/
theorem enterCrane_notice (st : CraneState) (x : StateExtra) :
    (enterCrane st x s).notices.state.detail = some ⟨st, s.stops.first, x⟩ := by
  by_cases h : s.crane.state = .ready ∧ st ≠ .ready <;> simp [enterCrane, h, clearRetreat, raiseState_notices]

/-! ## Channels -/

theorem releaseChannel_owner (r : Channel) : (releaseChannel r).owner = .none := by
  unfold releaseChannel; split <;> rfl

theorem releaseChannel_velocity (r : Channel) : (releaseChannel r).velocity = r.velocity := by
  unfold releaseChannel; split
  · next h => simp [holdChannel, h]
  · rfl

theorem releaseChannel_setpoint (r : Channel) :
    (releaseChannel r).setpoint = r.setpoint ∧ (releaseChannel r).drive = r.drive ∧
      (releaseChannel r).commanded = r.commanded := by
  unfold releaseChannel; split <;> exact ⟨rfl, rfl, rfl⟩

theorem stopChannel_owner (r : Channel) : (stopChannel r).owner = .none := by
  unfold stopChannel; split <;> rfl

/-- R18: what a granted claim writes of the channel. -/
theorem grantRecord_eq (p : Party) (m : Mode) (d t : Option Int) (r : Channel) :
    (grantRecord p m d t r).owner = partyOwner p ∧ (grantRecord p m d t r).mode = m ∧
      (grantRecord p m d t r).velocity = r.velocity ∧ (grantRecord p m d t r).setpoint = r.setpoint :=
  ⟨rfl, rfl, rfl, rfl⟩

/-- R8: with limits in order a clamped value never lies further outside than the setpoint it is clamped from (log entry 27). -/
theorem furtherOutside_clampInt {lo hi : Int} (h : lo ≤ hi) (old w : Int) :
    furtherOutside lo hi old (clampInt lo hi w) = false := by
  simp only [furtherOutside, clampInt]
  split
  · simp; omega
  · split <;> simp <;> omega

/-- R8: what taking a path value does: the barred step keeps setpoint and fraction, any other goes to the clamped value. -/
theorem takePath_cases {lo hi : Int} (h : lo ≤ hi) (w : Int) (r : Channel) :
    (inhibited r (clampInt lo hi w - r.setpoint) = true ∧ (takePath lo hi w r).setpoint = r.setpoint ∧
        (takePath lo hi w r).fraction = r.fraction ∧ (takePath lo hi w r).velocity = 0) ∨
      (inhibited r (clampInt lo hi w - r.setpoint) = false ∧ (takePath lo hi w r).setpoint = clampInt lo hi w ∧
        (takePath lo hi w r).fraction = 0 ∧
        (takePath lo hi w r).velocity = (clampInt lo hi w - r.setpoint) * 1000) := by
  cases hi' : inhibited r (clampInt lo hi w - r.setpoint) <;> simp [takePath, furtherOutside_clampInt h, hi']

/-- R2, R3, R9: the update of a channel whose drive is not ACTIVE: HOLD, and OUTSIDE as before until a good reply (log
entry 28). -/
theorem restChannel_outside (lo hi : Int) (r : Channel) :
    (restChannel lo hi r).outside = if r.known = true then outsideOf lo hi r.setpoint else r.outside := by
  cases h : r.known <;> simp [restChannel, h, holdChannel]

@[simp] theorem chan_runProfiles (c : Chan) : (runProfiles s).chan c =
    profile c (s.cfg c) (s.lo c) (s.hi c) s.zoneMonitor.scale (s.engine.path.get c) (s.chan c) :=
  chan_mapChannels s c _

/-- R8: the profiles change the channels, and note that every path value has been taken. -/
theorem runProfiles_frame : runProfiles s =
    { s with channels := (runProfiles s).channels, engine := { s.engine with untaken := noChannels } } := rfl

/-! ## Ends -/

/-- R153, step 2: a value that an update has taken is not taken again (log entry 33). -/
@[simp] theorem takeWritten_taken (lo hi : Int) (w : Option Int) (r : Channel) : takeWritten lo hi w false r = r := by
  cases w <;> rfl

@[simp] theorem takeWritten_untaken (lo hi w : Int) (r : Channel) : takeWritten lo hi (some w) true r = takePath lo hi w r :=
  rfl


theorem endTake_idle (r : TakeResult) (h : s.engine.take = none) : endTake r s = s := by simp [endTake, h]

/-- R153, step 3: the engine record after the end step. -/
theorem endTake_engine (r : TakeResult) (n : Nat) (h : s.engine.take = some n) :
    (endTake r s).engine = engineIdle s.engine := by simp [endTake, h]

/-- R153, step 2: the channels after the end step. -/
theorem endTake_chan (r : TakeResult) (n : Nat) (h : s.engine.take = some n) (c : Chan)
    (hc : s.engine.set.get c = false ∨ (s.chan c).owner ≠ .take) : (endTake r s).chan c = s.chan c := by
  have e : (endTake r s).channels = (releaseTakeChannels (recordPlay n r s)).channels := by simp [endTake, h]
  show (endTake r s).channels.get c = _
  rw [e]
  show (releaseTakeChannels (recordPlay n r s)).chan c = _
  simp only [releaseTakeChannels, chan_mapChannels]
  have h1 : (recordPlay n r s).engine = s.engine := rfl
  have h2 : (recordPlay n r s).chan c = s.chan c := rfl
  rw [h1, h2]
  rcases hc with hc | hc <;> simp [hc]

theorem trackingOff_state : (trackingOff s).lens.tracking.state = .off := by
  unfold trackingOff; split
  · next h => simpa using h
  · rfl

/-! ## Causes -/

/-- R90: after a latching rise the cause's latch is set, with the detail it had or else the new one. -/
theorem latchCause_latches (d : CauseDetail) :
    getCause (latchCause d s).stops.latches (causeOf d) =
      some ((getCause s.stops.latches (causeOf d)).getD d) := by
  unfold latchCause
  cases h : getCause s.stops.latches (causeOf d) <;> simp [h]

/-- R91: the first cause is recorded by the rise that finds no latch set. -/
theorem latchCause_first (d : CauseDetail) (h : noneLatched s.stops.latches = true) :
    (latchCause d s).stops.first = some d := by
  have hk : getCause s.stops.latches (causeOf d) = none := by
    cases e : getCause s.stops.latches (causeOf d) with
    | none => rfl
    | some x => cases d <;> simp_all [noneLatched, allCauses, causeOf]
  simp [latchCause, hk, h]

/-- R90: a rise that does not latch changes nothing. -/
theorem rise_of_not_latches (d : CauseDetail) (h : latches d s.crane.state = false) : rise d s = s := by
  simp [rise, h]

/-- R93: after the category A entry the crane is TRIPPED and no drive is commanded. -/
theorem entryA_state : (entryA s).crane.state = .tripped := by simp [entryA]

/-- R85: what a sample does to the discrepancy record, by the two filtered contacts. -/
theorem stepDiscrepancy_cases (r : StopRecord) :
    (r.estop1.filtered = true ∧ r.estop2.filtered = true ∧
        stepDiscrepancy r = { r with discrepancyTimer := none, bothOpenSeen := true }) ∨
      (r.estop1.filtered = false ∧ r.estop2.filtered = false ∧
        stepDiscrepancy r = { r with
          discrepancyTimer := none, bothOpenSeen := false, discrepancy := r.discrepancy && !r.bothOpenSeen }) ∨
      (r.estop1.filtered ≠ r.estop2.filtered ∧
        stepDiscrepancy r = if r.discrepancy = true then { r with discrepancyTimer := none } else stepDiscrepancyTimer r) := by
  cases h1 : r.estop1.filtered <;> cases h2 : r.estop2.filtered <;> simp [stepDiscrepancy, h1, h2]
  cases r.bothOpenSeen <;> simp

/-! ## Tables -/

theorem find_eraseKey_self {α : Type} (key : α → Nat) (n : Nat) (xs : List α) :
    (eraseKey key n xs).find? (fun x => key x == n) = none := by
  simp [eraseKey, List.find?_eq_none]

theorem find_eraseKey_other {α : Type} (key : α → Nat) {n k : Nat} (h : k ≠ n) (xs : List α) :
    (eraseKey key n xs).find? (fun x => key x == k) = xs.find? (fun x => key x == k) := by
  induction xs with
  | nil => rfl
  | cons x xs ih =>
    by_cases hx : key x = n
    · have : ¬ key x = k := by omega
      simp_all [eraseKey]
    · by_cases hk : key x = k <;> simp_all [eraseKey]

theorem find_upsert_self {α : Type} (key : α → Nat) (x : α) (xs : List α) :
    (upsert key x xs).find? (fun y => key y == key x) = some x := by
  induction xs with
  | nil => simp [upsert]
  | cons y ys ih =>
    simp only [upsert]
    split
    · simp
    · split
      · simp
      · next h1 h2 =>
        have : ¬ key y = key x := fun e => h2 e.symm
        simp [this, ih]

theorem find_upsert_other {α : Type} (key : α → Nat) (x : α) {k : Nat} (h : k ≠ key x) (xs : List α) :
    (upsert key x xs).find? (fun y => key y == k) = xs.find? (fun y => key y == k) := by
  have hx : ¬ key x = k := fun e => h e.symm
  induction xs with
  | nil => simp [upsert, hx]
  | cons y ys ih =>
    simp only [upsert]
    split
    · simp [List.find?_cons, hx]
    · split
      · next h2 =>
        have : ¬ key y = k := by omega
        simp [hx, this]
      · by_cases hk : key y = k <;> simp [hk, ih]

/-! ## Wheels and timed inputs -/

/-- R23: `tickIdle` in the words of the claims. -/
theorem tickIdle_eq (limit : Nat) (x : Option Nat) : tickIdle limit x = idleAfter limit x := by cases x <;> rfl

/-- R7: `arrive` in the words of the claims. -/
theorem arrive_eq (accel : Nat) (target : Int) (r : Channel) : arrive accel target r = arrivedRecord accel target r := rfl

/-- R22: a hand-over writes no other wheel. -/
theorem handOver_other (i j : Fin 4) (h : j ≠ i) : (handOver i s).wheels.get j = s.wheels.get j := by
  have hset (w : WheelInput) : (s.wheels.set i w).get j = s.wheels.get j := by simp [h]
  unfold handOver
  dsimp only
  split
  · exact hset _
  · split
    · exact hset _
    · split
      · exact hset _
      · rw [(settled_eq_iff.1 (grant_settled _ _ _ _ _ _)).2.1]
        exact hset _

/-- R22, R23: a wheel that is still, or has no channel or no gain, loses its count and touches only its own record. -/
theorem handOver_still (i : Fin 4)
    (h : (s.wheels.get i).channel = none ∨ (s.wheels.get i).gain = 0 ∨ (s.wheels.get i).counter = 0) :
    handOver i s = { s with
      wheels := s.wheels.set i
        ({ (s.wheels.get i) with counter := 0, idle := idleAfter s.config.wheelIdle (s.wheels.get i).idle }) } := by
  unfold handOver
  simp only [tickIdle_eq]
  split
  · rfl
  · rename_i c hc
    rw [if_pos (h.resolve_left (by simp [hc]))]

/-- R99: below its expiry the deadline timer rises in STOPPING, and stands in every other state. -/
theorem stepDeadline_running (d : RunningTimer) (h : s.stops.deadlineTimer = some d) (hd : d.elapsed + 1 < d.expiry) :
    stepDeadline s = if s.crane.state = .stopping then
      { s with stops := { s.stops with deadlineTimer := some { d with elapsed := d.elapsed + 1 } } } else s := by
  by_cases hs : s.crane.state = .stopping <;> simp [stepDeadline, h, hs, hd]

/-- R83: below 250 the age of FRAME present rises (log entry 9). -/
theorem stepFrame_running (h : s.stops.frame.present = true) (hd : s.stops.frame.age + 1 < 250) :
    stepFrame s = { s with stops := { s.stops with frame := { s.stops.frame with age := s.stops.frame.age + 1 } } } := by
  simp [stepFrame, h, hd]

theorem stepFrame_absent (h : s.stops.frame.present = false) : stepFrame s = s := by simp [stepFrame, h]

/-! ## Zones -/

/-- R76: the pair found is a zone's, no zone contributes less, and each zone before it in the list more. -/
theorem leastContribution_some (zs : List Zone) {n c : Nat} (h : leastContribution zs = some (n, c)) :
    ∃ before z after, zs = before ++ z :: after ∧ z.number = n ∧ z.contribution = some c ∧
      (∀ y ∈ before, ∀ k, y.contribution = some k → c < k) ∧ ∀ y ∈ after, ∀ k, y.contribution = some k → c ≤ k := by
  induction zs generalizing n c with
  | nil => simp [leastContribution] at h
  | cons z zs ih =>
    have none_all : ∀ ys : List Zone, leastContribution ys = none → ∀ y ∈ ys, y.contribution = none := by
      intro ys
      induction ys with
      | nil => simp
      | cons y ys ih =>
        simp only [leastContribution]
        cases hy : y.contribution <;> cases hl : leastContribution ys <;> simp [hy] <;> grind
    simp only [leastContribution] at h
    cases hz : z.contribution with
    | none =>
      simp only [hz] at h
      obtain ⟨b, y, a, rfl, hn, hc, hb, ha⟩ := ih h
      exact ⟨z :: b, y, a, rfl, hn, hc, by simpa [hz] using hb, ha⟩
    | some d =>
      cases hl : leastContribution zs with
      | none =>
        simp only [hz, hl, Option.some.injEq, Prod.mk.injEq] at h
        obtain ⟨rfl, rfl⟩ := h
        exact ⟨[], z, zs, rfl, rfl, hz, by simp, fun y hy k hk => by simp [none_all zs hl y hy] at hk⟩
      | some p =>
        obtain ⟨b, y, a, rfl, hn, hc, hb, ha⟩ := ih (n := p.1) (c := p.2) hl
        simp only [hz, hl] at h
        by_cases hle : d ≤ p.2
        · rw [if_pos hle] at h
          simp only [Option.some.injEq, Prod.mk.injEq] at h
          obtain ⟨rfl, rfl⟩ := h
          refine ⟨[], z, b ++ y :: a, rfl, rfl, hz, by simp, fun x hx k hk => ?_⟩
          rcases List.mem_append.1 hx with hx | hx
          · exact Nat.le_trans hle (Nat.le_of_lt (hb x hx k hk))
          · rcases List.mem_cons.1 hx with rfl | hx
            · rw [hc] at hk; exact (Option.some.inj hk) ▸ hle
            · exact Nat.le_trans hle (ha x hx k hk)
        · rw [if_neg hle] at h
          simp only [Option.some.injEq, Prod.mk.injEq] at h
          obtain ⟨rfl, rfl⟩ := h
          refine ⟨z :: b, y, a, rfl, hn, hc, fun x hx k hk => ?_, ha⟩
          rcases List.mem_cons.1 hx with rfl | hx
          · rw [hz] at hk; exact (Option.some.inj hk) ▸ Nat.lt_of_not_le hle
          · exact hb x hx k hk

end Sys2Proof.Machine
end

