-- ==== Sys2Proof/Tests/Slice0.lean ====
section
/-! SUPPORT. Small tests: ill-formed commands, the manual's worked examples (the section of each stands beside it),
and for each statement with hypotheses a state and operands that meet them. -/

namespace Sys2Proof.Tests

open Sys2Proof.Machine

/-! ## Helpers -/

/-- The state that a command answers. -/
def after (i : Instr) (s : State) : State :=
  match exec i s with
  | .next t => t
  | .fault _ => s
  | .refused _ => s

/-- The result code of the reply that stands in the buffer. -/
def resultOf (s : State) : Byte := s.link.buffer.getD 1 0xFF#8

/-- READY with GRIP held, every drive ACTIVE, every brake released, the head point valid, no notice pending. -/
def live : State :=
  { State.reset with
    crane := ⟨.ready, false, none, 0, .none, .ofFn fun _ => false⟩
    channels := .ofFn fun _ => { resetChannel with drive := .active, commanded := true, known := true }
    stops := { resetStops with grip := steadyFilter true }
    head := ⟨82663, 32663, 34135, true⟩
    zoneMonitor := ⟨[], 1024, none⟩
    notices := { resetNotices .cold with state := ⟨none, false⟩, attn := false } }

/-- `live` with one channel record in place. -/
def liveWith (c : Chan) (r : Channel) : State := live.setChan c r

/-- A channel of an ACTIVE drive in HOLD at a setpoint. -/
def heldAt (setpoint : Int) : Channel :=
  { resetChannel with drive := .active, commanded := true, known := true, setpoint := setpoint }

/-- A channel that CONSOLE jogs. -/
def jogged (setpoint : Int) (fraction : Nat) (velocity demand : Int) : Channel :=
  { heldAt setpoint with
    fraction := fraction, velocity := velocity, owner := .console, mode := .velocity, demand := some demand }

/-- A channel that CONSOLE brings to a target. -/
def sentTo (setpoint target : Int) : Channel :=
  { heldAt setpoint with owner := .console, mode := .position, target := some target }

/-- Mark 5 with TRACK at 1000, not locked, named by two cues of `oneTake`. -/
def oneMark : Mark := ⟨5, 7#16, .ofFn fun c => if c = .track then some 1000 else none, 2, false⟩

def oneCue : Cue := ⟨5, 2000, 0, .linear, 1#16⟩

/-- Take 3 with two cues on mark 5. -/
def oneTake : Take := ⟨3, 9#16, [oneCue, oneCue], .none, 0, 0, false⟩

/-- `live` with one mark and one take. -/
def stored : State := { live with marks := [oneMark], takes := [oneTake] }

/-- `stored` with take 3 armed: TAKE owns TRACK and the cue-in runs. -/
def cueing : State := { after (.takeArm 3#8) stored with link := State.reset.link }

/-- `cueing` in the given engine state, at cue 2. -/
def inPlay (e : EngineState) (index time : Nat) : State :=
  { cueing with engine := { cueing.engine with state := e, cueIndex := index, cueTime := time, frameWait := some 249 } }

/-! ## Well-formedness -/

set_option maxRecDepth 4000 in
theorem test_longFrame_refused : fitsFrame (.unknownCode 0#8 (List.replicate 250 0#8)) = false := by decide
theorem test_shortGoto_refused : countsMatch (.goto 3#16 [0#32]) = false := by decide
theorem test_shortLensMap_refused :
    countsMatch (.lensMapSet ⟨0#8, 0#16, 2#8, 0#8, 0#16, 0#16, 0#16, 0#16, [⟨100#32, 0#16⟩]⟩) = false := by decide
theorem test_knownCode_refused : noRequest (.unknownCode 0x01#8 []) = false := by decide
theorem test_stopBroadcast_refused : noRequest (.broadcastIgnored 0x20#8 []) = false := by decide
theorem test_shortReply_refused : drivesWellFormed (.driveExchange (.ofFn fun _ => some [0#8])) = false := by decide
theorem test_wellFormed_accepts : wellFormed (.goto 3#16 [0#32, 1#32]) = true := by decide
theorem test_noTableBits : decodeTableWord 8 1 = none ∧ live.withFetchWord 8 1 = live := by decide

/-! ## Arithmetic: sections 3.1, 3.2, 3.4 and 1.5 -/

set_option maxRecDepth 4000 in
theorem test_sineTable : sineTable.length = 257 ∧ sineEntry 64 = 6270 ∧ sineEntry 127 = 11514 ∧ sineEntry 256 = 16384 := by
  decide
theorem test_sineLookups : [sine 100, sine 96, sine 127, sine 128, sine (-100), sine (-8192)] =
    [157, 151, 199, 201, -157, -11585] := by decide
theorem test_cosineLookups : [cosine 16284, cosine 4096, cosine 8192, cosine (-8192)] = [157, 15137, 11585, 11585] := by
  decide
theorem test_roundProduct : [roundProduct 8191, roundProduct 8192, roundProduct (-8192), roundProduct (-8193)] =
    [0, 1, 0, -1] := by decide
theorem test_headPoint : headPoint 30000 15000 50000 8192 4096 20000 true = ⟨82663, 32663, 34135, true⟩ ∧
    headPoint 30000 15000 50000 (-8192) 4096 20000 true = ⟨82663, -32663, 34135, true⟩ := by decide
theorem test_isqrt : [16000, 15936000, 16000000, 2499999999, 2500000000, 2 ^ 64 - 1].map isqrt =
    [126, 3991, 4000, 49999, 50000, 4294967295] := by decide
theorem test_focusDistance : focusDistance ⟨82663, 32663, 34135, true⟩ ⟨2, 112663, 72663, 34135, 200, 0⟩ = 5000 := by decide

/-- Bank 1 of section 9.2. -/
def map35 : LensMap :=
  ⟨35#16, [⟨600, 58000⟩, ⟨1000, 47500⟩, ⟨3000, 36000⟩, ⟨8000, 26000⟩, ⟨20000, 12000⟩, ⟨100000, 4000⟩],
    some ⟨2000, 60000⟩, none⟩

theorem test_focusLookups : [5000, 5001, 2000, 13000, 500, 100000, 101000].map (focusLookup map35.points) =
    [(32000, false), (31998, false), (41750, false), (20167, false), (58000, true), (4000, false), (4000, true)] := by
  decide
theorem test_interpolation : interpolate 1000 9000 (pathFraction .linear (progress 512000 2048000)) = 3000 ∧
    interpolate 1000 9000 (pathFraction .ease (progress 512000 2048000)) = 2250 ∧
    interpolate 1000 9000 (pathFraction .ease (progress 1024000 2048000)) = 5000 := by decide
theorem test_checkByte : checkByte [4#8, 0x22#8, 200#8, 200#8, 28#8] = 46#8 := by decide

/-! ## Channels: sections 1.2, 1.5 and 1.6 -/

theorem test_scaledStep :
    let s := after .channelUpdate { liveWith .swing (jogged 1000 0 800 2000) with zoneMonitor := ⟨[], 418, none⟩ }
    ((s.chan .swing).velocity, (s.chan .swing).setpoint, (s.chan .swing).fraction) = (816, 1000, 816) := by decide
theorem test_braking :
    let s := after .channelUpdate (liveWith .boom (jogged 11288 0 4096 4096))
    ((s.chan .boom).velocity, (s.chan .boom).setpoint, (s.chan .boom).fraction) = (4088, 11292, 88) := by decide
theorem test_limitClamp :
    let s := after .channelUpdate (liveWith .boom (jogged 12287 900 200 4096))
    ((s.chan .boom).velocity, (s.chan .boom).setpoint, (s.chan .boom).atLimit, (s.chan .boom).demand) =
      (0, 12288, true, some 4096) := by decide
theorem test_wheelCarry :
    let s := after .channelUpdate { liveWith .focus (heldAt 20000) with
      wheels := live.wheels.set 2 ⟨some .focus, 384, 7, 0, none⟩ }
    ((s.chan .focus).owner, (s.chan .focus).target, (s.wheels.get 2).carry, (s.wheels.get 2).idle) =
      (.wheel, some 20010, 128, some 0) := by decide
theorem test_jogClamped :
    let s := after (.jog 0#8 25000#32) live
    ((s.chan .track).demand, resultOf s) = (some 20000, 0x01#8) := by decide
theorem test_gotoRefusedWhole :
    let s := after (.goto 0x41#16 [30000#32, 10000#32]) (liveWith .focus { heldAt 0 with owner := .take, mode := .path })
    ((s.chan .track).owner, resultOf s == resultByte .owned) = (.none, true) := by decide
theorem test_release : ((after (.release 1#16) (liveWith .track (jogged 0 0 0 5))).chan .track).owner = .none := by decide
theorem test_wheelAssign : ((after (.wheelAssign 3#8 6#8 384#16) live).wheels.get 2).gain = 384 := by decide

/-! ## Crane, drives and zones: chapters 2 and 4 -/

/-- PARKED with every drive's position known and the head point valid. -/
def parked : State :=
  { live with crane := resetCrane, channels := .ofFn fun _ => { resetChannel with known := true } }

theorem test_arm :
    let s := after .arm parked
    (s.crane.state, s.crane.slotPointer, (s.chan .reach).drive, (s.chan .track).drive) =
      (.arming, some 1, .enabling, .off) := by decide
theorem test_slotTimer : (after .slotEvent (after .arm parked)).crane.slotTimer = 1 := by decide
theorem test_park :
    let s := after .park live
    (s.crane.state, s.crane.slotPointer, s.notices.attn) = (.parking, some 6, true) := by decide
theorem test_brakeReleased :
    let s := after (.driveExchange (.ofFn fun c => if c = .reach then some [3#8, 2#8, 0#8, 0#8, 0#8, 5#8, 246#8] else none))
      { after .arm parked with crane := { (after .arm parked).crane with slotTimer := 9 } }
    ((s.chan .reach).drive, (s.chan .reach).setpoint, s.crane.brakes.get 3, s.crane.brakes.get 0) =
      (.active, 5, false, true) := by decide

/-- The zones of the example of section 4.4. -/
def twoZones : List Zone :=
  [⟨4, .guard, 0, 90000, 100000, 20000, 40000, 0, 20000, 5000, 20000, false, false, none, .clear, none⟩,
    ⟨9, .slow, 5, 70000, 78000, 28000, 36000, 0, 40000, 2000, 10000, false, false, none, .clear, none⟩]

def zoned (occupied : Bool) : State :=
  { live with
    zoneMonitor := ⟨twoZones, 1024, none⟩
    presence := .ofFn fun _ => ⟨steadyFilter occupied, occupied, none⟩ }

theorem test_scale_clear :
    let z := (after .zoneEvaluation (zoned false)).zoneMonitor
    (z.scale, z.limiting, z.zones.map (·.clearance), z.zones.map (·.band)) =
      (418, some 4, [some 11135, some 1663], [.slow, .stop]) := by decide
theorem test_scale_occupied :
    let s := after .zoneEvaluation (zoned true)
    (s.zoneMonitor.scale, s.zoneMonitor.limiting, s.crane.state, s.notices.zone.detail) =
      (64, some 9, .ready, some ⟨9, .stop, some true⟩) := by decide

/-! ## Stops, link, configuration and lens: chapters 5, 9, 10 and 11 -/

theorem test_stop :
    let s := after (.stop .unit) (liveWith .swing (jogged 0 0 800 2000))
    (s.crane.state, (s.chan .swing).demand, (s.chan .swing).stopDecel, s.stops.first) =
      (.stopping, some 0, true, some (.request .unit)) := by decide
theorem test_ackStop :
    (after .ackStop { live with crane := { live.crane with state := .halted } }).crane.state = .ready := by decide
set_option maxRecDepth 4000 in
theorem test_estopTrips :
    let s := after (.inputSample ⟨true, false, true, 0#8⟩)
      { live with stops := { live.stops with estop1 := ⟨false, false, true, false, false⟩ } }
    (s.crane.state, s.stops.first, (s.chan .track).drive) = (.tripped, some (.estop true false false), .off) := by decide
theorem test_brokenCheck_discarded :
    (after (.dataCharacter 0xFF#8 false) (receivingState .unit [1#8, 1#8] live)).link.receiver = .unaddressed := by decide
theorem test_identByCharacters :
    (after (.dataCharacter 0xFE#8 false) (receivingState .unit [1#8, 1#8] live)).link.receiver = .answering := by decide
theorem test_configSet_boomHi :
    let s := after (.configSet 0x22#8 10000#32) (liveWith .boom (heldAt 11000))
    ((s.cfg .boom).hi, (s.chan .boom).outside, resultOf s == resultByte .ok) = (10000, true, true) := by decide
theorem test_configSet_refused :
    resultOf (after (.configSet 0x12#8 20000#32) live) = resultByte .badOperand ∧
      resultOf (after (.configSet 0x06#8 90000#32) live) = resultByte .state ∧
      resultOf (after (.configSet 0x0B#8 1#32) live) = resultByte .badOperand ∧
      resultOf (after (.configSet 0x83#8 1#32) live) = resultByte .badOperand := by decide
theorem test_configSet_clamped :
    (after (.configSet 0x05#8 300#32) live).config.creep = 256 ∧
      resultOf (after (.configSet 0x05#8 300#32) live) = resultByte .clamped := by decide
theorem test_unknownCode : resultOf (after (.unknownCode 0#8 []) live) = resultByte .badCode := by decide

/-- Bank 1 holds the map of section 9.2; no bank is selected. -/
def mapped : State := { live with lens := { live.lens with banks := live.lens.banks.set 1 (some map35) } }

theorem test_lensSelect :
    let s := after (.lensSelect 1#8) (mapped.setChan .focus (heldAt 61000))
    (s.limits .focus, s.limits .iris, s.limits .zoom, (s.chan .focus).outside) =
      ((4000, 58000), (2000, 60000), (0, 65535), true) := by decide

/-- Bank 1 selected, target 2 present, FOCUS at rest (section 9.5). -/
def tracking : State :=
  { mapped with lens := { mapped.lens with selected := some 1, targets := [⟨2, 112663, 72663, 34135, 200, 0⟩] } }

theorem test_trackOn :
    let s := after (.trackOn 2#8) (tracking.setChan .focus (heldAt 30000))
    (s.lens.tracking, (s.chan .focus).target, (s.chan .focus).owner) =
      (⟨.active, some 2, some 5000, some 32000, false⟩, some 32000, .track) := by decide
theorem test_takeArm : (cueing.engine.state, (cueing.chan .track).owner, cueing.marks.map (·.locked)) =
    (.cueing, .take, [true]) := by decide
theorem test_lastCue :
    let s := after .engineMillisecond (inPlay .playing 2 2047000)
    (s.engine.state, s.takes.map (·.lastResult), s.takes.map (·.passCount)) = (.idle, [.done], [1]) := by decide
theorem test_shortReset :
    let s := after (.resetRelease 400 ⟨0#5, 0#2⟩) (after .resetAssert stored)
    (s.crane.state, s.marks.length, s.power.lastCause, s.power.survived) = (.parked, 1, .resetPulse, true) := by decide
theorem test_longReset :
    let s := after (.resetRelease 3000 ⟨7#5, 2#2⟩) (after .resetAssert stored)
    (s.marks.length, s.power.lastCause, s.link.address, s.link.rate) = (0, .resetHold, 7, 2#2) := by decide

/-! ## A state and operands that meet the hypotheses of each statement -/

/-- A part without main power. -/
def dark : State := { live with power := { live.power with mainOn := false } }

/-- `live` with CONSOLE moving TRACK and FOCUS in one open move. -/
def moving : State :=
  { live with
    channels := live.channels.set .track (sentTo 0 5) |>.set .focus (sentTo 0 9)
    moves := [⟨0x41#16, .ofFn fun c => c == .track || c == .focus⟩] }

/-- HALTED with GRIP latched. -/
def halted : State :=
  { live with
    crane := { live.crane with state := .halted }
    stops := { live.stops with latches := { noCauses with grip := some (.grip none) }, first := some (.grip none) } }

/-- Tracking ACTIVE on target 2, FOCUS owned by TRACK. -/
def followed : State := { after (.trackOn 2#8) (tracking.setChan .focus (heldAt 30000)) with link := State.reset.link }

/-- A slot of `live`'s drives about to end. -/
def slotAt (st : CraneState) (seq : Sequence) (n : Nat) : State :=
  { live with crane := ⟨st, false, some n, 249, seq, .ofFn fun _ => false⟩ }

/-- STOPPING with SWING decelerating, its deadline about to expire. -/
def stopping : State :=
  { liveWith .swing { heldAt 0 with velocity := 10, mode := .velocity, demand := some 0, stopDecel := true } with
    crane := { live.crane with state := .stopping }
    stops := { live.stops with deadlineTimer := some ⟨1999, 2000⟩ } }

/-- RETREAT from zone 1, in which the head stands. -/
def retreating : State :=
  { live with
    crane := { live.crane with retreat := true }
    zoneMonitor := ⟨[⟨1, .guard, 0, 82000, 90000, 32000, 40000, 0, 40000, 5, 20000, true, false, some 0, .stop, some 0⟩], 64, some 1⟩
    stops := { live.stops with retreatSet := [⟨1, 0⟩] } }

theorem witness_CommandsAnswerNextStates :
    dark.running = false ∧ resetCommand .ident = false := by decide

theorem witness_StepsKeepTheRecords :
    RecordsAgree stored ∧ ∃ t, step { stored with pending := [.markRetire 5#8] } = .next t := by
  refine ⟨⟨?_, ?_, ?_, ?_, ?_, ?_, ?_, ?_⟩, _, rfl⟩ <;> first | decide | exact List.pairwise_singleton _ _

theorem witness_StepsKeepTheCraneInOrder :
    SequenceAgrees moving ∧ moving.running = true ∧ CraneAgrees moving ∧
      ∃ t, step { moving with pending := [.stop .unit] } = .next t := by
  refine ⟨⟨rfl, rfl⟩, by decide, ⟨⟨?_, ?_⟩, ?_, ?_, ?_, ?_, ?_, ?_, ?_, ?_, ?_⟩, _, rfl⟩
  any_goals (intro c; cases c <;> decide)
  · rintro (h | h) <;> exact absurd h (by decide)
  · intro c; cases c <;> first
      | exact ⟨rfl, fun _ => rfl⟩
      | exact ⟨rfl, fun h => absurd h (by decide)⟩

theorem witness_StepsKeepTheCraneInOrder_held :
    SequenceAgrees dark ∧ CraneConfigured dark ∧ dark.running = false ∧
      ∃ t, step { dark with pending := [.powerUp ⟨0#5, 0#2⟩] } = .next t := by
  refine ⟨⟨rfl, rfl⟩, ⟨?_, ?_⟩, by decide, _, rfl⟩ <;> (intro c; cases c <;> decide)

theorem witness_StepsKeepModesAndMoves :
    SequenceAgrees moving ∧ CraneAgrees moving ∧ ModesAgree moving ∧ MovesAgree moving ∧ step moving = .next moving := by
  refine ⟨witness_StepsKeepTheCraneInOrder.1, witness_StepsKeepTheCraneInOrder.2.2.1, ⟨?_, ?_, ?_, ?_, ?_, ?_, ?_, ?_, ?_⟩, ⟨?_, ?_, List.pairwise_singleton _ _⟩, rfl⟩
  any_goals (intro c; cases c <;> decide)
  · intro m h c; cases List.mem_singleton.1 h; cases c <;> decide
  · intro m h; cases List.mem_singleton.1 h; exact ⟨.track, by decide⟩

theorem witness_StepsKeepLimitsAndOutside :
    LimitsOrdered mapped ∧ RemaindersSmall mapped ∧ OutsideAgrees mapped ∧ step mapped = .next mapped := by
  refine ⟨⟨?_, ?_, ?_⟩, ⟨?_, ?_⟩, ⟨?_, ?_⟩, rfl⟩
  any_goals (intro c; cases c <;> decide)
  · intro b m p h q; fin_cases b <;> simp [mapped, map35, live, State.reset, State.coldReset, PerFour.set, PerFour.get, PerFour.ofFn] at h
    subst h; simp at q; subst q; decide
  · intro b m p h q; fin_cases b <;> simp [mapped, map35, live, State.reset, State.coldReset, PerFour.set, PerFour.get, PerFour.ofFn] at h
    subst h; simp at q
  · decide

theorem witness_StepsKeepLatchesAndRetreat :
    SequenceAgrees halted ∧ LatchesAgree halted ∧ RetreatAgrees halted ∧ step halted = .next halted ∧
      SequenceAgrees retreating ∧ RetreatAgrees retreating := by
  refine ⟨⟨rfl, rfl⟩, ⟨⟨fun h => absurd h (by decide), fun h => absurd (h .grip) (by decide)⟩, ?_⟩, ⟨by decide, by decide⟩, rfl, ⟨rfl, rfl⟩, ⟨by decide, by decide⟩⟩
  intro h; exact absurd h (by decide)

theorem witness_StepsKeepThePlay :
    SequenceAgrees cueing ∧ RecordsAgree cueing ∧ PlayAgrees cueing ∧ step cueing = .next cueing := by
  refine ⟨⟨rfl, rfl⟩, ⟨?_, ?_, ?_, ?_, ?_, ?_, ?_, ?_⟩, ⟨by decide, by decide, ?_, by decide, ?_, ?_, ?_,
    ⟨fun h => absurd h (by decide), fun h => absurd (h .track) (by decide)⟩, fun _ => by decide⟩, rfl⟩
  any_goals (first | decide | exact List.pairwise_singleton _ _)
  all_goals (intro c; cases c <;> decide)

theorem witness_StepsKeepTrackingAndOutputs :
    TrackAgrees followed ∧ AttnAgrees followed ∧ HeldQuiet followed ∧ step followed = .next followed ∧
      HeldQuiet (quieted dark) := by
  refine ⟨⟨?_, by decide, by decide, by decide, ?_, by decide, ?_⟩, by unfold AttnAgrees; decide, fun h => absurd h (by decide), rfl, ?_⟩
  · intro c; cases c <;> decide
  · intro n h; cases (show some 2 = some n from h); decide
  · intro b h; cases (show some 1 = some b from h); decide
  · intro _; exact ⟨by decide, by decide, by decide, by decide⟩

set_option maxRecDepth 4000 in
theorem witness_TrippingTakesThePowerAway :
    let s := { live with stops := { live.stops with estop1 := ⟨false, false, true, false, false⟩ } }
    let i := Instr.inputSample ⟨true, false, true, 0#8⟩
    (∃ t, exec i s = .next t) ∧ s.crane.state ≠ .tripped ∧ (after i s).crane.state = .tripped := ⟨⟨_, rfl⟩, by decide, by decide⟩

theorem witness_CraneChangesFollowEdgesAndNotice :
    SequenceAgrees live ∧ (∃ t, exec .park live = .next t) ∧
      (after .park live).crane.state ≠ live.crane.state := ⟨⟨rfl, rfl⟩, ⟨_, rfl⟩, by decide⟩

theorem witness_EveryUnitFrameIsAnswered :
    requestBytes (.stop .unit) ≠ none ∧ requestOrigin (.stop .unit) = .unit ∧ live.canReceive = true := by decide

theorem witness_RefusedRequestsChangeNothing :
    live.canReceive = true ∧ ∃ t, Replied (.jog 9#8 0#32) live t .badOperand [] := ⟨by decide, _, rfl, rfl, rfl, rfl⟩

theorem witness_FramesThatAreNoRequest :
    live.canReceive = true ∧ knownCode 0#8 = false ∧ operandBytes 0x05 = some 5 ∧ [0#8].length ≠ 5 ∧
      [0#8, 0#8].length ≠ 4 * maskCount (0#8 ++ 1#8) ∧ [0#8].length ≠ 9 + 6 * (0#8).toNat ∧ broadcastCode 0x01#8 = false := by decide

theorem witness_RequestsAreReadAsSent :
    (requestBytes (.goto 3#16 [0#32, 1#32])).isSome = true ∧ countsMatch (.goto 3#16 [0#32, 1#32]) = true := by decide

theorem witness_CharactersOfAFrameRunItsRequest :
    let s := { live with link := { live.link with receiver := .addressed .unit } }
    requestBytes .arm = some [0x10#8] ∧ wellFormed .arm = true ∧ s.running = true ∧
      s.link.receiver = .addressed (requestOrigin .arm) := by decide

theorem witness_ReceiverFollowsTheLine :
    live.canReceive = true ∧ live.running = true ∧ (0#8).toNat = 0 ∧ 250 < (251#8).toNat ∧
      (receivingState .unit [1#8, 1#8] live).link.receiver = .receiving .unit ∧ [1#8].length = (1#8).toNat ∧
      ((receivingState .unit [1#8, 1#8] live).link.buffer ++ [0#8]).foldl (fun n b => n + b.toNat) 0 % 256 ≠ 0 ∧
      (receivingState .unit [1#8] live).link.gapRunning = true ∧ live.link.receiver = .unaddressed := by decide

theorem witness_ReceiverFollowsTheLine_states :
    let a := { live with link := { live.link with receiver := .addressed .unit } }
    let r := receivingState .unit [2#8, 1#8] live
    a.running = true ∧ a.link.receiver = .addressed .unit ∧ (1#8).toNat = 1 ∧ (250#8).toNat = 250 ∧
      r.link.receiver = .receiving .unit ∧ r.link.buffer = [2#8, 1#8] ∧ [1#8].length < (2#8).toNat ∧
      (after (.ident) live).link.receiver = .answering := by decide

set_option maxRecDepth 8000 in
theorem witness_ReceiverFollowsTheLine_samples :
    let bits := (characterBits 0x85#8 true).set 10 false
    (List.range 11).map (fun k => decide (2 ≤ ((sampled bits).getD (16 * k + 6) true).toNat +
      ((sampled bits).getD (16 * k + 7) true).toNat + ((sampled bits).getD (16 * k + 8) true).toNat)) = bits := by decide

/-- R172: a start bit, the data from its lowest bit, the address flag, a stop bit. -/
theorem test_characterBits : characterBits 0x85#8 true =
    [false, true, false, true, false, false, false, false, true, true, true] := by decide
set_option maxRecDepth 8000 in
theorem test_characterRead : readCharacter (sampled (characterBits 0x85#8 true)) = .character 0x85#8 true false ∧
    readCharacter (sampled ((characterBits 0x85#8 true).set 10 false)) = .character 0x85#8 true true ∧
    readCharacter (List.replicate 6 false ++ List.replicate 20 true) = .noise := by decide

theorem witness_SilentConsolesRaiseLink :
    let s := { live with link := { live.link with periodic := .running 999 1000, noticeTimer := .running 999 1000 } }
    s.running = true ∧ timerDue live.link.periodic = false ∧ timerDue live.link.noticeTimer = false ∧
      s.stops.conditions.link = none ∧ timerDue s.link.periodic = true ∧ timerDue s.link.noticeTimer = true ∧ 1000 ≤ 999 + 1 := by decide

theorem witness_SilentConsolesRaiseLink_lens :
    isLens .focus = true ∧ (moving.chan .focus).owner = .console ∧ (moving.chan .focus).drive = .active ∧
      isLens .zoom = true ∧ (moving.chan .zoom).owner = .none ∧ moving.running = true := by decide

theorem witness_NoticesAndInputsAreServed :
    let n := State.reset.notices
    live.canReceive = true ∧ pendingSources live.notices = 0#8 ∧ n.state.detail.isSome = true ∧
      (63#8).toNat < 64 ∧ 64 ≤ (64#8).toNat ∧
      pendingSources { live.notices with input := ⟨some 1#24, false⟩ } &&& 7#8 = 0#8 := by decide

theorem witness_ReadsShowAndChangeNothing :
    live.canReceive = true ∧ configItem 0x05#8 = some .creep ∧ chanOfIndex 8 = some .zoom ∧
      retreating.findZone 1 ≠ none ∧ stored.findMark 5 ≠ none ∧ stored.findTake 3 ≠ none ∧
      (stored.marks.map (·.number)).filter (fun n => decide (5 ≤ n)) = [5] ++ [] ∧ bankOfNumber 1 = some 1 ∧
      mapped.lens.banks.get 1 = some map35 ∧ tracking.findTarget 2 ≠ none := by decide

theorem witness_ReadsShowAndChangeNothing_fields :
    fits32 live.head.x ∧ fits32 live.head.y ∧ fits32 live.head.z ∧
      (∀ v ∈ [(live.chan .boom).setpoint, (live.chan .boom).velocity, (live.chan .boom).feedback, live.lo .boom, live.hi .boom],
        fits32 v) ∧
      (∀ z ∈ retreating.zoneMonitor.zones, ∀ v ∈ [z.xLo, z.xHi, z.yLo, z.yHi, z.zLo, z.zHi], fits32 v) ∧
      (∀ c v, oneMark.values.get c = some v → fits32 v) ∧ fits32 112663 ∧ fits32 (-2147483648) ∧
      map35.iris = some ⟨2000, 60000⟩ := by
  unfold fits32
  refine ⟨by decide, by decide, by decide, by decide, by decide, ?_, by decide, by decide, rfl⟩
  intro c v h; cases c <;> cases h; decide

theorem witness_RequestTestsRefuse :
    live.canReceive = true ∧ 24 < (25#8).toNat ∧ live.findZone 24 = none ∧ 128 < (129#8).toNat ∧ live.findMark 128 = none ∧
      16 < (17#8).toNat ∧ live.findTake 16 = none ∧ 8 < (9#8).toNat ∧ live.findTarget 8 = none ∧ 3 < (4#8).toNat ∧
      live.lens.banks.get 3 = none ∧ configItem 0x0B#8 = none ∧ twoValuedItem .supervisionMode = true ∧
      (2#32).toInt ≠ 0 ∧ parkedItem .armBase = true ∧ live.crane.state ≠ .parked ∧
      (live.cfg .boom).hi < max (softRange .boom).1 (min (softRange .boom).2 (12289#32).toInt) ∧
      1000000 < (1000001#32).toInt ∧ 512 ≤ (512#16).toNat ∧ [0#32].length = maskCount 512#16 := by decide

theorem witness_RequestTestsRefuse_positions :
    (0#8).toNat = 0 ∧ 64 < (65#8).toNat ∧ 65 < (66#8).toNat ∧ live.findMark (128#8).toNat = none ∧
      (1#16 : BitVec 16) ≠ 0#16 ∧ (511#16).toNat < 512 := by decide

theorem witness_ConfigSetStoresTheValue :
    live.canReceive = true ∧ configItem 0x22#8 = some (.softHi .boom) ∧ twoValuedItem (.softHi .boom) = false ∧
      parkedItem (.softHi .boom) = false ∧
      keepsOrder live.config (.softHi .boom) (max (itemRange (.softHi .boom)).1 (min (itemRange (.softHi .boom)).2 10000)) = true ∧
      configItem 0x90#8 = some (.polarity 0) ∧ limitsConfigured live .boom = true := by decide

theorem witness_ArmStartsTheLowestSlot :
    parked.canReceive = true ∧ slotsInRange parked ∧ parked.crane.state = .parked ∧
      (∀ k, getCause parked.stops.latches k = none) ∧ parked.stops.conditions.zone = none ∧ parked.head.valid = true ∧
      (∀ c, (parked.chan c).known = true ∧ (parked.chan c).stale = 0) := by
  refine ⟨by decide, ?_, by decide, ?_, by decide, by decide, ?_⟩
  all_goals (intro c; cases c <;> decide)

theorem witness_ArmingSlotsEnd :
    let s := slotAt .arming .up 6
    s.running = true ∧ slotsInRange s ∧ s.crane.state = .arming ∧ s.crane.sequence = .up ∧ s.crane.slotPointer = some 6 ∧
      s.config.slotDuration ≤ s.crane.slotTimer + 1 ∧ (∀ c, (s.cfg c).releaseSlot = 6 → (s.chan c).drive = .active) ∧
      (∀ c, (s.cfg c).releaseSlot ≤ 6) := by
  refine ⟨by decide, ?_, by decide, by decide, by decide, by decide, ?_, ?_⟩
  all_goals (intro c; cases c <;> decide)

theorem witness_ParkStartsTheHighestSlot :
    live.canReceive = true ∧ slotsInRange live ∧ live.crane.state = .ready ∧ live.engine.take = none ∧
      (∀ c, isLens c = false → (live.chan c).owner = .none ∧ (live.chan c).velocity = 0) := by
  refine ⟨by decide, ?_, by decide, by decide, ?_⟩
  all_goals (intro c; cases c <;> decide)

theorem witness_ParkingSlotsEnd :
    let s := slotAt .parking .down 1
    s.running = true ∧ slotsInRange s ∧ s.crane.state = .parking ∧ s.crane.sequence = .down ∧ s.crane.slotPointer = some 1 ∧
      s.config.slotDuration ≤ s.crane.slotTimer + 1 ∧ (∀ c, 1 ≤ (s.cfg c).releaseSlot) := by
  refine ⟨by decide, ?_, by decide, by decide, by decide, by decide, ?_⟩
  all_goals (intro c; cases c <;> decide)

theorem witness_ParkingSlotsEnd_running :
    let s := { live with crane := ⟨.parking, false, some 6, 0, .down, .ofFn fun _ => false⟩ }
    s.running = true ∧ s.crane.slotPointer = some 6 ∧ s.crane.slotTimer + 1 < s.config.slotDuration := by decide

theorem witness_JogClaimsTheChannel :
    live.canReceive = true ∧ chanOfIndex (8#8).toNat = some .zoom ∧ -1000000 ≤ (1000000#32).toInt ∧
      (1000000#32).toInt ≤ 1000000 ∧ claimAllowed live .zoom = true ∧ isLens .zoom = true ∧ (live.chan .zoom).owner = .none := by decide

theorem witness_GotoOpensOneMove :
    live.canReceive = true ∧ (511#16 : BitVec 16) ≠ 0#16 ∧ (511#16).toNat < 512 ∧
      (List.replicate 9 0#32).length = maskCount 511#16 ∧ (∀ c, maskHas 511#16 c = true → claimCode .console true live c = none) ∧
      stored.findMark 5 = some oneMark ∧ (maskHas 511#16 .track && (oneMark.values.get .track).isSome) = true ∧
      claimCode .console true stored .track = none := by
  refine ⟨by decide, by decide, by decide, by decide, ?_, rfl, by decide, by decide⟩
  intro c; cases c <;> decide

theorem witness_GotoOpensOneMove_refused :
    let s := stored.setChan .track { heldAt 0 with owner := .take, mode := .path }
    s.canReceive = true ∧ s.findMark (5#8).toNat = some oneMark ∧
      (maskHas 3#16 .track && (oneMark.values.get .track).isSome) = true ∧ claimCode .console true s .track = some .owned ∧
      (∀ c, (maskHas 2#16 c && (oneMark.values.get c).isSome) = false) := by
  refine ⟨by decide, rfl, by decide, by decide, ?_⟩
  intro c; cases c <;> decide

theorem witness_ReleasesLetChannelsGo :
    live.canReceive = true ∧ (1#16 : BitVec 16) ≠ 0#16 ∧ (1#16).toNat < 512 ∧ wheelOfNumber (4#8).toNat = some 3 ∧
      wheelChannel 0xFF#8 = some none ∧ wheelChannel 8#8 = some (some .zoom) := by decide

theorem witness_VelocityModeFollowsTheDemand :
    let s := liveWith .boom (jogged 11288 0 4096 4096)
    s.running = true ∧ wheelsStill s ∧ s.crane.state ≠ .stopping ∧ (s.chan .boom).drive = .active ∧
      (s.chan .boom).mode = .velocity ∧ (s.chan .boom).demand = some 4096 ∧ (s.chan .boom).owner ≠ .wheel ∧
      s.lo .boom ≤ (s.chan .boom).setpoint ∧ (s.chan .boom).setpoint ≤ s.hi .boom ∧ (s.chan .boom).fraction < 1000 := by
  unfold wheelsStill; decide

theorem witness_VelocityModeFollowsTheDemand_stopping :
    stopping.running = true ∧ wheelsStill stopping ∧ stopping.crane.state = .stopping ∧ isLens .swing = false ∧
      (stopping.chan .swing).drive = .active ∧ (stopping.chan .swing).mode = .velocity ∧
      (stopping.chan .swing).demand = some 0 ∧ (stopping.chan .swing).stopDecel = true ∧
      (stopping.chan .swing).owner = .none := by
  unfold wheelsStill; decide

theorem witness_PositionModeReachesTheTarget :
    let s := liveWith .boom (sentTo 12288 12288)
    s.running = true ∧ wheelsStill s ∧ s.crane.state ≠ .stopping ∧ (s.chan .boom).drive = .active ∧
      (s.chan .boom).mode = .position ∧ (s.chan .boom).target = some 12288 ∧ (s.chan .boom).owner = .console ∧
      s.lo .boom ≤ (s.chan .boom).setpoint ∧ (s.chan .boom).setpoint ≤ s.hi .boom ∧ (s.chan .boom).fraction < 1000 ∧
      (s.chan .boom).stopDecel = false := by
  unfold wheelsStill; decide

theorem witness_ChannelsComeToRest :
    let s := liveWith .track (sentTo 7 7)
    let r := liveWith .swing { heldAt 0 with velocity := 16, mode := .velocity, demand := some 0 }
    let q := liveWith .focus { heldAt 5 with owner := .wheel, mode := .position, target := some 5 }
    (s.running = true ∧ wheelsStill s ∧ (s.chan .track).mode = .position ∧ (s.chan .track).target = some (s.chan .track).setpoint ∧
      (s.chan .track).velocity = 0 ∧ (s.chan .track).inPosition = false ∧ s.lo .track ≤ (s.chan .track).setpoint) ∧
    ((r.chan .swing).owner = .none ∧ (r.chan .swing).mode = .velocity ∧ (r.chan .swing).demand = some 0 ∧
      (r.chan .swing).velocity.natAbs ≤ velocityStepOf (r.cfg .swing) (r.chan .swing)) ∧
    ((q.chan .focus).owner = .wheel ∧ (q.chan .focus).target = some (q.chan .focus).setpoint ∧ (q.chan .focus).velocity = 0) := by
  unfold wheelsStill; decide

/-- `live` with CONSOLE bringing TRACK one count further in its only open move. -/
def arriving : State :=
  { liveWith .track (sentTo 0 1) with moves := [⟨1#16, .ofFn fun c => decide (c = .track)⟩] }

set_option maxRecDepth 4000 in
theorem witness_ChannelsComeToRest_arrival :
    let s := arriving
    let r := approachedRecord .track (s.cfg .track) (s.lo .track) (s.hi .track) s.zoneMonitor.scale 1 (s.chan .track)
    s.running = true ∧ wheelsStill s ∧ (s.chan .track).drive = .active ∧ (s.chan .track).mode = .position ∧
      (s.chan .track).owner = .console ∧ (s.chan .track).fraction < 1000 ∧ (s.chan .track).target = some 1 ∧
      s.lo .track ≤ (s.chan .track).setpoint ∧ (s.chan .track).setpoint ≤ s.hi .track ∧
      (s.chan .track).inPosition = false ∧ (s.chan .track).stopDecel = false ∧
      (max (s.lo .track) (min (s.hi .track) 1) - r.setpoint).natAbs ≤ 1 ∧ r.velocity.natAbs ≤ (s.cfg .track).accel ∧
      r.velocity ≠ 0 := by
  unfold wheelsStill; decide

theorem witness_ChannelsComeToRest_still :
    live.running = true ∧ wheelsStill live ∧ (live.chan .boom).owner ≠ .wheel ∧ (live.chan .boom).mode = .hold ∧
      (live.chan .boom).stopDecel = false ∧ (parked.chan .boom).drive ≠ .active ∧ wheelsStill parked := by
  unfold wheelsStill; decide

theorem witness_StandstillHaltsTheCrane :
    stopping.running = true ∧ wheelsStill stopping ∧ stopping.crane.state = .stopping ∧
      (∀ c, isLens c = false → (stopping.chan c).owner = .none ∧ (stopping.chan c).drive = .active ∧
        ((stopping.chan c).mode = .hold ∧ (stopping.chan c).velocity = 0 ∨
          (stopping.chan c).mode = .velocity ∧ (stopping.chan c).demand = some 0 ∧
            (stopping.chan c).velocity.natAbs ≤ velocityStepOf (stopping.cfg c) (stopping.chan c))) := by
  refine ⟨by decide, by unfold wheelsStill; decide, by decide, ?_⟩
  intro c; cases c <;> decide

theorem witness_NoUpdateMovesFurtherOutside :
    let s := liveWith .boom (jogged 20000 0 (-100) (-100))
    LimitsOrdered s ∧ RemaindersSmall s ∧ (∃ t, exec .channelUpdate s = .next t) ∧
      0 < beyond (s.lo .boom) (s.hi .boom) (s.chan .boom).setpoint := by
  refine ⟨⟨?_, ?_, ?_⟩, ⟨?_, by decide⟩, ⟨_, rfl⟩, by decide⟩
  any_goals (intro c; cases c <;> decide)
  all_goals (intro b m p h; fin_cases b <;> cases h)

theorem witness_NoUpdateMovesFurtherOutside_held :
    let s := liveWith .boom (jogged 20000 0 100 100)
    s.running = true ∧ wheelsStill s ∧ (s.chan .boom).drive = .active ∧ (s.chan .boom).mode = .velocity ∧
      (s.chan .boom).demand = some 100 ∧ (s.chan .boom).owner ≠ .wheel ∧ s.crane.state ≠ .stopping ∧
      s.hi .boom < (s.chan .boom).setpoint := by
  unfold wheelsStill; decide

/-- `cueing` with FOCUS, and TILT beside it or not, as the take's channels, and a count of wheel 3 for FOCUS. -/
def overtaken (beside : Bool) : State :=
  let set : PerChannel Bool := .ofFn fun c => c == .focus || (beside && c == .tilt)
  { cueing with
    channels := .ofFn fun c => if set.get c = true then { heldAt 20000 with owner := .take, mode := .path } else heldAt 20000
    engine := { cueing.engine with set := set, path := .ofFn fun c => if set.get c = true then some 20000 else none }
    wheels := cueing.wheels.set 2 ⟨some .focus, 384, 7, 0, none⟩ }

theorem witness_WheelsHandOverTheirCounts_overtake : ∀ beside,
    let s := overtaken beside
    s.running = true ∧ (s.wheels.get 2).channel = some .focus ∧ (s.wheels.get 2).counter ≠ 0 ∧ (s.wheels.get 2).gain ≠ 0 ∧
      (∀ j, j ≠ 2 → (s.wheels.get j).counter = 0) ∧ claimAllowed s .focus = true ∧ isArm .focus = false ∧
      (s.chan .focus).owner = .take ∧ (s.chan .focus).drive = .active ∧ s.engine.set.get .focus = true ∧
      s.engine.take = some 3 ∧ s.engine.set.get .tilt = beside ∧ s.findTake 3 ≠ none := by decide

theorem witness_WheelsHandOverTheirCounts :
    let s := { liveWith .focus (heldAt 20000) with wheels := live.wheels.set 2 ⟨some .focus, 384, 7, 0, none⟩ }
    s.running = true ∧ (s.wheels.get 2).channel = some .focus ∧ (s.wheels.get 2).counter ≠ 0 ∧ (s.wheels.get 2).gain ≠ 0 ∧
      (∀ j, j ≠ 2 → (s.wheels.get j).counter = 0) ∧ claimAllowed s .focus = true ∧
      ownerTest .wheel .focus (s.chan .focus) = none ∧ (s.chan .focus).drive = .active ∧ LimitsOrdered s := by
  refine ⟨by decide, by decide, by decide, by decide, by decide, by decide, by decide, by decide, ⟨?_, ?_, ?_⟩⟩
  any_goals (intro c; cases c <;> decide)
  all_goals (intro b m p h; fin_cases b <;> cases h)

theorem witness_DriveExchangesAreChecked :
    let good : PerChannel (Option (List Byte)) := .ofFn fun c => some ([chanByte c, 2#8, 0#8, 0#8, 0#8, 0#8] ++
      [checkByte [chanByte c, 2#8, 0#8, 0#8, 0#8, 0#8]])
    live.running = true ∧ (∀ c, exchangeRise live good c = none) ∧ (∀ c, goodReply c (good.get c) = some (.active, 0)) ∧
      goodReply .track none = none ∧ 1 ≤ ((liveWith .track { heldAt 0 with stale := 1 }).chan .track).stale := by
  refine ⟨by decide, ?_, ?_, rfl, by decide⟩ <;> (intro c; cases c <;> decide)

theorem witness_ZonesAreStoredAndRetired :
    let z : ZoneOperands := ⟨24#8, 0#8, 12#8, 0#32, 0#32, 0#32, 0#32, 0#32, 0#32, 0#32, 1#32⟩
    live.canReceive = true ∧ zoneOperandsValid z = true ∧ live.findZone 24 = none ∧ ¬(z.kind = 0#8 ∧ z.line = 0#8) ∧
      (zoned false).findZone 9 ≠ none ∧ (zoned false).lineOccupied 5 = false ∧ (zoned true).lineOccupied 5 = true := by decide

theorem witness_BreachesAndRetreat :
    retreating.running = true ∧ retreating.head.valid = true ∧ retreating.stops.retreatSet = [⟨1, 0⟩] ∧
      retreating.findZone 1 ≠ none ∧ retreating.crane.state = .ready ∧ retreating.crane.retreat = true ∧
      live.stops.retreatSet = [] := by decide

/-- `retreating` with a reference that the head no longer keeps. -/
def receding : State := { retreating with stops := { retreating.stops with retreatSet := [⟨1, 3⟩, ⟨2, 0⟩] } }

theorem witness_BreachesAndRetreat_set :
    let t := after .zoneEvaluation receding
    let stays := fun r : RetreatZone => (t.findZone r.zone).any fun z =>
      z.active && decide (z.clearance.getD 0 < z.stopMargin)
    receding.running = true ∧ receding.head.valid = true ∧ receding.crane.state = .ready ∧
      receding.stops.retreatSet.filter stays = [⟨1, 3⟩] ∧
      ((t.findZone 1).bind (·.clearance)).getD 0 < 3 ∧ t.stops.breachSet = [] := by decide

theorem witness_SafetySamplesStopTheCrane :
    let s := { liveWith .swing (jogged 0 0 10 10) with stops := resetStops }
    s.running = true ∧ s.crane.state = .ready ∧ isLens .swing = false ∧ (s.chan .swing).owner = .console ∧
      (s.chan .swing).velocity ≠ 0 ∧ s.stops.conditions.grip = none ∧ s.stops.latches.grip = none ∧
      s.stops.grip.mid = false ∧ s.stops.grip.new = false ∧ s.stops.estop1 = steadyFilter false ∧
      (∀ i, s.stops.overtravel.get i = steadyFilter false) ∧
      (∀ d, isLens d = false → chanIndex d < chanIndex .swing → (s.chan d).velocity = 0) := by
  refine ⟨by decide, by decide, by decide, by decide, by decide, by decide, by decide, by decide, by decide, by decide, by decide, ?_⟩
  intro d; cases d <;> decide

set_option maxRecDepth 8000 in
theorem witness_SafetySamplesStopTheCrane_lines :
    let f : LineFilter := ⟨false, false, true, false, false⟩
    let s := { live with stops := { live.stops with
      overtravel := live.stops.overtravel.set 2 f |>.set 5 f, estop2 := f } }
    let t := after (.inputSample ⟨false, true, true, 0x24#8⟩) s
    s.running = true ∧ s.stops.conditions.estop = none ∧ t.stops.estop2.filtered = true ∧
      (∀ i, ((s.stops.overtravel.get i).filtered = false ∧ (t.stops.overtravel.get i).filtered = true) ↔ i = 2 ∨ i = 5) := by
  decide

theorem witness_SafetySamplesStopTheCrane_grip :
    let s := { liveWith .swing (jogged 0 0 10 10) with stops := resetStops }
    let q := { inPlay .cueing 1 0 with stops := resetStops }
    let p := { inPlay .playing 2 0 with stops := resetStops }
    OnlyGripReleased s ⟨false, false, false, 0#8⟩ ∧ OnlyGripReleased q ⟨false, false, true, 0#8⟩ ∧
      OnlyGripReleased p ⟨false, false, false, 0#8⟩ ∧ q.running = true ∧ q.crane.state = .ready ∧
      (∀ c, isLens c = false → (q.chan c).velocity = 0) ∧ q.stops.conditions.grip = none ∧ q.stops.latches.grip = none ∧
      q.engine.set.get .track = true ∧ q.engine.state = .cueing ∧ p.engine.state = .playing ∧ 0 < p.engine.rate ∧
      (inPlay .armed 1 0).engine.state = .armed := by
  refine ⟨⟨by decide, by decide, by decide, by decide, by decide⟩, ⟨by decide, by decide, by decide, by decide, by decide⟩,
    ⟨by decide, by decide, by decide, by decide, by decide⟩, by decide, by decide, ?_, by decide, by decide, by decide,
    by decide, by decide, by decide, by decide⟩
  intro c; cases c <;> decide

theorem witness_TimedInputsExpire :
    let s := { live with stops := { live.stops with
        discrepancyTimer := some 100, estop1 := steadyFilter true, frame := ⟨true, false, 249⟩ } }
    s.running = true ∧ s.stops.discrepancyTimer = some 100 ∧ s.stops.discrepancy = false ∧
      majority s.stops.estop1.mid s.stops.estop1.new true ≠ majority s.stops.estop2.mid s.stops.estop2.new false ∧
      stopping.stops.deadlineTimer = some ⟨1999, 2000⟩ ∧ 2000 ≤ 1999 + 1 ∧ stopping.stops.latches.deadline = none ∧
      s.stops.frame.present = true ∧ 250 ≤ s.stops.frame.age + 1 := by decide

set_option maxRecDepth 8000 in
theorem witness_TimedInputsExpire_contacts :
    let f := steadyFilter true
    let s := { live with stops := { live.stops with estop1 := f, estop2 := f } }
    let both := (after (.inputSample ⟨true, true, true, 0#8⟩) s).stops
    let none_ := (after (.inputSample ⟨false, false, true, 0#8⟩) live).stops
    let one := (after (.inputSample ⟨true, false, true, 0#8⟩) { live with stops := { live.stops with estop1 := f } }).stops
    both.estop1.filtered = true ∧ both.estop2.filtered = true ∧ none_.estop1.filtered = false ∧
      none_.estop2.filtered = false ∧ one.estop1.filtered ≠ one.estop2.filtered ∧ live.stops.discrepancy = false ∧
      live.stops.discrepancyTimer = none ∧ 99 + 1 < 101 := by decide

theorem witness_AckStopClearsTheLatches :
    halted.canReceive = true ∧ halted.crane.state = .halted ∧ parked.crane.state = .parked ∧
      live.crane.state ∈ [CraneState.ready, .arming, .stopping, .parking] := by decide

theorem witness_MarksAreStoredAndRetired :
    stored.canReceive = true ∧ 1 ≤ (128#8).toNat ∧ (128#8).toNat ≤ 128 ∧ (511#16).toNat < 512 ∧
      (List.replicate 9 0#32).length = maskCount 511#16 ∧ stored.findMark 128 = none ∧ stored.findMark 5 = some oneMark ∧
      oneMark.locked = false ∧ oneMark.refCount ≠ 0 ∧
      (∀ c, (stored.chan c).known = true ∧ ((stored.chan c).drive = .active ∨ (stored.chan c).stale = 0)) := by
  refine ⟨by decide, by decide, by decide, by decide, by decide, rfl, rfl, rfl, by decide, ?_⟩
  intro c; cases c <;> decide

theorem witness_TakesAreCreatedAndRetired :
    stored.canReceive = true ∧ stored.findTake 16 = none ∧ stored.findTake 3 = some oneTake ∧ 1 ≤ (64#8).toNat ∧
      (64#8).toNat ≤ 64 ∧ oneTake.active = false ∧ oneTake.cues.length + 1 < (64#8).toNat ∧
      cueValid ⟨128#8, 600000#32, 600000#32, 1#8, 511#16⟩ = true := by decide

/-- Take 3 filled to 64 cues. -/
def filled : State :=
  { live with
    marks := [{ oneMark with refCount := 64 }]
    takes := [{ oneTake with cues := List.replicate 64 oneCue }] }

set_option maxRecDepth 8000 in
theorem witness_TakesAreCreatedAndRetired_edits :
    RecordsAgree stored ∧ (65#8).toNat = 65 ∧ oneTake.cues.length + 1 < (65#8).toNat ∧ stored.findMark 6 = none ∧
      RecordsAgree cueing ∧ (∃ x, cueing.findTake 3 = some x ∧ x.active = true) ∧ cueing.canReceive = true ∧
      RecordsAgree filled ∧ filled.canReceive = true ∧
      (∃ x, filled.findTake 3 = some x ∧ x.active = false ∧ x.cues.length = 64 ∧ (65#8).toNat ≤ x.cues.length + 1) := by
  refine ⟨witness_StepsKeepTheRecords.1, by decide, by decide, by decide, witness_StepsKeepThePlay.2.1,
    ⟨_, rfl, by decide⟩, by decide, ⟨?_, ?_, ?_, ?_, ?_, ?_, ?_, ?_⟩, by decide, ⟨_, rfl, by decide, by decide, by decide⟩⟩
  any_goals (first | decide | exact List.pairwise_singleton _ _)

theorem witness_TakesAreCreatedAndRetired_empty :
    let e : State := { stored with takes := [⟨16, 0#16, [], .none, 0, 0, false⟩] }
    e.canReceive = true ∧ e.findTake (16#8).toNat = some ⟨16, 0#16, [], .none, 0, 0, false⟩ ∧
      e.crane.state = .ready ∧ e.engine.state = .idle ∧ e.findTake (1#8).toNat = none := by decide

/-- R178, R195: the reply's address character is 128 plus the unit address, and it alone carries the flag. -/
theorem test_reply_characters :
    replyCharacters { resetLink ⟨7#5, 0#2⟩ with buffer := replyBytes ⟨.ok, []⟩ .ready } =
      [(0x87#8, true), (2#8, false), (0#8, false), (2#8, false), (0xFC#8, false)] := by decide

theorem witness_CueEditsChangeOnePlace :
    stored.canReceive = true ∧ RecordsAgree stored ∧ stored.findTake 3 = some oneTake ∧ oneTake.active = false ∧
      cueValid ⟨5#8, 1#32, 0#32, 0#8, 1#16⟩ = true ∧ (3#8).toNat ≤ oneTake.cues.length + 1 ∧ oneTake.cues.length < 64 ∧
      cuesStored stored.takes < 256 ∧ stored.findMark 5 ≠ none ∧ oneTake.cues[(2#8).toNat - 1]? = some oneCue := 
    ⟨by decide, witness_StepsKeepTheRecords.1, rfl, rfl, by decide, by decide, by decide, by decide, by decide, rfl⟩

theorem witness_TakeArmClaimsTheSet :
    stored.canReceive = true ∧ stored.findTake 3 = some oneTake ∧ stored.crane.state = .ready ∧ stored.engine.state = .idle ∧
      oneTake.cues ≠ [] ∧ (channelSet stored oneTake.cues).get .track = true ∧ stored.gripHeld = true ∧
      firstTooFast stored 1 oneTake.cues (setpoints stored) = none ∧
      (∀ c, (channelSet stored oneTake.cues).get c = true → claimCode .take false stored c = none) := by
  refine ⟨by decide, rfl, by decide, by decide, by decide, by decide, by decide, by decide, ?_⟩
  intro c; cases c <;> decide

/-- `stored` with take 3 brought to one cue of 1 ms. -/
def hurried : State := { stored with takes := [{ oneTake with cues := [{ oneCue with travel := 1 }] }] }

theorem witness_TakeArmClaimsTheSet_refused :
    let q := { oneCue with travel := 1 }
    let s := stored.setChan .track (jogged 0 0 5 5)
    tooFast hurried [q] 0 .track ∧ (∀ d, chanIndex d < chanIndex .track → ¬tooFast hurried [q] 0 d) ∧
      hurried.gripHeld = true ∧ hurried.crane.state = .ready ∧ hurried.engine.state = .idle ∧
      (channelSet hurried [q]).get .track = true ∧
      claimCode .take false s .track = some .moving ∧ (channelSet s oneTake.cues).get .track = true := by
  refine ⟨⟨_, 1000, rfl, by decide, by decide⟩, ?_, by decide, by decide, by decide, by decide, by decide, by decide⟩
  intro d h; cases d <;> exact absurd h (by decide)

theorem witness_GoStartsThePlay :
    (inPlay .armed 1 0).canReceive = true ∧ (inPlay .armed 1 0).engine.state = .armed ∧ (inPlay .armed 1 0).gripHeld = true ∧
      2 ≤ (activeCues (inPlay .armed 1 0)).length ∧ (inPlay .armed 1 0).engine.pause = false ∧
      live.engine.state ≠ .waitFrame := by decide

theorem witness_GoStartsThePlay_oneCue :
    let s := { inPlay .armed 1 0 with takes := [{ oneTake with cues := [oneCue], active := true }] }
    s.canReceive = true ∧ s.engine.state = .armed ∧ s.gripHeld = true ∧ (activeCues s).length ≤ 1 ∧ s.engine.take = some 3 ∧
      s.findTake 3 ≠ none ∧ s.engine.lag = 0 ∧ s.engine.pause = false ∧ s.lo .track ≤ s.hi .track ∧
      { s with engine := { s.engine with frameWait := none } }.engine.frameWait = none := by decide

theorem witness_EngineMillisecondsAdvanceTheTake_path :
    let s := inPlay .playing 2 0
    s.running = true ∧ wheelsStill s ∧ (s.chan .track).drive = .active ∧ (s.chan .track).mode = .path ∧
      (s.chan .track).owner = .take ∧ (s.chan .track).stopDecel = false ∧ s.engine.path.get .track = some 0 ∧
      s.lo .track ≤ s.hi .track := by
  unfold wheelsStill; decide

theorem witness_EngineMillisecondsAdvanceTheTake :
    let s := inPlay .playing 2 0
    s.running = true ∧ (cueInPlay s).isSome = true ∧ s.engine.rate ≤ 1024 ∧ s.engine.state = .playing ∧
      s.engine.cueTime + 1024 < (oneCue.travel + oneCue.dwell) * 1024 ∧ (inPlay .cueing 1 2046976).engine.state = .cueing ∧
      oneCue.travel * 1024 ≤ 2046976 + 1024 := by decide

theorem witness_CuesAndPlaysEnd :
    let s := inPlay .playing 2 2046976
    s.running = true ∧ (cueInPlay s).isSome = true ∧ s.engine.take = some 3 ∧ s.engine.pause = false ∧ s.engine.rate = 1024 ∧
      s.zoneMonitor.scale = 1024 ∧ (oneCue.travel + oneCue.dwell) * 1024 ≤ s.engine.cueTime + 1024 ∧
      (activeCues s).length ≤ s.engine.cueIndex ∧ 1 < (activeCues s).length ∧ s.engine.frameWait = some 249 := by decide

theorem witness_CuesAndPlaysEnd_pausing :
    let p := inPlay .playing 1 2047998
    let s := { p with engine := { p.engine with pause := true, rate := 20 } }
    s.running = true ∧ (cueInPlay s).isSome = true ∧ s.engine.state = .playing ∧
      max (s.engine.rate - s.config.rateSlew) (min (s.engine.rate + s.config.rateSlew) 0) ≤ 1024 ∧
      (oneCue.travel + oneCue.dwell) * 1024 ≤ s.engine.cueTime +
        max (s.engine.rate - s.config.rateSlew) (min (s.engine.rate + s.config.rateSlew) 0) ∧
      (activeCues s)[s.engine.cueIndex]? = some oneCue := by decide

theorem witness_PauseResumeAbort :
    (inPlay .playing 2 0).canReceive = true ∧ (inPlay .playing 2 0).engine.state = .playing ∧
      (inPlay .paused 2 0).engine.state = .paused ∧ (inPlay .playing 2 0).engine.take = some 3 ∧
      (inPlay .playing 2 0).findTake 3 ≠ none ∧ live.engine.state = .idle := by decide

theorem witness_LensRecordsAreKept :
    let m : LensMapOperands := ⟨1#8, 35#16, 2#8, 1#8, 2000#16, 2000#16, 9#16, 8#16, [⟨100#32, 5#16⟩, ⟨1000000#32, 0#16⟩]⟩
    mapped.canReceive = true ∧ m.points.length = m.pointCount.toNat ∧ bankOfNumber m.bank.toNat = some 1 ∧
      (∀ p ∈ m.points, 100 ≤ p.distance.toNat ∧ p.distance.toNat ≤ 1000000) ∧
      m.points.Pairwise (fun p q => p.distance.toNat < q.distance.toNat) ∧ m.irisLo.toNat ≤ m.irisHi.toNat ∧
      m.limitFlags.getLsbD 1 = false ∧ mapped.lens.banks.get 1 ≠ none ∧ mapped.lens.selected ≠ some 1 ∧
      (∀ c, isLens c = true → (mapped.chan c).owner = .none ∧ (mapped.chan c).velocity = 0) ∧
      (10#16).toNat = 10 ∧ (2000000#32).toInt.natAbs ≤ 2000000 ∧ tracking.findTarget 2 ≠ none := by
  refine ⟨by decide, by decide, by decide, by decide, by simp, by decide, by decide, by decide, by decide, ?_, by decide, by decide, by decide⟩
  intro c; cases c <;> decide

theorem witness_LensRecordsAreKept_refused :
    let m : LensMapOperands := ⟨1#8, 35#16, 2#8, 1#8, 2000#16, 1999#16, 9#16, 8#16, [⟨100#32, 5#16⟩, ⟨1000000#32, 0#16⟩]⟩
    m.points.length = m.pointCount.toNat ∧ m.limitFlags.getLsbD 0 = true ∧ m.irisHi.toNat < m.irisLo.toNat ∧
      3 < (4#8).toNat ∧ (99#32).toNat < 100 ∧ 1000000 < (1000001#32).toNat := by decide

theorem witness_TrackingStartsAndEnds :
    tracking.canReceive = true ∧ tracking.findTarget 2 ≠ none ∧ tracking.selectedMap = some map35 ∧
      claimCode .track false tracking .focus = none ∧ live.lens.selected = none ∧ live.lens.tracking.state = .off ∧
      followed.lens.tracking.state ≠ .off ∧ (followed.chan .focus).owner = .track := by decide

theorem witness_TrackingFollowsTheTarget :
    let s := { followed with lens := { followed.lens with targets := [⟨2, 112663, 72663, 34135, 200, 200⟩] } }
    s.running = true ∧ s.lens.tracking.state ≠ .off ∧ s.lens.tracking.target = some 2 ∧ s.findTarget (2#8).toNat ≠ none ∧
      s.selectedMap = some map35 ∧ (s.chan .focus).owner = .track ∧ 200 < min 65535 (200 + 1) := by decide

theorem witness_FocusIsLookedUpInTheMap :
    map35.points.Pairwise (fun p q => p.distance < q.distance) ∧ 599 < 600 ∧ map35.points.getLast? = some ⟨100000, 4000⟩ ∧
      map35.points[4]? = some ⟨20000, 12000⟩ ∧ map35.points[5]? = some ⟨100000, 4000⟩ ∧ map35.points[6]? = none ∧
      focusLookup map35.points 100001 = (4000, true) := by
  refine ⟨by simp [map35], by decide, by decide, by decide, by decide, by decide, by decide⟩

theorem witness_ResetsAreWarmOrCold :
    live.running = true ∧ dark.power.mainOn = false ∧ (after .resetAssert live).power.mainOn = true ∧
      (after .resetAssert live).power.resetLow = true ∧ (3000 : Nat) ≤ 3000 ∧ (2999 : Nat) < 3000 := by decide

theorem test_backupLoss_bothOrders :
    (after .powerLoss (after .backupSupplyLoss live)).power.retentionValid = false ∧
      (after .backupSupplyLoss (after .powerLoss live)).power.retentionValid = false ∧
      (after .powerLoss live).power.retentionValid = true := by decide

theorem witness_RunningPart :
    live.running = true ∧ live.canReceive = true ∧ live.stops.retreatSet = [] := by decide

/-! ## The notice timer, and other clauses of their own -/

/-- `live` in PERIODIC+NOTICE with the timers armed and neither STATE nor ZONE pending. -/
def watching : State :=
  { live with
    config := { live.config with supervisionMode := .periodicNotice }
    link := { live.link with periodic := .running 7 1000, noticeTimer := .stopped } }

/-- `watching` with zones on a line that has just become occupied. -/
def watchingZones : State := { zoned true with config := watching.config, link := watching.link }

theorem witness_EveryUnitFrameIsAnswered_timer :
    watching.canReceive = true ∧ startsTimer watching (after (.stop .unit) watching) ∧
      (after (.stop .unit) watching).link.noticeTimer = .running 0 1000 ∧
      ¬startsTimer watching (after .ident watching) ∧ servedTimer watching = .stopped ∧
      (0x0A#8 : Byte) ≠ 0x09#8 ∧ Instr.stop .unit ≠ .notice := by
  refine ⟨by decide, ⟨by decide, by decide, by decide⟩, by decide, fun h => ?_, by decide, by decide, by decide⟩
  exact absurd h.2.2 (by decide)

/-- R184: a frame that ends LINK starts the notice timer where STATE is pending; in PERIODIC it is stopped. -/
theorem test_servedTimer :
    let s := { watching with
      stops := { watching.stops with conditions := { noCauses with link := some (.link .notice) } }
      notices := resetNotices .cold }
    servedTimer s = .running 0 1000 ∧
      servedTimer { s with config := { s.config with supervisionMode := .periodic } } = .stopped := by decide

theorem witness_SilentConsolesRaiseLink_raise :
    watchingZones.running = true ∧ requestBytes .zoneEvaluation = none ∧
      startsTimer watchingZones (after .zoneEvaluation watchingZones) ∧ watchingZones.link.periodic ≠ .disarmed ∧
      watchingZones.stops.conditions.link = none ∧ ¬startsTimer watching (after .zoneEvaluation watching) := by
  refine ⟨by decide, by decide, ⟨by decide, by decide, by decide⟩, by decide, by decide, fun h => ?_⟩
  exact absurd h.2.2 (by decide)

theorem witness_NoticesAndInputsAreServed_timer :
    let s := { watching with notices := resetNotices .cold }
    let z : ZoneDetail := ⟨24, .stop, none⟩
    s.canReceive = true ∧ s.notices.state.detail.isSome = true ∧ s.notices.zone.detail = none ∧
      ({ s.notices with zone := ⟨some z, true⟩ } : NoticeUnit).zone.detail ≠ none ∧
      watching.notices.state.detail = none ∧ watching.notices.zone.detail = none := by decide

theorem witness_ConfigSetStoresTheValue_supervision :
    watching.canReceive = true ∧ (0#32).toInt = 0 ∧ (1#32).toInt = 1 ∧ configItem 0x0A#8 = some .supervisionMode ∧
      configItem 0x09#8 = some .supervisionPeriod := by decide

theorem witness_StepsKeepTheRecords_tables :
    TablesAgree tracking ∧ TablesAgree (zoned true) ∧
      ∃ t, step { zoned true with pending := [.zoneEvaluation] } = .next t := by
  refine ⟨⟨List.Pairwise.nil, by decide, List.pairwise_singleton _ _, by decide⟩,
    ⟨?_, by decide, List.Pairwise.nil, by decide⟩, _, rfl⟩
  show List.Pairwise (· < ·) [4, 9]
  decide

theorem witness_RequestTestsRefuse_ranges :
    live.canReceive = true ∧ 128 < (129#8).toNat ∧ 512 ≤ (512#16).toNat ∧ [0#32].length = maskCount 512#16 ∧
      ([] : List (BitVec 32)).length = maskCount 0#16 ∧ 8 < (9#8).toNat ∧ 600000 < (600001#32).toNat ∧ 1 < (2#8).toNat := by
  decide

/-- `slotAt .parking .down 6` with FOCUS in slot 6, not keep-active, and tracked. -/
def parkingTracked : State :=
  { slotAt .parking .down 6 with
    config := setParameters live.config .focus fun p => { p with releaseSlot := 6, keepActive := false }
    lens := followed.lens }

theorem witness_ParkingSlotsEnd_tracked :
    parkingTracked.running = true ∧ slotsInRange parkingTracked ∧ parkingTracked.crane.slotPointer = some 6 ∧
      parkingTracked.config.slotDuration ≤ parkingTracked.crane.slotTimer + 1 ∧
      (parkingTracked.cfg .focus).releaseSlot = 6 ∧ (parkingTracked.cfg .focus).keepActive = false ∧
      parkingTracked.lens.tracking.state ≠ .off ∧ (slotAt .parking .down 1).lens.tracking.state = .off := by
  refine ⟨by decide, ?_, by decide, by decide, by decide, by decide, by decide, by decide⟩
  intro c; cases c <;> decide

/-- Replies that raise DRIVE by all four kinds: SWING FAULT, BOOM following, REACH dropout, PAN a second miss. -/
def failures : PerChannel (Option (List Byte)) :=
  .ofFn fun c => match c with
    | .swing => some [1#8, 3#8, 0#8, 0#8, 0#8, 0#8, 252#8]
    | .boom => some [2#8, 2#8, 0x7F#8, 0#8, 0#8, 0#8, 125#8]
    | .reach => some [3#8, 1#8, 0#8, 0#8, 0#8, 0#8, 252#8]
    | _ => none

theorem witness_DriveExchangesAreChecked_rises :
    let s := liveWith .pan { heldAt 0 with stale := 1 }
    s.running = true ∧ exchangeRise s failures .track = none ∧ exchangeRise s failures .swing = some .fault ∧
      exchangeRise s failures .boom = some .following ∧ exchangeRise s failures .reach = some .dropout ∧
      exchangeRise s failures .pan = some .stale ∧
      (after (.driveExchange failures) s).stops.latches.drive = some (.drive .swing .fault) ∧
      (after (.driveExchange failures) s).stops.conditions.drive = some (.drive .swing .fault) := by decide

/-- R196: the bytes of a command, and a reply of the lowest feedback; one byte wrong in check, drive number or state. -/
theorem test_driveRecords :
    driveCommand .pan (heldAt (-2)) = [4#8, 1#8, 0xFF#8, 0xFF#8, 0xFF#8, 0xFE#8, 0#8] ∧
      goodReply .swing (some [1#8, 3#8, 0x80#8, 0#8, 0#8, 0#8, 0x7C#8]) = some (.fault, -2147483648) ∧
      goodReply .swing (some [1#8, 3#8, 0x80#8, 0#8, 0#8, 0#8, 0x7D#8]) = none ∧
      goodReply .boom (some [1#8, 3#8, 0x80#8, 0#8, 0#8, 0#8, 0x7C#8]) = none ∧
      goodReply .swing (some [1#8, 4#8, 0x80#8, 0#8, 0#8, 0#8, 0x7B#8]) = none ∧ fits32 (-2147483648) := by
  refine ⟨by decide, by decide, by decide, by decide, by decide, by decide, by decide⟩

theorem witness_ZonesAreStoredAndRetired_bounds :
    let z : ZoneOperands := ⟨24#8, 1#8, 12#8, 1000000#32, 1000000#32, -1000000#32, 1000000#32, 0#32, 0#32, 50000#32, 100000#32⟩
    zoneOperandsValid z = true ∧ zoneOperandsValid { z with number := 25#8 } = false ∧
      zoneOperandsValid { z with xHi := 999999#32 } = false ∧ zoneOperandsValid { z with yLo := -1000001#32 } = false ∧
      zoneOperandsValid { z with stopMargin := 50001#32 } = false ∧
      zoneOperandsValid { z with stopMargin := 5#32, slowMargin := 5#32 } = false ∧
      zoneOperandsValid { z with line := 13#8 } = false ∧ zoneOperandsValid { z with kind := 2#8 } = false := by decide

theorem witness_EvaluationPublishesTheScale_notices :
    let s := zoned true
    let t := after .zoneEvaluation s
    s.running = true ∧ Ascending (s.zoneMonitor.zones.map (·.number)) ∧ t.zoneMonitor.limiting = some 9 ∧
      (((s.zoneMonitor.zones.zip t.zoneMonitor.zones).filter fun p =>
        decide (p.1.occupied ≠ p.2.occupied ∨ (p.2.active = true ∧ p.1.band ≠ p.2.band))).map fun p => p.2.number) = [4, 9] ∧
      t.notices.zone = ⟨some ⟨9, .stop, some true⟩, true⟩ := by
  refine ⟨by decide, ?_, by decide, by decide, by decide⟩
  show List.Pairwise (· < ·) [4, 9]
  decide

set_option maxRecDepth 8000 in
theorem witness_SafetySamplesStopTheCrane_inputs :
    let s := { live with stops := { live.stops with estop1 := { steadyFilter false with new := true } } }
    let x : SafetySample := ⟨true, false, true, 0#8⟩
    s.running = true ∧ (getFilter (after (.inputSample x) s).stops .estop1).filtered ≠ (getFilter s.stops .estop1).filtered ∧
      (after (.inputSample x) s).notices.input.detail = some 1#24 ∧
      (after (.inputSample ⟨false, false, true, 0#8⟩) live).notices.input = live.notices.input := by decide

theorem witness_TakesAreCreatedAndRetired_cues :
    let q : CueOperands := ⟨128#8, 600000#32, 600000#32, 1#8, 511#16⟩
    cueValid q = true ∧ cueValid { q with mark := 1#8, travel := 1#32, dwell := 0#32, curve := 0#8, mask := 256#16 } = true ∧
      cueValid { q with mark := 129#8 } = false ∧ cueValid { q with travel := 0#32 } = false ∧
      cueValid { q with dwell := 600001#32 } = false ∧ cueValid { q with curve := 2#8 } = false ∧
      cueValid { q with mask := 512#16 } = false ∧ stored.canReceive = true := by decide

theorem witness_EngineMillisecondsAdvanceTheTake_still :
    (inPlay .armed 1 9).engine.state = .armed ∧ live.engine.state = .idle := by decide

set_option maxRecDepth 8000 in
theorem test_takeAbort_notice :
    (after .takeAbort (inPlay .playing 2 0)).notices.take.detail = some ⟨3, .idle, .aborted, 2⟩ := by decide

theorem witness_LensRecordsAreKept_limits :
    live.lens.selected = none ∧ tracking.lens.selected = some 1 ∧ tracking.lens.banks.get 1 = some map35 ∧
      map35.points ≠ [] ∧ map35.iris = some ⟨2000, 60000⟩ ∧ map35.zoom = none ∧ tracking.limits .focus = (4000, 58000) ∧
      tracking.canReceive = true ∧ 4 ≤ (4#8).toNat ∧ (254#8).toNat ≤ 254 := by decide

/-- O13: a command that a frame can bring, and one of NOTICE's own code that none can. -/
theorem witness_EveryUnitFrameIsAnswered_wellFormed :
    wellFormed (.stop .unit) = true ∧ wellFormed .ident = true ∧ wellFormed (.unknownCode 0x03#8 []) = false := by decide

/-- `stopping` with the deadline timer and FRAME present short of their ends. -/
def counting : State :=
  { stopping with stops := { stopping.stops with deadlineTimer := some ⟨1998, 2000⟩, frame := ⟨true, false, 248⟩ } }

set_option maxRecDepth 8000 in
theorem witness_TimedInputsExpire_counting :
    let x : SafetySample := ⟨false, false, true, 0#8⟩
    let t := after (.inputSample x) counting
    counting.running = true ∧ counting.crane.state = .stopping ∧ counting.stops.deadlineTimer = some ⟨1998, 2000⟩ ∧
      counting.stops.frame.present = true ∧ counting.stops.frame.age + 1 < 250 ∧ t.stops.conditions.estop = none ∧
      (∀ i, (t.stops.overtravel.get i).filtered = false) ∧ t.stops.deadlineTimer = some ⟨1999, 2000⟩ ∧
      t.stops.frame.age = 249 ∧ live.crane.state ≠ .stopping ∧
      (after (.inputSample x) live).crane.state = live.crane.state ∧ live.stops.frame.present = false := by decide

theorem witness_ChannelsComeToRest_wheel :
    let s := { liveWith .focus { heldAt 5 with owner := .wheel, mode := .position, target := some 5 } with
      wheels := live.wheels.set 2 ⟨some .focus, 384, 0, 0, some 7⟩ }
    let t := after .channelUpdate s
    s.running = true ∧ wheelsStill s ∧ (s.chan .focus).owner = .wheel ∧ 7 + 1 < s.config.wheelIdle ∧
      (t.wheels.get 2).channel = some .focus ∧ (t.wheels.get 2).idle = some 8 ∧ (t.chan .focus).owner = .wheel ∧
      (s.chan .focus).drive = .active ∧ (s.chan .focus).mode = .position := by
  unfold wheelsStill; decide

/-- `liveWith` a channel record, with wheels 2 and 3 turning for the channel and wheel 1 for none. -/
def turning (c : Chan) (r : Channel) : State :=
  { liveWith c r with
    wheels := ((live.wheels.set 0 ⟨none, 256, 3, 0, some 4⟩).set 1 ⟨some c, -256, 2, 5, none⟩).set 2 ⟨some c, 384, 7, 200, none⟩ }

theorem witness_WheelsHandOverTheirCounts_discarded :
    let s := turning .focus (heldAt 20000)
    let z := { s with wheels := s.wheels.set 2 ⟨some .focus, 0, 7, 200, none⟩ }
    s.running = true ∧ (s.wheels.get 0).channel = none ∧ (s.wheels.get 0).counter ≠ 0 ∧ z.running = true ∧
      (z.wheels.get 2).gain = 0 ∧ (z.wheels.get 2).counter ≠ 0 := by decide

/-- FOCUS is granted to the wheel; SWING, which a take owns and no wheel may overtake, is not. -/
theorem witness_WheelsHandOverTheirCounts_two : ∀ granted,
    let c := if granted then Chan.focus else .swing
    let u := turning c (if granted then heldAt 20000 else { heldAt 0 with owner := .take, mode := .path })
    let s := { u with wheels := u.wheels.set 0 ⟨none, 0, 0, 0, none⟩ }
    s.running = true ∧ (∀ k : Fin 4, k = 1 ∨ k = 2 → (s.wheels.get k).channel = some c ∧
        (s.wheels.get k).counter ≠ 0 ∧ (s.wheels.get k).gain ≠ 0) ∧
      (∀ k : Fin 4, k ≠ 1 → k ≠ 2 → (s.wheels.get k).counter = 0) ∧ claimAllowed s c = true ∧
      (ownerTest .wheel c (s.chan c) = none ↔ granted = true) ∧ (s.chan c).drive = .active ∧ LimitsOrdered s := by
  intro granted
  refine ⟨by cases granted <;> decide, by cases granted <;> decide, by cases granted <;> decide, by cases granted <;> decide,
    by cases granted <;> decide, by cases granted <;> decide, ⟨?_, ?_, ?_⟩⟩
  any_goals (intro c; cases granted <;> cases c <;> decide)
  all_goals (intro b m p h; cases granted <;> fin_cases b <;> cases h)

/-- R22: both wheels contribute, each with its own carry: -2 from one (rest 5), and from the other 11 (rest 72). -/
theorem test_twoWheels :
    let t := after .channelUpdate (turning .focus (heldAt 20000))
    ((t.chan .focus).target, (t.wheels.get 1).carry, (t.wheels.get 2).carry, (t.wheels.get 0).idle) =
      (some 20009, 5, 72, some 5) := by decide

theorem witness_FramesThatAreNoRequest_short :
    live.canReceive = true ∧ ([1#8] : List Byte).length < 2 ∧ ([1#8, 0#8, 7#8, 1#8] : List Byte).length < 5 ∧
      ([0#8, 0#8, 7#8] : List Byte).length < 4 := by decide

/-- R140, R162: an executed broadcast has its effect and no answer. -/
theorem witness_FramesThatAreNoRequest_broadcast :
    let s := inPlay .armed 1 0
    s.canReceive = true ∧ (after (.takeGo .broadcast 0#8) s).engine.state = .playing ∧
      (after (.takeGo .broadcast 0#8) s).link.de = false ∧
      (after (.targetSet .broadcast 2#8 5#32 6#32 7#32 0#16) s).findTarget 2 = some ⟨2, 5, 6, 7, 0, 0⟩ := by decide

/-- FOCUS of WHEEL at its target, the idle timer of its wheel expired or not. -/
theorem witness_PositionModeReachesTheTarget_wheel : ∀ expired,
    let s := { liveWith .focus { heldAt 5 with owner := .wheel, mode := .position, target := some 5 } with
      wheels := live.wheels.set 2 ⟨some .focus, 384, 0, 0, if expired then none else some 7⟩ }
    s.running = true ∧ wheelsStill s ∧ (s.chan .focus).drive = .active ∧ (s.chan .focus).mode = .position ∧
      (s.chan .focus).target = some 5 ∧ (s.chan .focus).owner = .wheel ∧ s.lo .focus ≤ (s.chan .focus).setpoint ∧
      (s.chan .focus).setpoint ≤ s.hi .focus ∧ (s.chan .focus).fraction < 1000 ∧ (s.chan .focus).stopDecel = false ∧
      ((∀ i, (s.wheels.get i).channel = some .focus → idleAfter s.config.wheelIdle (s.wheels.get i).idle = none) ↔
        expired = true) := by
  unfold wheelsStill; decide

theorem witness_WheelsHandOverTheirCounts_profile :
    let s := { liveWith .focus (heldAt 20000) with wheels := live.wheels.set 2 ⟨some .focus, 384, 7, 0, none⟩ }
    s.lo .focus ≤ (s.chan .focus).setpoint ∧ (s.chan .focus).setpoint ≤ s.hi .focus ∧ (s.chan .focus).fraction < 1000 ∧
      claimAllowed s .focus = true ∧ (s.chan .focus).drive = .active := by decide

end Sys2Proof.Tests
end

/-! The sine table and the quarter-wave function (R50, R51), the quadrants of sine and cosine (R52) and the floor
square root (R60). -/

namespace Sys2Proof.Machine

/-! ## The sine table -/

set_option maxRecDepth 4000 in
theorem sineTable_length : sineTable.length = 257 := by decide

set_option maxRecDepth 4000 in
theorem sineTable_isChain : sineTable.IsChain (· ≤ ·) := by decide

theorem sineEntry_eq_getElem {i : Nat} (h : i < sineTable.length) : sineEntry i = sineTable[i] :=
  (List.getElem_eq_getD _).symm

theorem sineEntry_zero : sineEntry 0 = 0 := rfl

/-- The model's default continues the table at its last entry, so the facts below need no bound on the index. -/
theorem sineEntry_of_last_le {i : Nat} (h : 256 ≤ i) : sineEntry i = 16384 := by
  obtain rfl | h := h.eq_or_lt
  · rfl
  · exact List.getD_eq_default _ _ (sineTable_length ▸ h)

theorem sineEntry_mono : Monotone sineEntry := monotone_nat_of_le_succ fun i => by
  obtain h | h := lt_or_ge i 256
  · have hi : i + 1 < sineTable.length := by rw [sineTable_length]; omega
    rw [sineEntry_eq_getElem hi, sineEntry_eq_getElem (by omega)]
    exact List.isChain_iff_getElem.mp sineTable_isChain i hi
  · rw [sineEntry_of_last_le h, sineEntry_of_last_le (by omega)]

/-! ## The interpolated part of R51, for a difference of entries that is not negative -/

theorem interpolated_nonneg {d : Int} (hd : 0 ≤ d) (f : Nat) : 0 ≤ (d * f + 32) / 64 := by
  have : 0 ≤ d * f := by positivity
  omega

theorem interpolated_le {d : Int} (hd : 0 ≤ d) {f : Nat} (hf : f < 64) : (d * f + 32) / 64 ≤ d := by
  have : d * f ≤ d * 63 := by gcongr; omega
  omega

theorem interpolated_mono {d : Int} (hd : 0 ≤ d) {f g : Nat} (h : f ≤ g) : (d * f + 32) / 64 ≤ (d * g + 32) / 64 := by
  have : d * f ≤ d * g := by gcongr
  omega

/-! ## The quarter-wave function -/

/-- R51 without its exception: at 16,384 the continued table gives an interpolated part of zero. -/
theorem quarterSine_eq (x : Nat) : quarterSine x = sineEntry (x / 64) +
    ((sineEntry (x / 64 + 1) - sineEntry (x / 64)) * Int.ofNat (x % 64) + 32) / 64 := by
  by_cases h : x / 64 = 256
  · simp [quarterSine, h, sineEntry_of_last_le]
  · simp [quarterSine, h, floorDiv]

theorem sineEntry_step_nonneg (i : Nat) : 0 ≤ sineEntry (i + 1) - sineEntry i :=
  sub_nonneg.mpr (sineEntry_mono i.le_succ)

theorem sineEntry_le_quarterSine (x : Nat) : sineEntry (x / 64) ≤ quarterSine x := by
  have := interpolated_nonneg (sineEntry_step_nonneg (x / 64)) (x % 64)
  rw [quarterSine_eq]
  exact le_add_of_nonneg_right this

theorem quarterSine_le_sineEntry (x : Nat) : quarterSine x ≤ sineEntry (x / 64 + 1) := by
  have := interpolated_le (sineEntry_step_nonneg (x / 64)) (Nat.mod_lt x (by decide : 0 < 64))
  rw [quarterSine_eq]
  exact le_sub_iff_add_le'.mp this

theorem quarterSine_mul (i : Nat) : quarterSine (64 * i) = sineEntry i := by
  simp [quarterSine_eq]

theorem quarterSine_zero : quarterSine 0 = 0 := (quarterSine_mul 0).trans sineEntry_zero

theorem quarterSine_last : quarterSine 16384 = 16384 := (quarterSine_mul 256).trans (sineEntry_of_last_le le_rfl)

/-- Within one interval the interpolated part grows; between two, a table entry stands between the values. -/
theorem quarterSine_mono : Monotone quarterSine := fun x y hxy => by
  obtain h | h := (Nat.div_le_div_right (c := 64) hxy).eq_or_lt
  · have hf : x % 64 ≤ y % 64 := by omega
    rw [quarterSine_eq, quarterSine_eq, ← h]
    exact add_le_add_right (interpolated_mono (sineEntry_step_nonneg _) hf) _
  · calc quarterSine x ≤ sineEntry (x / 64 + 1) := quarterSine_le_sineEntry x
      _ ≤ sineEntry (y / 64) := sineEntry_mono h
      _ ≤ quarterSine y := sineEntry_le_quarterSine y

theorem quarterSine_nonneg (x : Nat) : 0 ≤ quarterSine x :=
  quarterSine_zero ▸ quarterSine_mono x.zero_le

theorem quarterSine_le {x : Nat} (h : x ≤ 16384) : quarterSine x ≤ 16384 :=
  (quarterSine_mono h).trans_eq quarterSine_last

/-! ## The quadrants of R52

All but the fourth take the end of their quadrant in as well: there the two quadrants that meet agree. -/

section Quadrants

variable {a : Int} {x : Nat}

theorem quadrant_div_mod {q : Nat} (hx : x < 16384) (h : a % 65536 = 16384 * q + x) :
    (a % 65536).toNat / 16384 = q ∧ (a % 65536).toNat % 16384 = x := by
  omega

theorem sine_fourth_quadrant (hx : x < 16384) (h : a % 65536 = 49152 + x) : sine a = -quarterSine (16384 - x) := by
  obtain ⟨hq, hm⟩ := quadrant_div_mod (q := 3) hx h
  simp [sine, hq, hm]

theorem sine_third_quadrant (hx : x ≤ 16384) (h : a % 65536 = 32768 + x) : sine a = -quarterSine x := by
  obtain rfl | hx := hx.eq_or_lt
  · exact sine_fourth_quadrant (x := 0) (by decide) h
  · obtain ⟨hq, hm⟩ := quadrant_div_mod (q := 2) hx h
    simp [sine, hq, hm]

theorem sine_second_quadrant (hx : x ≤ 16384) (h : a % 65536 = 16384 + x) : sine a = quarterSine (16384 - x) := by
  obtain rfl | hx := hx.eq_or_lt
  · rw [sine_third_quadrant (x := 0) (by decide) h, Nat.sub_self, quarterSine_zero, neg_zero]
  · obtain ⟨hq, hm⟩ := quadrant_div_mod (q := 1) hx h
    simp [sine, hq, hm]

theorem sine_first_quadrant (hx : x ≤ 16384) (h : a % 65536 = x) : sine a = quarterSine x := by
  obtain rfl | hx := hx.eq_or_lt
  · exact sine_second_quadrant (x := 0) (by decide) h
  · obtain ⟨hq, hm⟩ := quadrant_div_mod (q := 0) hx (by simpa using h)
    simp [sine, hq, hm]

end Quadrants

theorem exists_quadrant (a : Int) : ∃ x : Nat, x < 16384 ∧
    (a % 65536 = x ∨ a % 65536 = 16384 + x ∨ a % 65536 = 32768 + x ∨ a % 65536 = 49152 + x) :=
  ⟨(a % 16384).toNat, by omega⟩

theorem sine_neg (a : Int) : sine (-a) = -sine a := by
  obtain ⟨x, hx, h | h | h | h⟩ := exists_quadrant a
  · rw [sine_first_quadrant hx.le h]
    obtain rfl | hpos := x.eq_zero_or_pos
    · rw [sine_first_quadrant (x := 0) (by decide) (by omega), quarterSine_zero, neg_zero]
    · rw [sine_fourth_quadrant (x := 16384 - x) (by omega) (by omega), Nat.sub_sub_self hx.le]
  · rw [sine_second_quadrant hx.le h, sine_third_quadrant (x := 16384 - x) (by omega) (by omega)]
  · rw [sine_third_quadrant hx.le h, sine_second_quadrant (x := 16384 - x) (by omega) (by omega),
      Nat.sub_sub_self hx.le, neg_neg]
  · rw [sine_fourth_quadrant hx h, sine_first_quadrant (x := 16384 - x) (by omega) (by omega), neg_neg]

theorem sine_le (a : Int) : sine a ≤ 16384 := by
  obtain ⟨x, hx, h | h | h | h⟩ := exists_quadrant a
  · exact sine_first_quadrant hx.le h ▸ quarterSine_le hx.le
  · exact sine_second_quadrant hx.le h ▸ quarterSine_le (by omega)
  · linarith [sine_third_quadrant hx.le h, quarterSine_nonneg x]
  · linarith [sine_fourth_quadrant hx h, quarterSine_nonneg (16384 - x)]

theorem le_sine (a : Int) : -16384 ≤ sine a := by
  linarith [sine_neg a, sine_le (-a)]

/-! ## The floor square root -/

/-- The root found so far and the bits still open enclose the root; trying the next bit halves the range. -/
theorem isqrtBits_eq_sqrt {n k m : Nat} (hlo : m * m ≤ n) (hhi : n < (m + 2 ^ k) * (m + 2 ^ k)) :
    isqrtBits n k m = Nat.sqrt n := by
  induction k generalizing m with
  | zero => exact Nat.eq_sqrt.mpr ⟨hlo, hhi⟩
  | succ k ih =>
    rw [isqrtBits]
    split
    next hbit => exact ih hbit (by rwa [add_assoc, ← two_mul, ← pow_succ'])
    next hbit => exact ih hlo (not_le.mp hbit)

/-- R60 and R61: a greater operand saturates. -/
theorem isqrt_eq_sqrt_min (n : Nat) : isqrt n = Nat.sqrt (min n (2 ^ 64 - 1)) :=
  isqrtBits_eq_sqrt (Nat.zero_le _) (by omega)

theorem isqrt_eq_sqrt {n : Nat} (h : n ≤ 2 ^ 64 - 1) : isqrt n = Nat.sqrt n := by
  rw [isqrt_eq_sqrt_min, min_eq_left h]

theorem isqrt_greatest {n : Nat} (h : n ≤ 2 ^ 64 - 1) : isqrt n * isqrt n ≤ n ∧ ∀ m, m * m ≤ n → m ≤ isqrt n := by
  rw [isqrt_eq_sqrt h]
  exact ⟨Nat.sqrt_le n, fun _ => Nat.le_sqrt.mpr⟩

/-! ## The obligation -/

/-- Settles O39: R51 by the monotone table and the interpolated part, R52 by quadrants, R60 by the bits of the root. -/
theorem sineAndRootAreExact : Obligations.SineAndRootAreExact := by
  refine ⟨⟨fun x _ => ⟨quarterSine_eq x, sineEntry_le_quarterSine x, quarterSine_le_sineEntry x⟩,
    ⟨quarterSine_last, fun i _ => quarterSine_mul i⟩, fun _ _ hxy _ => quarterSine_mono hxy,
    fun a x hx => ⟨sine_first_quadrant hx.le, sine_second_quadrant hx.le, sine_third_quadrant hx.le,
      sine_fourth_quadrant hx⟩,
    fun a => ⟨rfl, sine_neg a, le_sine a, sine_le a⟩, ?_⟩, fun _ => isqrt_greatest, ?_⟩
  · decide
  · decide

end Sys2Proof.Machine

/-! The focus lookup of R167. Over points of ascending distance a lookup starts at any point the distance has reached: the
points before it play no part. -/

namespace Sys2Proof.Machine

/-! ## The count between two points -/

/-- Truncation toward zero keeps a part of `a` between 0 and `a`, whatever the sign of `a`. -/
theorem mul_tdiv_mem_uIcc (a : Int) {x y : Int} (hx : 0 ≤ x) (hxy : x ≤ y) : (a * x).tdiv y ∈ Set.uIcc 0 a := by
  have of_nonneg {b : Int} (hb : 0 ≤ b) : 0 ≤ (b * x).tdiv y ∧ (b * x).tdiv y ≤ b := by
    refine ⟨Int.tdiv_nonneg (by positivity) (hx.trans hxy), ?_⟩
    obtain rfl | hy := (hx.trans hxy).eq_or_lt
    · simpa using hb
    · calc (b * x).tdiv y ≤ (b * y).tdiv y := Int.tdiv_le_tdiv hy (by gcongr)
        _ = b := Int.mul_tdiv_cancel b hy.ne'
  obtain ha | ha := le_total 0 a
  · exact Set.mem_uIcc.mpr (.inl (of_nonneg ha))
  · have := of_nonneg (neg_nonneg.mpr ha)
    rw [neg_mul, Int.neg_tdiv] at this
    exact Set.mem_uIcc.mpr (.inr (by omega))

section Between

variable {p q : MapPoint} {d : Nat}

theorem between_left : between p q p.distance = Int.ofNat p.count := by
  simp [between, truncDiv]

theorem between_right (h : p.distance < q.distance) : between p q q.distance = Int.ofNat q.count := by
  have : (q.distance : Int) - p.distance ≠ 0 := by omega
  simp [between, truncDiv, Int.mul_tdiv_cancel _ this]

theorem between_mem_uIcc (hp : p.distance ≤ d) (hq : d ≤ q.distance) :
    between p q d ∈ Set.uIcc (Int.ofNat p.count) (Int.ofNat q.count) := by
  have := mul_tdiv_mem_uIcc (Int.ofNat q.count - Int.ofNat p.count) (x := Int.ofNat d - Int.ofNat p.distance)
    (y := Int.ofNat q.distance - Int.ofNat p.distance) (by simpa) (by simpa)
  rw [Set.mem_uIcc] at this ⊢
  unfold between truncDiv
  omega

end Between

/-! ## The lookup along the points -/

section Lookup

variable {p q : MapPoint} {rest points : List MapPoint} {d i : Nat}

theorem lookupFrom_of_lt (h : d < q.distance) : lookupFrom d p (q :: rest) = (between p q d, false) :=
  if_pos h

theorem lookupFrom_of_le (h : q.distance ≤ d) : lookupFrom d p (q :: rest) = lookupFrom d q rest :=
  if_neg h.not_gt

theorem focusLookup_of_lt (h : d < p.distance) : focusLookup (p :: rest) d = (Int.ofNat p.count, true) :=
  if_pos h

theorem focusLookup_of_le (h : p.distance ≤ d) : focusLookup (p :: rest) d = lookupFrom d p rest :=
  if_neg h.not_gt

theorem distance_le_of_getElem? (hasc : (p :: rest).Pairwise (fun a b => a.distance < b.distance))
    (hq : (p :: rest)[i]? = some q) : p.distance ≤ q.distance := by
  obtain rfl | hmem := List.mem_cons.mp (List.mem_of_getElem? hq)
  · exact le_rfl
  · exact (List.rel_of_pairwise_cons hasc hmem).le

theorem lookupFrom_eq_of_getElem? (hasc : rest.Pairwise (fun a b => a.distance < b.distance))
    (hq : rest[i]? = some q) (hd : q.distance ≤ d) : lookupFrom d p rest = lookupFrom d q (rest.drop (i + 1)) := by
  induction rest generalizing p i with
  | nil => simp at hq
  | cons r rest ih =>
    rw [lookupFrom_of_le ((distance_le_of_getElem? hasc hq).trans hd)]
    cases i with
    | zero => cases hq; rfl
    | succ i => exact ih hasc.of_cons hq

/-- The lookup of a distance that a point has reached is the lookup from that point on. -/
theorem focusLookup_eq_of_getElem? (hasc : points.Pairwise (fun a b => a.distance < b.distance))
    (hq : points[i]? = some q) (hd : q.distance ≤ d) : focusLookup points d = lookupFrom d q (points.drop (i + 1)) := by
  cases points with
  | nil => simp at hq
  | cons p rest =>
    rw [focusLookup_of_le ((distance_le_of_getElem? hasc hq).trans hd)]
    cases i with
    | zero => cases hq; rfl
    | succ i => exact lookupFrom_eq_of_getElem? hasc.of_cons hq hd

/-- R167: a distance equal to the last point's leaves RANGE clear. -/
theorem focusLookup_of_last (hasc : points.Pairwise (fun a b => a.distance < b.distance))
    (hq : points[i]? = some q) (hlast : points[i + 1]? = none) (hd : q.distance ≤ d) :
    focusLookup points d = (Int.ofNat q.count, decide (q.distance < d)) := by
  rw [focusLookup_eq_of_getElem? hasc hq hd, List.drop_eq_nil_of_le (List.getElem?_eq_none_iff.mp hlast), lookupFrom]

theorem focusLookup_of_getLast? (hasc : points.Pairwise (fun a b => a.distance < b.distance))
    (hq : points.getLast? = some q) (hd : q.distance < d) : focusLookup points d = (Int.ofNat q.count, true) := by
  rw [List.getLast?_eq_getElem?] at hq
  rw [focusLookup_of_last hasc hq (List.getElem?_eq_none (by omega)) hd.le, decide_eq_true hd]

theorem distance_lt_of_getElem? (hasc : points.Pairwise (fun a b => a.distance < b.distance))
    (hp : points[i]? = some p) (hq : points[i + 1]? = some q) : p.distance < q.distance := by
  obtain ⟨_, rfl⟩ := List.getElem?_eq_some_iff.mp hp
  obtain ⟨_, rfl⟩ := List.getElem?_eq_some_iff.mp hq
  exact List.pairwise_iff_getElem.mp hasc _ _ _ _ i.lt_succ_self

/-- The bracket's upper end belongs to it where q is the last point: there the count between is that of q. -/
theorem focusLookup_eq_between (hasc : points.Pairwise (fun a b => a.distance < b.distance))
    (hp : points[i]? = some p) (hq : points[i + 1]? = some q) (hpd : p.distance ≤ d) (hdq : d ≤ q.distance)
    (hend : ∀ r, points[i + 2]? = some r → d < q.distance) : focusLookup points d = (between p q d, false) := by
  obtain hlt | rfl := hdq.lt_or_eq
  · obtain ⟨hi, rfl⟩ := List.getElem?_eq_some_iff.mp hq
    rw [focusLookup_eq_of_getElem? hasc hp hpd, List.drop_eq_getElem_cons hi, lookupFrom_of_lt hlt]
  · have hlast : points[i + 2]? = none := Option.eq_none_iff_forall_ne_some.mpr fun r hr => (hend r hr).false
    rw [focusLookup_of_last hasc hq hlast le_rfl, between_right (distance_lt_of_getElem? hasc hp hq),
      decide_eq_false (lt_irrefl _)]

theorem focusLookup_at_point (hasc : points.Pairwise (fun a b => a.distance < b.distance)) (hp : p ∈ points) :
    focusLookup points p.distance = (Int.ofNat p.count, false) := by
  obtain ⟨i, hi⟩ := List.mem_iff_getElem?.mp hp
  cases hq : points[i + 1]? with
  | none => rw [focusLookup_of_last hasc hi hq le_rfl, decide_eq_false (lt_irrefl _)]
  | some q =>
    have hpq := distance_lt_of_getElem? hasc hi hq
    rw [focusLookup_eq_between hasc hi hq le_rfl hpq.le fun _ _ => hpq, between_left]

end Lookup

/-! ## The span of the map -/

section Span

variable {p : MapPoint} {rest points : List MapPoint} {d : Nat} {lo hi : Int}

theorem lookupFrom_mem_Icc (hd : p.distance ≤ d) (h : ∀ q ∈ p :: rest, Int.ofNat q.count ∈ Set.Icc lo hi) :
    (lookupFrom d p rest).1 ∈ Set.Icc lo hi := by
  induction rest generalizing p with
  | nil => exact h p (by simp)
  | cons q rest ih =>
    obtain hlt | hle := lt_or_ge d q.distance
    · rw [lookupFrom_of_lt hlt]
      exact Set.uIcc_subset_Icc (h p (by simp)) (h q (by simp)) (between_mem_uIcc hd hlt.le)
    · rw [lookupFrom_of_le hle]
      exact ih hle fun r hr => h r (.tail _ hr)

theorem focusLookup_mem_Icc (hne : points ≠ []) (h : ∀ q ∈ points, Int.ofNat q.count ∈ Set.Icc lo hi) :
    (focusLookup points d).1 ∈ Set.Icc lo hi := by
  obtain ⟨p, rest, rfl⟩ := List.exists_cons_of_ne_nil hne
  obtain hlt | hle := lt_or_ge d p.distance
  · rw [focusLookup_of_lt hlt]
    exact h p (by simp)
  · rw [focusLookup_of_le hle]
    exact lookupFrom_mem_Icc hle h

end Span

/-! ## The obligation -/

/-- Settles O59: the lookup starts at the point of the bracket, and the count between two points lies between theirs. -/
theorem focusIsLookedUpInTheMap : Obligations.FocusIsLookedUpInTheMap := by
  intro points d hasc
  refine ⟨?first, fun q => focusLookup_of_getLast? hasc, ?within, fun p hp _ => focusLookup_at_point hasc hp,
    ?span⟩
  case first =>
    rintro p rest rfl hd
    exact focusLookup_of_lt hd
  case within =>
    intro i p q hp hq hpd hdq hend
    have hlookup := focusLookup_eq_between hasc hp hq hpd hdq hend
    exact ⟨hlookup, hlookup ▸ between_mem_uIcc hpd hdq⟩
  case span =>
    intro lo hi hne h
    exact focusLookup_mem_Icc hne fun q hq => by simpa using h q hq

end Sys2Proof.Machine

/-! What one command can do to the part: `Effect` says it once for all commands, by the acceptance of a frame (R177), the
link's own changes, the periodic events, and the events of power and RESET. -/

namespace Sys2Proof.Machine

/-! ## The effect of a command -/

/-- Two link records that differ in receiver, buffer, gap count and DE alone. -/
structure SameTimers (l m : LinkRecord) : Prop where
  periodic : l.periodic = m.periodic
  noticeTimer : l.noticeTimer = m.noticeTimer
  address : l.address = m.address
  rate : l.rate = m.rate

/-- The events that a running part meets, other than those of the link. -/
inductive Event (s : State) : State → Prop
  | channelUpdate : Event s (channelUpdate s)
  | wheelEdge (w : Fin 4) (up : Bool) : Event s (wheelEdge w up s)
  | driveExchange (replies : PerChannel (Option (List Byte))) : Event s (driveExchange replies s)
  | slotEvent : Event s (slotEvent s)
  | geometryUpdate : Event s (geometryUpdate s)
  | presenceSample (levels : BitVec 12) : Event s (presenceSample levels s)
  | zoneEvaluation : Event s (zoneEvaluation s)
  | inputSample (x : SafetySample) : Event s (inputSample x s)
  | frameEdge : Event s (frameEdge s)
  | engineMillisecond : Event s (engineMillisecond s)
  | lensUpdate : Event s (lensUpdate s)

/-- The command is the arrival of a frame, or the character that may complete one. -/
def bringsFrame (i : Instr) : Prop := requestBytes i ≠ none ∨ ∃ v e, i = .dataCharacter v e

/-- The command is one of the three timer events of R181 to R184. -/
def timerCommand (i : Instr) : Prop := i ∈ [Instr.consoleTimerEvent, .periodicTimerExpiry, .noticeTimerExpiry]

/-- All that a command can do. -/
inductive Effect (i : Instr) (s : State) : State → Prop
  | nothing : Effect i s s
  | receiver (l : LinkRecord) (running : s.running = true) (same : SameTimers l s.link) (silent : l.receiver ≠ .answering) :
      Effect i s { s with link := l }
  | request (j : Instr) (l : LinkRecord) (receives : s.canReceive = true) (frame : bringsFrame i)
      (same : SameTimers l (takeRequest j (serveSupervision s)).1.link) :
      Effect i s { (takeRequest j (serveSupervision s)).1 with link := l }
  | timers (running : s.running = true) (timer : timerCommand i) : Effect i s (tickLinkTimers s)
  | expiry (k : LinkKind) (n : Nat) (running : s.running = true) (timer : timerCommand i) :
      Effect i s (expireLink k { tickLinkTimers s with freeCount := n })
  | event (t : State) (running : s.running = true) (event : Event s t) : Effect i s t
  | held (p : PowerRecord) (off : (p.mainOn && !p.resetLow) = false)
      (command : (i = .resetAssert ∧ s.running = true) ∨ i = .powerLoss) : Effect i s { holdInReset s with power := p }
  | backup (p : PowerRecord) (main : p.mainOn = s.power.mainOn) (reset : p.resetLow = s.power.resetLow)
      (command : i = .backupSupplyLoss) :
      Effect i s { s with power := p }
  | reset (warm : Bool) (cause : ResetCause) (straps : Straps) (p : PowerRecord) (off : s.running = false)
      (command : (∃ ms x, i = .resetRelease ms x) ∨ ∃ x, i = .powerUp x) :
      Effect i s (performReset warm cause straps { s with power := p })

section Effects

variable {i : Instr} {s : State}

theorem effect_acceptUnit (f : State → State × Reply) (j : Instr) (hi : bringsFrame i)
    (hf : (f (serveSupervision s)).1 = (takeRequest j (serveSupervision s)).1) : Effect i s (acceptUnit f s) := by
  unfold acceptUnit
  split
  next h =>
    simp only [sendReply, hf]
    exact .request j _ h hi ⟨rfl, rfl, rfl, rfl⟩
  next => exact .nothing

theorem effect_acceptBroadcast (data : List Byte) (f : State → State × Reply) (j : Instr) (hi : bringsFrame i)
    (hf : (f (serveSupervision s)).1 = (takeRequest j (serveSupervision s)).1) :
    Effect i s (acceptBroadcast data f s) := by
  unfold acceptBroadcast
  split
  next h =>
    simp only [endBroadcast, hf]
    exact .request j _ h hi ⟨rfl, rfl, rfl, rfl⟩
  next => exact .nothing

theorem effect_acceptFrom (origin : Origin) (data : List Byte) (j : Instr) (hi : bringsFrame i) :
    Effect i s (acceptFrom origin data (takeRequest j) s) := by
  cases origin
  · exact effect_acceptUnit _ j hi rfl
  · exact effect_acceptBroadcast _ _ j hi rfl

/-- A frame that spells no request does what a command that is none does. -/
theorem decodeAndTake_fst (o : Origin) (code : Byte) (ops : List Byte) (s : State) :
    ∃ j, (decodeAndTake o code ops s).1 = (takeRequest j s).1 := by
  unfold decodeAndTake
  cases decodeRequest o code ops with
  | ok j => exact ⟨j, rfl⟩
  | error r => exact ⟨.lineBreak, rfl⟩

theorem broadcastRequest_fst (code : Byte) (ops : List Byte) (s : State) :
    ∃ j, (broadcastRequest code ops s).1 = (takeRequest j s).1 := by
  unfold broadcastRequest
  split
  · exact decodeAndTake_fst _ _ _ _
  · exact ⟨.lineBreak, rfl⟩

theorem effect_acceptUnitFrame (code : Byte) (ops : List Byte) (hi : bringsFrame i) :
    Effect i s (acceptUnitFrame code ops s) := by
  obtain ⟨j, hj⟩ := decodeAndTake_fst .unit code ops (serveSupervision s)
  exact effect_acceptUnit _ j hi hj

theorem effect_acceptBroadcastFrame (code : Byte) (ops : List Byte) (hi : bringsFrame i) :
    Effect i s (acceptBroadcastFrame code ops s) := by
  obtain ⟨j, hj⟩ := broadcastRequest_fst code ops (serveSupervision s)
  exact effect_acceptBroadcast _ _ j hi hj

theorem effect_whileRunning {f : State → State} (h : s.running = true → Effect i s (f s)) :
    Effect i s (whileRunning f s) := by
  unfold whileRunning
  split
  next hr => exact h hr
  next => exact .nothing

theorem effect_eventOf {f : State → State} (p : State → State → Bool) (h : Event s (f s)) :
    Effect i s (eventOf f p s) :=
  effect_whileRunning fun hr => by
    dsimp only
    split
    · exact .event _ hr h
    · exact .nothing

theorem effect_event {f : State → State} (h : Event s (f s)) : Effect i s (whileRunning f s) :=
  effect_whileRunning fun hr => .event _ hr h

theorem effect_discardFrame (hr : s.running = true) : Effect i s (discardFrame s) :=
  .receiver _ hr ⟨rfl, rfl, rfl, rfl⟩ nofun

theorem effect_dataCharacter (hr : s.running = true) (hi : bringsFrame i) (v : Byte) (e : Bool) :
    Effect i s (dataCharacter v e s) := by
  unfold dataCharacter
  split
  · exact .nothing
  · exact .nothing
  · split
    · exact effect_discardFrame hr
    · unfold takeLength; split
      · exact .receiver _ hr ⟨rfl, rfl, rfl, rfl⟩ nofun
      · exact effect_discardFrame hr
  next o ho =>
    split
    · exact effect_discardFrame hr
    · unfold takeByte; dsimp only; split
      · split
        · unfold acceptFrame; split
          · split
            · exact effect_acceptUnitFrame _ _ hi
            · exact effect_acceptBroadcastFrame _ _ hi
          · exact effect_discardFrame hr
        · exact effect_discardFrame hr
      · exact .receiver _ hr ⟨rfl, rfl, rfl, rfl⟩ (by simp [ho])

theorem effect_addressCharacter (hr : s.running = true) (v : Byte) (e : Bool) :
    Effect i s (addressCharacter v e s) := by
  unfold addressCharacter
  split
  · split
    · exact effect_discardFrame hr
    · exact .nothing
  · refine .receiver _ hr ⟨rfl, rfl, rfl, rfl⟩ ?_
    dsimp only [addressed]
    split_ifs <;> exact nofun

theorem effect_consoleTimer (hr : s.running = true) (hi : timerCommand i) : Effect i s (consoleTimer s) := by
  unfold consoleTimer
  dsimp only
  split
  · exact .timers hr hi
  · exact .expiry _ s.freeCount hr hi
  · exact .expiry _ s.freeCount hr hi
  · exact .expiry _ _ hr hi

theorem effect_resetAssert : Effect .resetAssert s (resetAssert s) := by
  unfold resetAssert
  split
  next h => exact .held _ (by simp) (.inl ⟨rfl, h⟩)
  · exact .nothing

theorem effect_powerLoss : Effect .powerLoss s (powerLoss s) := by
  unfold powerLoss
  split
  · exact .held _ (by simp) (.inr rfl)
  · exact .nothing

theorem effect_resetRelease (ms : Nat) (x : Straps) : Effect (.resetRelease ms x) s (resetRelease ms x s) := by
  unfold resetRelease
  split
  next h =>
    have off : s.running = false := by simp [State.running, h.2]
    split
    · exact .reset false _ x s.power off (.inl ⟨_, _, rfl⟩)
    · exact .reset true _ x s.power off (.inl ⟨_, _, rfl⟩)
  next => exact .nothing

theorem effect_powerUp (x : Straps) : Effect (.powerUp x) s (powerUp x s) := by
  unfold powerUp
  split
  next => exact .nothing
  next h => exact .reset true _ x _ (by simp [State.running, h]) (.inr ⟨_, rfl⟩)

end Effects

/-- A request is taken by the acceptance of its frame (R177, R179). -/
theorem exec_request {i : Instr} {data : List Byte} (h : requestBytes i = some data)
    (hu : ∀ c o, i ≠ .unknownCode c o) (hb : ∀ c o, i ≠ .broadcastIgnored c o) (s : State) :
    exec i s = .next (acceptFrom (requestOrigin i) data (takeRequest i) s) := by
  cases i <;> simp only [requestBytes, Option.some.injEq, reduceCtorEq] at h
  case unknownCode c o => exact absurd rfl (hu c o)
  case broadcastIgnored c o => exact absurd rfl (hb c o)
  all_goals subst h; rfl

theorem effect_request {i : Instr} {s t : State} (h : requestBytes i ≠ none)
    (hu : ∀ c o, i ≠ .unknownCode c o) (hb : ∀ c o, i ≠ .broadcastIgnored c o) (ht : exec i s = .next t) :
    Effect i s t := by
  obtain ⟨data, hd⟩ := Option.ne_none_iff_exists'.mp h
  rw [exec_request hd hu hb] at ht
  cases ht
  exact effect_acceptFrom _ _ _ (.inl h)

/-- Every command does one of the things that `Effect` lists. -/
theorem exec_effect {i : Instr} {s t : State} (h : exec i s = .next t) : Effect i s t := by
  cases i
  case unknownCode c o => cases h; exact effect_acceptUnitFrame c o (.inl (by simp [requestBytes]))
  case broadcastIgnored c o => cases h; exact effect_acceptBroadcastFrame c o (.inl (by simp [requestBytes]))
  case addressCharacter v e =>
    cases h
    split
    next hc => exact effect_addressCharacter (running_of_canReceive s hc) v e
    next => exact .nothing
  case dataCharacter v e =>
    cases h
    split
    next hc => exact effect_dataCharacter (running_of_canReceive s hc) (.inr ⟨_, _, rfl⟩) v e
    next => exact .nothing
  case interCharacterGap =>
    cases h
    refine effect_whileRunning fun hr => ?_
    split
    · exact effect_discardFrame hr
    · exact .nothing
  case lineBreak =>
    cases h
    refine effect_whileRunning fun hr => ?_
    split
    · exact effect_discardFrame hr
    · exact .nothing
  case replyComplete =>
    cases h
    refine effect_whileRunning fun hr => ?_
    split
    · exact .receiver _ hr ⟨rfl, rfl, rfl, rfl⟩ nofun
    · exact .nothing
  case consoleTimerEvent => cases h; exact effect_whileRunning fun hr => effect_consoleTimer hr (by simp [timerCommand])
  case periodicTimerExpiry =>
    cases h
    refine effect_whileRunning fun hr => ?_
    split
    · exact .expiry _ s.freeCount hr (by simp [timerCommand])
    · exact .nothing
  case noticeTimerExpiry =>
    cases h
    refine effect_whileRunning fun hr => ?_
    split
    · exact .expiry _ s.freeCount hr (by simp [timerCommand])
    · exact .nothing
  case channelUpdate => cases h; exact effect_event .channelUpdate
  case inPosition => cases h; exact effect_eventOf _ .channelUpdate
  case decelerationEnd => cases h; exact effect_eventOf _ .channelUpdate
  case wheelIdleRelease => cases h; exact effect_eventOf _ .channelUpdate
  case standstill => cases h; exact effect_eventOf _ .channelUpdate
  case wheelEdge w up => cases h; exact effect_event (.wheelEdge w up)
  case driveExchange replies => cases h; exact effect_event (.driveExchange replies)
  case slotEvent => cases h; exact effect_event .slotEvent
  case armingSlotEnd => cases h; exact effect_eventOf _ .slotEvent
  case parkingSlotEnd => cases h; exact effect_eventOf _ .slotEvent
  case geometryUpdate => cases h; exact effect_event .geometryUpdate
  case presenceSample levels => cases h; exact effect_event (.presenceSample levels)
  case occupancyRelease line levels => cases h; exact effect_eventOf _ (.presenceSample levels)
  case zoneEvaluation => cases h; exact effect_event .zoneEvaluation
  case inputSample x => cases h; exact effect_event (.inputSample x)
  case discrepancyLatch x => cases h; exact effect_eventOf _ (.inputSample x)
  case deadlineExpiry x => cases h; exact effect_eventOf _ (.inputSample x)
  case framePresentLapse x => cases h; exact effect_eventOf _ (.inputSample x)
  case frameEdge => cases h; exact effect_event .frameEdge
  case engineMillisecond => cases h; exact effect_event .engineMillisecond
  case cueInComplete => cases h; exact effect_eventOf _ .engineMillisecond
  case cueEnd => cases h; exact effect_eventOf _ .engineMillisecond
  case pauseReached => cases h; exact effect_eventOf _ .engineMillisecond
  case playEnd => cases h; exact effect_eventOf _ .engineMillisecond
  case frameWaitExpiry => cases h; exact effect_eventOf _ .engineMillisecond
  case lensUpdate => cases h; exact effect_event .lensUpdate
  case targetStale => cases h; exact effect_eventOf _ .lensUpdate
  case resetAssert => cases h; exact effect_resetAssert
  case resetRelease ms x => cases h; exact effect_resetRelease ms x
  case powerLoss => cases h; exact effect_powerLoss
  case powerUp x => cases h; exact effect_powerUp x
  case backupSupplyLoss => cases h; exact .backup _ rfl rfl rfl
  all_goals exact effect_request (by simp [requestBytes]) (by simp) (by simp) h

/-- What every command keeps, every step keeps: on an empty queue the part idles (log entry 8), and the queue itself bears on
nothing. -/
theorem step_keeps {P : State → Prop} (hq : ∀ s q, P s → P { s with pending := q })
    (h : ∀ i s t, P s → Effect i s t → P t) {s t : State} (hs : P s) (ht : step s = .next t) : P t := by
  unfold step at ht
  split at ht
  · cases ht; exact hs
  · exact h _ _ _ (hq _ _ hs) (exec_effect ht)

/-- The empty queue idles; otherwise a step is the front command's. -/
theorem step_cases {s t : State} (ht : step s = .next t) :
    t = s ∨ ∃ i q, exec i { s with pending := q } = .next t := by
  unfold step at ht
  split at ht
  · cases ht; exact .inl rfl
  · exact .inr ⟨_, _, ht⟩

end Sys2Proof.Machine

/-! What the shared operations do to channels, moves, limits and notices: one lemma for each operation, used by the proofs
about every command. -/

namespace Sys2Proof.Machine

variable (s : State)

/-! ## Fields that settled operations keep -/

theorem limits_eq_of {s t : State} (hc : t.config = s.config) (hl : t.lens.banks = s.lens.banks)
    (hs : t.lens.selected = s.lens.selected) : t.limits = s.limits := by
  funext c
  simp only [State.limits, State.selectedMap, State.cfg, hc, hl, hs]

theorem limits_of_settled {s t : State} (h : t.settled = s.settled) (hl : t.lens.banks = s.lens.banks)
    (hs : t.lens.selected = s.lens.selected) : t.limits = s.limits :=
  limits_eq_of (settled_eq_iff.1 h).1 hl hs

theorem running_of_power {s t : State} (h : t.power = s.power) : t.running = s.running := by
  simp only [State.running, h]

theorem chan_eq_of_channels {s t : State} (h : t.channels = s.channels) (c : Chan) : t.chan c = s.chan c := by
  simp only [State.chan, h]

theorem cfg_eq_of_config {s t : State} (h : t.config = s.config) (c : Chan) : t.cfg c = s.cfg c := by
  simp only [State.cfg, h]

/-! ## Moves -/

theorem moveHits_iff {hit : Chan → Bool} {m : ConsoleMove} :
    moveHits hit m = true ↔ ∃ c, m.remaining.get c = true ∧ hit c = true := by
  simp [moveHits, List.any_eq_true, mem_allChans]

theorem holdsAny_eq (hit : Chan → Bool) (m : ConsoleMove) : holdsAny hit m = moveHits hit m := by
  simp only [holdsAny, moveHits, Bool.and_comm]

theorem moveHits_false_iff {hit : Chan → Bool} {m : ConsoleMove} :
    moveHits hit m = false ↔ ∀ c, m.remaining.get c = true → hit c = false := by
  rw [← Bool.not_eq_true, moveHits_iff]; push Not; simp

/-- R27: the moves that hold one of these channels are gone. -/
@[simp] theorem interruptMoves_moves (hit : Chan → Bool) :
    (interruptMoves hit s).moves = movesLeft hit s.moves := by
  simp only [interruptMoves, foldl_raiseMove_moves, movesLeft, holdsAny_eq]

theorem mem_movesLeft {hit : Chan → Bool} {ms : List ConsoleMove} {m : ConsoleMove} :
    m ∈ movesLeft hit ms ↔ m ∈ ms ∧ ∀ c, m.remaining.get c = true → hit c = false := by
  simp only [movesLeft, List.mem_filter, holdsAny_eq, Bool.not_eq_true', moveHits_false_iff]

theorem movesLeft_congr {hit hit' : Chan → Bool} (h : ∀ c, hit c = hit' c) (ms : List ConsoleMove) :
    movesLeft hit ms = movesLeft hit' ms := by rw [funext h]

theorem movesLeft_of_none {hit : Chan → Bool} (h : ∀ c, hit c = false) (ms : List ConsoleMove) :
    movesLeft hit ms = ms := by
  simp [movesLeft, holdsAny, h]

/-- The five other sources, the mask and the move source after a list of MOVE notices (R27, R185). -/
theorem foldl_raiseMove_notices (r : Bool) (ms : List ConsoleMove) (s : State) :
    let n := (ms.foldl (fun s m => raiseMove ⟨m.mask, r⟩ s) s).notices
    n.move = ms.foldl (fun n m => ⟨some ⟨m.mask, r⟩, n.detail.isSome⟩) s.notices.move ∧
      n.state = s.notices.state ∧ n.zone = s.notices.zone ∧ n.take = s.notices.take ∧ n.track = s.notices.track ∧
      n.input = s.notices.input ∧ n.mask = s.notices.mask := by
  induction ms generalizing s with
  | nil => simp
  | cons m ms ih => simpa [raiseMove_notices] using ih (raiseMove ⟨m.mask, r⟩ s)

/-- R27, R185: what the end of moves does to the notices. -/
theorem interruptMoves_sources (hit : Chan → Bool) :
    (interruptMoves hit s).notices.move = moveSourceAfter hit s.moves s.notices.move ∧
      (interruptMoves hit s).notices.state = s.notices.state ∧ (interruptMoves hit s).notices.zone = s.notices.zone ∧
      (interruptMoves hit s).notices.take = s.notices.take ∧ (interruptMoves hit s).notices.track = s.notices.track ∧
      (interruptMoves hit s).notices.input = s.notices.input ∧ (interruptMoves hit s).notices.mask = s.notices.mask := by
  simpa [interruptMoves, moveSourceAfter, funext (holdsAny_eq hit)] using
    foldl_raiseMove_notices false (s.moves.filter (moveHits hit)) { s with moves := s.moves.filter fun m => !moveHits hit m }

theorem moveSourceAfter_of_none {hit : Chan → Bool} (h : ∀ c, hit c = false) (ms : List ConsoleMove)
    (src : NoticeSource MoveDetail) : moveSourceAfter hit ms src = src := by
  have : ms.filter (holdsAny hit) = [] := by simp [holdsAny, h]
  rw [moveSourceAfter, this, List.foldl_nil]

@[simp] theorem chan_interruptMoves (hit : Chan → Bool) (c : Chan) : (interruptMoves hit s).chan c = s.chan c :=
  chan_eq_of_channels (interruptMoves_channels s hit) c

/-- What the end of moves changes: the moves and the notices. -/
theorem interruptMoves_frame (hit : Chan → Bool) :
    interruptMoves hit s = { s with moves := movesLeft hit s.moves, notices := (interruptMoves hit s).notices } := by
  suffices h : ∀ (ms : List ConsoleMove) (u : State),
      ms.foldl (fun s m => raiseMove ⟨m.mask, false⟩ s) u =
        { u with notices := (ms.foldl (fun s m => raiseMove ⟨m.mask, false⟩ s) u).notices } by
    have := h (s.moves.filter (moveHits hit)) { s with moves := s.moves.filter fun m => !moveHits hit m }
    simpa [interruptMoves, movesLeft, funext (holdsAny_eq hit)] using this
  intro ms
  induction ms with
  | nil => intro u; rfl
  | cons m ms ih => intro u; exact (ih _).trans rfl

/-! ## Limits -/

@[simp] theorem chan_raiseState (d : StateDetail) (c : Chan) : (raiseState d s).chan c = s.chan c :=
  chan_eq_of_channels (raiseState_channels s d) c
@[simp] theorem chan_enterCrane (st : CraneState) (x : StateExtra) (c : Chan) : (enterCrane st x s).chan c = s.chan c :=
  chan_eq_of_channels (enterCrane_channels s st x) c
@[simp] theorem chan_trackingOff (c : Chan) : (trackingOff s).chan c = s.chan c :=
  chan_eq_of_channels (trackingOff_channels s) c
@[simp] theorem chan_raiseTake (d : TakeDetail) (c : Chan) : (raiseTake d s).chan c = s.chan c := rfl
@[simp] theorem chan_raiseTakeRunning (c : Chan) : (raiseTakeRunning s).chan c = s.chan c := rfl
@[simp] theorem chan_raiseTrack (d : TrackDetail) (c : Chan) : (raiseTrack d s).chan c = s.chan c := rfl
@[simp] theorem chan_latchCause (d : CauseDetail) (c : Chan) : (latchCause d s).chan c = s.chan c :=
  chan_eq_of_channels (latchCause_channels s d) c
@[simp] theorem chan_clearSequence (c : Chan) : (clearSequence s).chan c = s.chan c := rfl
@[simp] theorem chan_startParkingSlot (n : Nat) (c : Chan) : (startParkingSlot n s).chan c = s.chan c := rfl
@[simp] theorem chan_serveSupervision (c : Chan) : (serveSupervision s).chan c = s.chan c := rfl
@[simp] theorem chan_releaseOwner (c d : Chan) :
    (releaseOwner c s).chan d = if d = c then releaseChannel (s.chan c) else s.chan d := by
  simp [releaseOwner]

@[simp] theorem trackingOff_banks : (trackingOff s).lens.banks = s.lens.banks := by
  unfold trackingOff; split <;> rfl
@[simp] theorem trackingOff_selected : (trackingOff s).lens.selected = s.lens.selected := by
  unfold trackingOff; split <;> rfl
@[simp] theorem trackingOff_targets : (trackingOff s).lens.targets = s.lens.targets := by
  unfold trackingOff; split <;> rfl

theorem limits_mapChannels (f : Chan → Channel → Channel) : (mapChannels s f).limits = s.limits := rfl
theorem limits_setChan (c : Chan) (r : Channel) : (s.setChan c r).limits = s.limits := rfl

/-! ## The end of a play -/

/-- R153, step 2: the channels after the end step, whatever it finds. -/
theorem chan_endTake (r : TakeResult) (c : Chan) : (endTake r s).chan c =
    if s.engine.take ≠ none ∧ s.engine.set.get c = true ∧ (s.chan c).owner = .take then
      releaseChannel (takeWritten (s.lo c) (s.hi c) (s.engine.path.get c) (s.engine.untaken.get c) (s.chan c))
    else s.chan c := by
  cases h : s.engine.take with
  | none => simp [endTake_idle s r h]
  | some n =>
    have e : (endTake r s).chan c = (releaseTakeChannels (recordPlay n r s)).chan c := by
      simp only [endTake, h]; rfl
    have h1 : (recordPlay n r s).engine = s.engine := rfl
    have h2 : (recordPlay n r s).chan c = s.chan c := rfl
    have h3 : (recordPlay n r s).lo c = s.lo c := rfl
    have h4 : (recordPlay n r s).hi c = s.hi c := rfl
    rw [e]
    simp only [releaseTakeChannels, chan_mapChannels, h1, h2, h3, h4]
    simp

/-- R153: what the end step changes. -/
theorem endTake_some (r : TakeResult) {n : Nat} (h : s.engine.take = some n) : endTake r s =
    { s with
      channels := (endTake r s).channels
      takes := s.takes.map fun t => if t.number = n then storePlay r s.engine.lag t else t
      marks := s.marks.map fun m =>
        if (s.findTake n).any (fun t => namesMark t m.number) then { m with locked := false } else m
      engine := engineIdle s.engine
      notices := withAttn { s.notices with
        take := ⟨some ⟨n, .idle, r, s.engine.cueIndex⟩, s.notices.take.detail.isSome⟩ } } := by
  simp only [endTake, h]
  rfl

theorem endTake_take (r : TakeResult) : (endTake r s).engine.take = none := by
  cases h : s.engine.take with
  | none => rw [endTake_idle s r h, h]
  | some n => rw [endTake_engine s r n h]; rfl

/-! ## Claims -/

/-- The engine's record after a channel has been overtaken, before the play may end (R151). -/
def overtakenEngine (c : Chan) (e : Engine) : Engine :=
  { e with
    set := e.set.set c false, path := e.path.set c none, untaken := e.untaken.set c false, spans := e.spans.set c none
    overtaken := true }

/-- R151, R154: the last channel's overtake ends the play, any other is reported. -/
theorem overtake_eq (c : Chan) : overtake c s =
    if setEmpty (overtakenEngine c s.engine).set = true then
      endTake .partial_ { s with engine := overtakenEngine c s.engine }
    else raiseTakeRunning { s with engine := overtakenEngine c s.engine } := rfl

theorem setEmpty_iff {p : PerChannel Bool} : setEmpty p = true ↔ ∀ c, p.get c = false := by
  simp [setEmpty, List.all_eq_true, mem_allChans]

theorem setEmpty_false_iff {p : PerChannel Bool} : setEmpty p = false ↔ ∃ c, p.get c = true := by
  rw [← Bool.not_eq_true, setEmpty_iff]; push Not; simp

/-- R151: no other channel's record changes: the play ends only once the set is empty. -/
@[simp] theorem chan_overtake (c d : Chan) : (overtake c s).chan d = s.chan d := by
  rw [overtake_eq]
  split
  next h =>
    have := setEmpty_iff.1 h d
    rw [chan_endTake, if_neg (by simp [this])]
    rfl
  next => rfl

@[simp] theorem chan_reportLoss (p : Party) (c : Chan) (o : Owner) (d : Chan) :
    (reportLoss p c o s).chan d = s.chan d := by
  unfold reportLoss
  repeat' split
  all_goals simp

/-- R18: a grant writes the record of its channel and no other. -/
@[simp] theorem chan_grant (p : Party) (m : Mode) (dm tg : Option Int) (c d : Chan) :
    (grant p m dm tg c s).chan d = if d = c then grantRecord p m dm tg (s.chan c) else s.chan d := by
  simp [grant]

@[simp] theorem reportLoss_banks (p : Party) (c : Chan) (o : Owner) : (reportLoss p c o s).lens.banks = s.lens.banks := by
  unfold reportLoss
  repeat' split
  all_goals simp
@[simp] theorem reportLoss_selected (p : Party) (c : Chan) (o : Owner) :
    (reportLoss p c o s).lens.selected = s.lens.selected := by
  unfold reportLoss
  repeat' split
  all_goals simp
@[simp] theorem reportLoss_targets (p : Party) (c : Chan) (o : Owner) :
    (reportLoss p c o s).lens.targets = s.lens.targets := by
  unfold reportLoss
  repeat' split
  all_goals simp

@[simp] theorem limits_grant (p : Party) (m : Mode) (dm tg : Option Int) (c : Chan) :
    (grant p m dm tg c s).limits = s.limits :=
  limits_of_settled (grant_settled s p m dm tg c) (reportLoss_banks _ _ _ _) (reportLoss_selected _ _ _ _)

/-! ## Stops -/

/-- R3, R93: the record of a channel whose drive is commanded off and whose owner is released. -/
theorem commandOff_eq (r : Channel) : { commandOff r with owner := .none } = offRecord r := rfl

@[simp] theorem chan_dropChannels (c : Chan) : (dropChannels s).chan c = offRecord (s.chan c) := chan_mapChannels s c _

/-- R93: after a category A entry every drive is off and every owner NONE. -/
@[simp] theorem chan_entryA (c : Chan) : (entryA s).chan c = offRecord (s.chan c) := by
  have h : ∀ t : State, (trackingOff t).chan c = t.chan c := fun t => chan_trackingOff t c
  have hd : (interruptMoves (fun _ => true) (dropChannels s)).chan c = offRecord (s.chan c) := by simp
  simp only [entryA, chan_enterCrane, chan_clearSequence]
  refine (h _).trans ?_
  rw [chan_endTake, if_neg, hd]
  rw [hd]
  simp [offRecord, heldRecord]

/-- R96: a console-owned lens channel of an active drive. -/
def restHit (s : State) (c : Chan) : Bool := isLens c && ((s.chan c).owner == .console) && ((s.chan c).drive == .active)

/-- R96: such a channel brought to rest under its owner. -/
def restedRecord (r : Channel) : Channel :=
  { r with mode := .velocity, demand := some 0, target := none, inPosition := false }

theorem restHit_iff {s : State} {c : Chan} :
    restHit s c = true ↔ isLens c = true ∧ (s.chan c).owner = .console ∧ (s.chan c).drive = .active := by
  simp [restHit, and_assoc]

theorem restLens_eq : restLens s = interruptMoves (restHit s)
    (mapChannels s fun c r => if restHit s c = true then restedRecord r else r) := rfl

@[simp] theorem chan_restLens (c : Chan) :
    (restLens s).chan c = if restHit s c = true then restedRecord (s.chan c) else s.chan c := by
  simp [restLens_eq]

/-- R95: the channels after a category B rise in READY. -/
@[simp] theorem chan_entryBReady (c : Chan) : (entryBReady s).chan c =
    if isBody c = true then stopChannel (s.chan c)
    else if (s.chan c).owner = .take then releaseChannel (s.chan c) else s.chan c := by
  set u := mapChannels s fun c r => if isBody c = true then stopChannel r
    else if (isLens c && ((s.chan c).owner == .take)) = true then releaseChannel r else r with hu
  have hc : u.chan c = if isBody c = true then stopChannel (s.chan c)
      else if (s.chan c).owner = .take then releaseChannel (s.chan c) else s.chan c := by
    rw [hu, chan_mapChannels]
    cases hb : isBody c <;> simp_all [isBody]
  have howner : (u.chan c).owner ≠ .take := by
    rw [hc]
    split
    · simp [stopChannel_owner]
    · split
      · simp [releaseChannel_owner]
      · assumption
  have he : (entryBReady s).chan c = (endTake .stopped (interruptMoves isBody u)).chan c := by
    simp only [entryBReady, chan_enterCrane]; rfl
  rw [he, chan_endTake, if_neg (by simp [howner]), chan_interruptMoves, hc]

@[simp] theorem chan_stopLiveHead (c : Chan) :
    (stopLiveHead s).chan c = if liveHead s c = true then stopChannel (s.chan c) else s.chan c := by
  simp [stopLiveHead]

@[simp] theorem chan_entryBArming (c : Chan) :
    (entryBArming s).chan c = if liveHead s c = true then stopChannel (s.chan c) else s.chan c := by
  simp only [entryBArming, chan_enterCrane, chan_startParkingSlot]
  exact chan_stopLiveHead s c

/-- R96: what a rise does to the lens channels first. -/
def restFor (d : CauseDetail) (s : State) : State := if causeOf d = .link then restLens s else s

/-- R93 to R97: the entry that a rise makes, after R96. -/
theorem actOnCrane_eq (d : CauseDetail) : actOnCrane d s =
    if categoryA (causeOf d) = true then
      (if (restFor d s).crane.state = .tripped then restFor d s else entryA (restFor d s))
    else entryB (restFor d s) := rfl

/-- R93 to R97: a rise acts on each channel by these four changes alone. -/
theorem rise_chan {P : Channel → Prop} (d : CauseDetail) (c : Chan) (h : P (s.chan c))
    (off : ∀ r, P r → P (offRecord r)) (stop : ∀ r, P r → P (stopChannel r)) (release : ∀ r, P r → P (releaseChannel r))
    (rest : ∀ r, P r → r.owner = .console → r.drive = .active → P (restedRecord r)) : P ((rise d s).chan c) := by
  have entry : ∀ u : State, P (u.chan c) → P ((entryB u).chan c) := by
    intro u hu
    unfold entryB
    split
    · rw [chan_entryBReady]
      split
      · exact stop _ hu
      · split
        · exact release _ hu
        · exact hu
    · rw [chan_entryBArming]
      split
      · exact stop _ hu
      · exact hu
    all_goals first
      | exact hu
      | rw [chan_stopLiveHead]; split
        · exact stop _ hu
        · exact hu
  have act : ∀ u : State, P (u.chan c) → P ((actOnCrane d u).chan c) := by
    intro u hu
    have hrest : P ((restFor d u).chan c) := by
      unfold restFor
      split
      · rw [chan_restLens]
        split
        next hh =>
          obtain ⟨_, ho, ha⟩ := restHit_iff.1 hh
          exact rest _ hu ho ha
        next => exact hu
      · exact hu
    rw [actOnCrane_eq]
    split
    · split
      · exact hrest
      · rw [chan_entryA]; exact off _ hrest
    · exact entry _ hrest
  have hl := act (latchCause d s) (by simpa using h)
  simp only [rise]
  split
  · exact h
  · split
    · simpa using hl
    · exact hl

@[simp] theorem rise_banks (d : CauseDetail) : (rise d s).lens.banks = s.lens.banks := by
  have hA : ∀ u : State, (entryA u).lens.banks = u.lens.banks := by
    intro u
    simp only [entryA, enterCrane_lens, clearSequence_lens]
    exact (trackingOff_banks _).trans (by simp)
  simp only [rise, actOnCrane]
  repeat' split
  all_goals simp [hA]

@[simp] theorem rise_selected (d : CauseDetail) : (rise d s).lens.selected = s.lens.selected := by
  have hA : ∀ u : State, (entryA u).lens.selected = u.lens.selected := by
    intro u
    simp only [entryA, enterCrane_lens, clearSequence_lens]
    exact (trackingOff_selected _).trans (by simp)
  simp only [rise, actOnCrane]
  repeat' split
  all_goals simp [hA]

@[simp] theorem rise_targets (d : CauseDetail) : (rise d s).lens.targets = s.lens.targets := by
  have hA : ∀ u : State, (entryA u).lens.targets = u.lens.targets := by
    intro u
    simp only [entryA, enterCrane_lens, clearSequence_lens]
    exact (trackingOff_targets _).trans (by simp)
  simp only [rise, actOnCrane]
  repeat' split
  all_goals simp [hA]

@[simp] theorem limits_rise (d : CauseDetail) : (rise d s).limits = s.limits :=
  limits_of_settled (rise_settled s d) (rise_banks s d) (rise_selected s d)

end Sys2Proof.Machine

/-! What the requests can do: `Taken` lists, for all of them at once, the states that an accepted request answers, each with
the tests that it has passed. A refused request and a read leave the state as it is. -/

namespace Sys2Proof.Machine

/-! ## Masks -/

theorem maskChans_nodup (m : ChannelMask) : (maskChans m).Nodup := allChans_nodup.filter _

theorem mem_maskChans {m : ChannelMask} {c : Chan} : c ∈ maskChans m ↔ maskHas m c = true := by
  simp [maskChans, mem_allChans]

theorem maskValid_iff {m : ChannelMask} : maskValid m = true ↔ m ≠ 0#16 ∧ m.toNat < 512 := by
  simp [maskValid]

theorem getLsbD_of_lt {m : ChannelMask} (h : m.toNat < 512) {i : Nat} (hi : 9 ≤ i) : m.getLsbD i = false := by
  have : m.toNat < 2 ^ i := h.trans_le (Nat.pow_le_pow_right Nat.two_pos hi : 2 ^ 9 ≤ 2 ^ i)
  rw [BitVec.getLsbD, Nat.testBit_lt_two_pow this]

/-- R180, R194: a valid mask counts the nine channels alone. -/
theorem maskCount_eq {m : ChannelMask} (h : m.toNat < 512) : maskCount m = (maskChans m).length := by
  have hr : List.range 16 = allChans.map chanIndex ++ [9, 10, 11, 12, 13, 14, 15] := by decide
  have hhigh : ([9, 10, 11, 12, 13, 14, 15].filter fun i => m.getLsbD i) = [] := by
    refine List.filter_eq_nil_iff.2 fun i hi => ?_
    have h9 : 9 ≤ i := by simp at hi; omega
    simp [getLsbD_of_lt h h9]
  rw [maskCount, hr, List.filter_append, hhigh, List.append_nil, List.filter_map, List.length_map]
  rfl

theorem maskChans_ne_nil {m : ChannelMask} (h0 : m ≠ 0#16) (h : m.toNat < 512) : maskChans m ≠ [] := by
  intro hnil
  apply h0
  apply BitVec.eq_of_getLsbD_eq
  intro i hi
  obtain h9 | h9 := Nat.lt_or_ge i 9
  · have hc : ∃ c, chanIndex c = i := by
      interval_cases i
      exacts [⟨.track, rfl⟩, ⟨.swing, rfl⟩, ⟨.boom, rfl⟩, ⟨.reach, rfl⟩, ⟨.pan, rfl⟩, ⟨.tilt, rfl⟩, ⟨.focus, rfl⟩,
        ⟨.iris, rfl⟩, ⟨.zoom, rfl⟩]
    obtain ⟨c, rfl⟩ := hc
    have : maskHas m c = false := by
      by_contra hne
      have := mem_maskChans.2 (by simpa using hne)
      simp [hnil] at this
    simpa [maskHas] using this
  · simp [getLsbD_of_lt h h9]

/-- The targets of a valid GOTO name the channels of its mask, each once. -/
theorem gotoTargets_fst {m : ChannelMask} (h : m.toNat < 512) {ps : List (BitVec 32)} (hl : ps.length = maskCount m) :
    ((maskChans m).zip (ps.map BitVec.toInt)).map (·.1) = maskChans m := by
  have := maskCount_eq h
  exact List.map_fst_zip (by simp; omega)

theorem markTargets_fst (k : Mark) (m : ChannelMask) :
    (markTargets k m).map (·.1) = (maskChans m).filter fun c => (k.values.get c).isSome := by
  unfold markTargets
  induction maskChans m with
  | nil => rfl
  | cons c cs ih => cases hv : k.values.get c <;> simp [hv, ih]

/-! ## The accepted requests -/

/-- The state of an accepted GOTO or GOTO_MARK (R26, R27). -/
def gotoOpened (mask : ChannelMask) (targets : List (Chan × Int)) (s : State) : State :=
  let hit := fun c => (targets.map (·.1)).contains c
  let granted := targets.foldl
    (fun t p => grant .console .position none (some (clampInt (s.lo p.1) (s.hi p.1) p.2)) p.1 t) (interruptMoves hit s)
  { granted with moves := granted.moves ++ [⟨mask, .ofFn hit⟩] }

/-- What a request can do, with the tests that it has passed. -/
inductive Taken (j : Instr) (s : State) : State → Prop
  | same : Taken j s s
  | notice (request : j = .notice) (k : Source) : Taken j s (serveNoticeTimer k (setNotices s (clearSource s.notices k)))
  | noticeMask (m : Byte) : Taken j s (setNotices s { s.notices with mask := m })
  | configSet (b : Byte) (v : BitVec 32) (request : j = .configSet b v) (k : ConfigKey) (w : Int) (low : (itemRange k).1 ≤ w) (high : w ≤ (itemRange k).2)
      (order : keepsOrder s.config k w = true) (parked : parkedItem k = true → s.crane.state = .parked)
      (item : ∃ b, configItem b = some k) :
      Taken j s (actOnWrite k { s with config := storeItem s.config k w })
  | arm (parked : s.crane.state = .parked) (clear : noneLatched s.stops.latches = true)
      (zone : s.stops.conditions.zone = none) (fresh : drivesFresh s = true) :
      Taken j s (enterCrane .arming .none
        (startArmingSlot ((lowestSlot s).getD 1) { s with crane := { s.crane with sequence := .up } }))
  | park (ready : s.crane.state = .ready) (idle : s.engine.take = none)
      (still : ∀ c, isLens c = false → (s.chan c).owner = .none ∧ (s.chan c).velocity = 0) :
      Taken j s (enterCrane .parking .none
        (startParkingSlot ((highestSlot s).getD 8) { s with crane := { s.crane with sequence := .down } }))
  | jog (c : Chan) (d : Int) (claim : ∃ moves, claimCode .console moves s c = none) :
      Taken j s (grant .console .velocity (some d) none c s)
  | goto (mask : ChannelMask) (targets : List (Chan × Int)) (some : targets ≠ []) (nodup : (targets.map (·.1)).Nodup)
      (claims : ∀ p ∈ targets, claimCode .console true s p.1 = none) : Taken j s (gotoOpened mask targets s)
  | release (hit : Chan → Bool) (console : ∀ c, hit c = true → (s.chan c).owner = .console) :
      Taken j s (interruptMoves hit (mapChannels s fun c r => if hit c then releaseChannel r else r))
  | wheelAssign (w : Fin 4) (c : Option Chan) (gain : Int) :
      Taken j s (releaseWheelChannel (s.wheels.get w).channel { s with wheels := s.wheels.set w ⟨c, gain, 0, 0, none⟩ })
  | stop (o : Origin) : Taken j s (rise (.request o) s)
  | ackHalted (halted : s.crane.state = .halted) :
      Taken j s (enterCrane .ready .none (clearLatches { s with
        stops := { s.stops with retreatSet := buildRetreat s }
        crane := { s.crane with retreat := !(buildRetreat s).isEmpty } }))
  | ackTripped (tripped : s.crane.state = .tripped) (free : ackBlocked s = false) :
      Taken j s (enterCrane .parked .none (setInhibits (clearLatches s)))
  | ackParked (parked : s.crane.state = .parked) :
      Taken j s (raiseState ⟨.parked, none, .none⟩ (setInhibits (clearLatches s)))
  | inputs : Taken j s (clearChangeFlags s)
  | zoneSet (z : ZoneOperands) (valid : zoneOperandsValid z = true) :
      Taken j s { s with zoneMonitor := { s.zoneMonitor with
        zones := upsert (·.number) (zoneRecord (s.findZone z.number.toNat) z) s.zoneMonitor.zones } }
  | zoneRetire (n : Nat) :
      Taken j s { s with zoneMonitor := { s.zoneMonitor with zones := eraseKey (·.number) n s.zoneMonitor.zones } }
  | markStore (n : Nat) (tag : BitVec 16) (values : List (Chan × Int)) (low : 1 ≤ n) (high : n ≤ 128)
      (free : ∀ m, s.findMark n = some m → m.locked = false) :
      Taken j s { s with marks := upsert (·.number) (storedMark (s.findMark n) n tag values) s.marks }
  | markRetire (n : Nat) (m : Mark) (found : s.findMark n = some m) (free : m.locked = false) (unused : m.refCount = 0) :
      Taken j s { s with marks := eraseKey (·.number) n s.marks }
  | takeCreate (n : Nat) (tag : BitVec 16) (low : 1 ≤ n) (high : n ≤ 16) (fresh : s.findTake n = none) :
      Taken j s { s with takes := upsert (·.number) (newTake n tag) s.takes }
  | cueInsert (n : Nat) (t : Take) (k : Nat) (q : CueOperands) (found : s.findTake n = some t) (idle : t.active = false)
      (place : 1 ≤ k ∧ k ≤ t.cues.length + 1) (room : t.cues.length < 64) (pool : s.freeCues ≠ 0)
      (mark : s.findMark q.mark.toNat ≠ none) :
      Taken j s (setCues t (insertCue k (storedCue q) t.cues) [storedCue q] [] s)
  | cueReplace (n : Nat) (t : Take) (k : Nat) (q : CueOperands) (found : s.findTake n = some t) (idle : t.active = false)
      (place : 1 ≤ k ∧ k ≤ t.cues.length) (mark : s.findMark q.mark.toNat ≠ none) :
      Taken j s (setCues t (replaceCue k (storedCue q) t.cues) [storedCue q] (cueAt k t.cues) s)
  | cueDelete (n : Nat) (t : Take) (k : Nat) (found : s.findTake n = some t) (idle : t.active = false)
      (place : 1 ≤ k ∧ k ≤ t.cues.length) : Taken j s (setCues t (deleteCue k t.cues) [] (cueAt k t.cues) s)
  | takeRetire (n : Nat) (t : Take) (found : s.findTake n = some t) (idle : t.active = false) :
      Taken j s { s with takes := eraseKey (·.number) n s.takes, marks := moveReferences [] t.cues s.marks }
  | takeArm (n : Nat) (t : Take) (found : s.findTake n = some t) (ready : s.crane.state = .ready)
      (idle : s.engine.state = .idle) (cues : t.cues ≠ []) (some : setEmpty (channelSet s t.cues) = false)
      (claims : ∀ c, (channelSet s t.cues).get c = true → claimCode .take false s c = none) :
      Taken j s (armTake t (channelSet s t.cues) s)
  | frameWait (armed : s.engine.state = .armed) : Taken j s (startFrameWait s)
  | play (armed : s.engine.state = .armed) : Taken j s (startPlay s)
  | pause (playing : s.engine.state = .playing) : Taken j s { s with engine := { s.engine with pause := true } }
  | resume (on : pausing s.engine = true) :
      Taken j s { s with engine := { s.engine with pause := false, state := .playing } }
  | resumePaused (paused : s.engine.state = .paused) :
      Taken j s (raiseTakeRunning { s with engine := { s.engine with pause := false, state := .playing } })
  | abort (on : s.engine.state ≠ .idle) : Taken j s (endTake .aborted s)
  | mapSet (b : Fin 4) (m : LensMapOperands) (valid : mapOperandsValid m = true) (other : s.lens.selected ≠ some b) :
      Taken j s (setBanks s (s.lens.banks.set b (some (storedMap m))))
  | mapSetSelected (b : Fin 4) (m : LensMapOperands) (valid : mapOperandsValid m = true)
      (selected : s.lens.selected = some b) (free : lensInPlay s = false) :
      Taken j s (applyChangedLimits s (setBanks s (s.lens.banks.set b (some (storedMap m)))))
  | mapRetire (b : Fin 4) (other : s.lens.selected ≠ some b) : Taken j s (setBanks s (s.lens.banks.set b none))
  | lensSelect (b : Option (Fin 4)) (held : ∀ k, b = some k → s.lens.banks.get k ≠ none) (free : lensClaimed s = false) :
      Taken j s (selectBank b s)
  | targetSet (t : Target) (low : 1 ≤ t.number) (high : t.number ≤ 8) :
      Taken j s (setTargets s (upsert (·.number) t s.lens.targets))
  | targetRetire (n : Nat) (free : tracked s n = false) : Taken j s (setTargets s (eraseKey (·.number) n s.lens.targets))
  | trackOn (n : Nat) (map : s.lens.selected ≠ none) (found : s.findTarget n ≠ none)
      (claim : claimCode .track false s .focus = none) :
      Taken j s (let g := grant .track .position none (some (s.chan .focus).setpoint) .focus s
        raiseTracking (evaluateTracking (setTracking g { g.lens.tracking with target := some n })))
  | trackOff (on : s.lens.tracking.state ≠ .off) : Taken j s (trackingOff (releaseTracked s))

section Taking

variable {j : Instr} {s : State}

theorem natRange_iff {lo hi v : Nat} : natRange lo hi v = true ↔ lo ≤ v ∧ v ≤ hi := by simp [natRange]

theorem inRange_iff {lo hi v : Int} : inRange lo hi v = true ↔ lo ≤ v ∧ v ≤ hi := by simp [inRange]

theorem itemRange_ordered (k : ConfigKey) : (itemRange k).1 ≤ (itemRange k).2 := by
  cases k
  case softLo c => cases c <;> decide
  case softHi c => cases c <;> decide
  all_goals simp [itemRange]

theorem clampInt_mem {lo hi : Int} (h : lo ≤ hi) (v : Int) : lo ≤ clampInt lo hi v ∧ clampInt lo hi v ≤ hi := by
  unfold clampInt; split_ifs <;> omega

theorem claimAllCode_none {p : Party} {moves : Bool} {cs : List Chan} :
    claimAllCode p moves s cs = none ↔ ∀ c ∈ cs, claimCode p moves s c = none := by
  simp [claimAllCode, List.findSome?_eq_none_iff]

theorem taken_goto (mask : ChannelMask) (targets : List (Chan × Int)) (some : targets ≠ [])
    (nodup : (targets.map (·.1)).Nodup) : Taken j s (goto mask targets s).1 := by
  unfold goto
  dsimp only
  split
  · exact .same
  next h =>
    rw [claimAllCode_none] at h
    exact .goto mask targets some nodup fun p hp => h _ (List.mem_map_of_mem hp)

theorem taken_configSet (item : Byte) (v : BitVec 32) : Taken (.configSet item v) s (requestConfigSet item v s).1 := by
  unfold requestConfigSet
  split
  · exact .same
  next k hk =>
    dsimp only
    split
    · exact .same
    · split
      · exact .same
      next hp =>
        split
        · exact .same
        next ho =>
          have := clampInt_mem (itemRange_ordered k) v.toInt
          exact .configSet item v rfl k _ this.1 this.2 (by simpa using ho) (by simpa using hp) ⟨_, hk⟩

theorem taken_arm : Taken j s (requestArm s).1 := by
  unfold requestArm
  repeat' split
  any_goals exact .same
  next h1 h2 h3 h4 =>
    exact .arm (by simpa using h1) (by simpa using h2) (by simpa using h3) (by simpa using h4)

theorem bodyFree_iff : (allChans.all fun c => isLens c || (((s.chan c).owner == .none) && decide ((s.chan c).velocity = 0))) = true ↔
    ∀ c, isLens c = false → (s.chan c).owner = .none ∧ (s.chan c).velocity = 0 := by
  simp only [List.all_eq_true, mem_allChans, true_implies, Bool.or_eq_true, Bool.and_eq_true, beq_iff_eq, decide_eq_true_eq]
  exact forall_congr' fun c => by cases isLens c <;> simp

theorem taken_park : Taken j s (requestPark s).1 := by
  unfold requestPark
  repeat' split
  any_goals exact .same
  next h1 h2 h3 =>
    exact .park (by simpa using h1) (by simpa using h2) (bodyFree_iff.1 (eq_true_of_ne_false h3))

theorem taken_jog (b : Byte) (v : BitVec 32) : Taken j s (requestJog b v s).1 := by
  unfold requestJog
  split
  · exact .same
  · dsimp only
    split
    · exact .same
    · split
      · exact .same
      next h => exact .jog _ _ ⟨_, h⟩

theorem taken_requestGoto (m : ChannelMask) (ps : List (BitVec 32)) : Taken j s (requestGoto m ps s).1 := by
  unfold requestGoto
  split
  · exact .same
  · split
    · exact .same
    next hl hv =>
      obtain ⟨h0, h⟩ := maskValid_iff.1 (by simpa using hv)
      have hf := gotoTargets_fst h (ps := ps) (by simpa using hl)
      refine taken_goto _ _ (fun he => ?_) (by rw [hf]; exact maskChans_nodup m)
      rw [he] at hf
      exact maskChans_ne_nil h0 h hf.symm

theorem taken_gotoMark (n : Byte) (m : ChannelMask) : Taken j s (requestGotoMark n m s).1 := by
  unfold requestGotoMark
  split
  · exact .same
  · split
    · exact .same
    next k _ =>
      split
      · exact .same
      next targets hne =>
        refine taken_goto _ _ hne ?_
        rw [markTargets_fst]
        exact (maskChans_nodup m).filter _

theorem taken_release (m : ChannelMask) : Taken j s (requestRelease m s).1 := by
  unfold requestRelease
  split
  · exact .same
  · exact .release _ fun c hc => by simpa using (Bool.and_eq_true_iff.1 hc).2

theorem taken_wheelAssign (w c : Byte) (g : BitVec 16) : Taken j s (requestWheelAssign w c g s).1 := by
  unfold requestWheelAssign
  split
  · exact .wheelAssign _ _ _
  · exact .same

theorem taken_ackStop : Taken j s (requestAckStop s).1 := by
  unfold requestAckStop
  split
  any_goals exact .same
  next h => exact .ackHalted h
  next h =>
    split
    · exact .same
    next hb => exact .ackTripped h (by simpa using hb)
  next h => exact .ackParked h

theorem taken_zoneSet (z : ZoneOperands) : Taken j s (requestZoneSet z s).1 := by
  unfold requestZoneSet
  dsimp only
  repeat' split
  any_goals exact .same
  exact .zoneSet z (by simp_all)

theorem taken_zoneRetire (n : Byte) : Taken j s (requestZoneRetire n s).1 := by
  unfold requestZoneRetire
  dsimp only
  repeat' split
  any_goals exact .same
  exact .zoneRetire _

theorem markWriteCode_none {n : Byte} {mask : ChannelMask} (h : markWriteCode n mask s = none) :
    1 ≤ n.toNat ∧ n.toNat ≤ 128 ∧ ∀ m, s.findMark n.toNat = some m → m.locked = false := by
  unfold markWriteCode at h
  split at h
  · cases h
  next hv =>
    split at h
    · cases h
    next hl =>
      simp only [not_or, Bool.not_eq_false, markNumberValid, natRange_iff, Config.markCapacity] at hv
      exact ⟨hv.1.1, hv.1.2, fun m hm => by simpa [hm] using hl⟩

theorem taken_markSet (n : Byte) (tag : BitVec 16) (m : ChannelMask) (vs : List (BitVec 32)) :
    Taken j s (requestMarkSet n tag m vs s).1 := by
  unfold requestMarkSet
  split
  · exact .same
  · split
    · exact .same
    next h =>
      obtain ⟨h1, h2, h3⟩ := markWriteCode_none h
      exact .markStore _ _ _ h1 h2 h3

theorem taken_markCapture (n : Byte) (tag : BitVec 16) (m : ChannelMask) :
    Taken j s (requestMarkCapture n tag m s).1 := by
  unfold requestMarkCapture
  split
  · exact .same
  next h =>
    split
    · exact .same
    · obtain ⟨h1, h2, h3⟩ := markWriteCode_none h
      exact .markStore _ _ _ h1 h2 h3

theorem taken_markRetire (n : Byte) : Taken j s (requestMarkRetire n s).1 := by
  unfold requestMarkRetire
  dsimp only
  repeat' split
  any_goals exact .same
  next m hm h1 h2 => exact .markRetire _ m hm (by simpa using h1) (by simpa using h2)

theorem taken_takeCreate (n : Byte) (tag : BitVec 16) : Taken j s (requestTakeCreate n tag s).1 := by
  unfold requestTakeCreate
  dsimp only
  repeat' split
  any_goals exact .same
  next h1 h2 =>
    simp only [takeNumberValid, Bool.not_eq_false, natRange_iff] at h1
    exact .takeCreate _ _ h1.1 h1.2 (by simpa using h2)

theorem taken_cueInsert (n k : Byte) (q : CueOperands) : Taken j s (requestTakeCueInsert n k q s).1 := by
  unfold requestTakeCueInsert
  dsimp only
  repeat' split
  any_goals exact .same
  next h1 _ t ht ha hk hf hm =>
    simp only [not_or, Bool.not_eq_false, natRange_iff] at h1
    simp only [not_or, Config.cuesPerTake, not_le] at hf
    exact .cueInsert _ t _ q ht (by simpa using ha) ⟨h1.2.1.1, by omega⟩ hf.1 hf.2 (by simpa using hm)

theorem taken_cueReplace (n k : Byte) (q : CueOperands) : Taken j s (requestTakeCueReplace n k q s).1 := by
  unfold requestTakeCueReplace
  dsimp only
  repeat' split
  any_goals exact .same
  next h1 _ t ht ha hk hm =>
    simp only [not_or, Bool.not_eq_false, natRange_iff] at h1
    exact .cueReplace _ t _ q ht (by simpa using ha) ⟨h1.2.1.1, by omega⟩ (by simpa using hm)

theorem taken_cueDelete (n k : Byte) : Taken j s (requestTakeCueDelete n k s).1 := by
  unfold requestTakeCueDelete
  dsimp only
  repeat' split
  any_goals exact .same
  next h1 _ t ht ha hk =>
    simp only [not_or, Bool.not_eq_false, natRange_iff] at h1
    exact .cueDelete _ t _ ht (by simpa using ha) ⟨h1.2.1, by omega⟩

theorem taken_takeRetire (n : Byte) : Taken j s (requestTakeRetire n s).1 := by
  unfold requestTakeRetire
  dsimp only
  repeat' split
  any_goals exact .same
  next t ht ha => exact .takeRetire _ t ht (by simpa using ha)

theorem mem_setChans {p : PerChannel Bool} {c : Chan} : c ∈ setChans p ↔ p.get c = true := by
  simp [setChans, mem_allChans]

theorem taken_takeArm (n : Byte) : Taken j s (requestTakeArm n s).1 := by
  unfold requestTakeArm
  dsimp only
  split
  · exact .same
  · split
    · exact .same
    next t ht =>
      split
      · exact .same
      next hr =>
        split
        · exact .same
        next hs =>
          split
          · exact .same
          · split
            · exact .same
            · split
              · exact .same
              next hc =>
                rw [claimAllCode_none] at hc
                simp only [ne_eq, not_or, not_not, Bool.not_eq_true] at hr hs
                exact .takeArm _ t ht hr.1 hr.2 hs.1 hs.2 fun c h => hc c (mem_setChans.2 h)

theorem taken_takeGo (m : Byte) : Taken j s (requestTakeGo m s).1 := by
  unfold requestTakeGo
  split
  · exact .same
  next f _ =>
    split
    · exact .same
    next ha =>
      split
      · exact .same
      · cases f
        · exact .play (by simpa using ha)
        · exact .frameWait (by simpa using ha)

theorem taken_pause : Taken j s (requestTakePause s).1 := by
  unfold requestTakePause
  split
  next h => exact .pause h
  next => exact .same

theorem taken_resume : Taken j s (requestTakeResume s).1 := by
  unfold requestTakeResume
  dsimp only
  split
  · exact .same
  next h =>
    split
    · exact .same
    · simp only [accept]
      split
      next hp => exact .resumePaused hp
      next => exact .resume (by simpa using h)

theorem taken_abort : Taken j s (requestTakeAbort s).1 := by
  unfold requestTakeAbort
  split
  · exact .same
  next h => exact .abort h

theorem taken_mapSet (m : LensMapOperands) : Taken j s (requestLensMapSet m s).1 := by
  unfold requestLensMapSet
  split
  · exact .same
  · split
    · exact .same
    next b _ =>
      split
      · exact .same
      next hv =>
        split
        · exact .same
        next hl =>
          simp only [accept]
          split
          next hs => exact .mapSetSelected b m (by simpa using hv) hs (by simpa [hs] using hl)
          next hs => exact .mapSet b m (by simpa using hv) hs

theorem taken_mapRetire (b : Byte) : Taken j s (requestLensMapRetire b s).1 := by
  unfold requestLensMapRetire
  repeat' split
  any_goals exact .same
  next h => exact .mapRetire _ h

theorem taken_lensSelect (b : Byte) : Taken j s (requestLensSelect b s).1 := by
  unfold requestLensSelect
  repeat' split
  any_goals exact .same
  next sel _ h1 h2 _ => exact .lensSelect sel (fun k hk => by simpa [hk] using h1) (by simpa using h2)

theorem taken_targetSet (n : Byte) (x y z : BitVec 32) (a : BitVec 16) :
    Taken j s (requestTargetSet n x y z a s).1 := by
  unfold requestTargetSet
  dsimp only
  split
  · exact .same
  next h =>
    simp only [targetOperandsValid, Bool.not_eq_false, Bool.and_eq_true, targetNumberValid, natRange_iff] at h
    exact .targetSet _ h.1.1.1.1.1 h.1.1.1.1.2

theorem taken_targetRetire (n : Byte) : Taken j s (requestTargetRetire n s).1 := by
  unfold requestTargetRetire
  dsimp only
  repeat' split
  any_goals exact .same
  next h => exact .targetRetire _ (by simpa using h)

theorem taken_trackOn (n : Byte) : Taken j s (requestTrackOn n s).1 := by
  unfold requestTrackOn
  dsimp only
  repeat' split
  any_goals exact .same
  next h1 h2 _ hc => exact .trackOn _ (by simpa using h1) (by simpa using h2) hc

theorem taken_trackOff : Taken j s (requestTrackOff s).1 := by
  unfold requestTrackOff
  split
  · exact .same
  next h => exact .trackOff h

theorem taken_notice : Taken .notice s (requestNotice s).1 := by
  unfold requestNotice
  split
  · exact .same
  · exact .notice rfl _

theorem taken_noticeMask (m : Byte) : Taken j s (requestNoticeMask m s).1 := by
  unfold requestNoticeMask
  split
  · exact .same
  · exact .noticeMask _

/-- A read, refused or not, changes nothing. -/
theorem taken_of_eq {t : State} (h : t = s) : Taken j s t := h ▸ .same

/-! A read, refused or not, changes nothing. -/

theorem requestConfigGet_fst (item : Byte) : (requestConfigGet item s).1 = s := by
  unfold requestConfigGet; (repeat' split) <;> rfl
theorem requestChannelGet_fst (c : Byte) : (requestChannelGet c s).1 = s := by
  unfold requestChannelGet; (repeat' split) <;> rfl
theorem requestZoneGet_fst (n : Byte) : (requestZoneGet n s).1 = s := by
  unfold requestZoneGet; (repeat' split) <;> rfl
theorem requestMarkGet_fst (n : Byte) : (requestMarkGet n s).1 = s := by
  unfold requestMarkGet; (repeat' split) <;> rfl
theorem requestMarkList_fst (n : Byte) : (requestMarkList n s).1 = s := by
  unfold requestMarkList; (repeat' split) <;> rfl
theorem requestTakeGet_fst (n k : Byte) : (requestTakeGet n k s).1 = s := by
  unfold requestTakeGet; (repeat' split) <;> rfl
theorem requestLensMapGet_fst (b : Byte) : (requestLensMapGet b s).1 = s := by
  unfold requestLensMapGet; (repeat' split) <;> rfl
theorem requestTargetGet_fst (n : Byte) : (requestTargetGet n s).1 = s := by
  unfold requestTargetGet; (repeat' split) <;> rfl

/-- Every request does one of the things that `Taken` lists. -/
theorem takeRequest_taken (j : Instr) (s : State) : Taken j s (takeRequest j s).1 := by
  cases j
  case notice => exact taken_notice
  case noticeMask m => exact taken_noticeMask m
  case configSet item v => exact taken_configSet item v
  case arm => exact taken_arm
  case park => exact taken_park
  case jog b v => exact taken_jog b v
  case goto m ps => exact taken_requestGoto m ps
  case gotoMark n m => exact taken_gotoMark n m
  case release m => exact taken_release m
  case wheelAssign w c g => exact taken_wheelAssign w c g
  case stop o => exact .stop o
  case ackStop => exact taken_ackStop
  case inputs => exact .inputs
  case zoneSet z => exact taken_zoneSet z
  case zoneRetire n => exact taken_zoneRetire n
  case markSet n tag m vs => exact taken_markSet n tag m vs
  case markCapture n tag m => exact taken_markCapture n tag m
  case markRetire n => exact taken_markRetire n
  case takeCreate n tag => exact taken_takeCreate n tag
  case takeCueInsert n k q => exact taken_cueInsert n k q
  case takeCueReplace n k q => exact taken_cueReplace n k q
  case takeCueDelete n k => exact taken_cueDelete n k
  case takeRetire n => exact taken_takeRetire n
  case takeArm n => exact taken_takeArm n
  case takeGo o m => exact taken_takeGo m
  case takePause => exact taken_pause
  case takeResume => exact taken_resume
  case takeAbort => exact taken_abort
  case lensMapSet m => exact taken_mapSet m
  case lensMapRetire b => exact taken_mapRetire b
  case lensSelect b => exact taken_lensSelect b
  case targetSet o n x y z a => exact taken_targetSet n x y z a
  case targetRetire n => exact taken_targetRetire n
  case trackOn n => exact taken_trackOn n
  case trackOff => exact taken_trackOff
  case configGet item => exact taken_of_eq (requestConfigGet_fst item)
  case channelGet c => exact taken_of_eq (requestChannelGet_fst c)
  case zoneGet n => exact taken_of_eq (requestZoneGet_fst n)
  case markGet n => exact taken_of_eq (requestMarkGet_fst n)
  case markList n => exact taken_of_eq (requestMarkList_fst n)
  case takeGet n k => exact taken_of_eq (requestTakeGet_fst n k)
  case lensMapGet b => exact taken_of_eq (requestLensMapGet_fst b)
  case targetGet n => exact taken_of_eq (requestTargetGet_fst n)
  all_goals exact .same

end Taking

/-- What the acceptance of a frame, a request's taking and the link's own changes each keep, every request keeps. -/
theorem request_keeps {P : State → Prop} (serve : ∀ s, s.running = true → P s → P (serveSupervision s))
    (link : ∀ s l, P s → P { s with link := l }) (taken : ∀ {j : Instr} s t, s.running = true → P s → Taken j s t → P t)
    {s : State} (j : Instr) (l : LinkRecord) (hr : s.canReceive = true) (h : P s) :
    P { (takeRequest j (serveSupervision s)).1 with link := l } :=
  link _ l (taken _ _ (canReceive_serve s hr) (serve s (running_of_canReceive s hr) h) (takeRequest_taken j _))

end Sys2Proof.Machine

/-! What claims, ends of plays, the engine, the lens controller and the requests leave as it is, in one relation. -/

namespace Sys2Proof.Machine

/-- Everything but channels, moves, marks, takes, engine, lens and notices is the same. -/
structure SameBody (s t : State) : Prop where
  settled : t.settled = s.settled
  crane : t.crane = s.crane
  stops : t.stops = s.stops
  link : t.link = s.link

section Body

variable {s t u : State}

theorem SameBody.refl (s : State) : SameBody s s := ⟨rfl, rfl, rfl, rfl⟩

theorem SameBody.trans (h : SameBody s t) (k : SameBody t u) : SameBody s u :=
  ⟨k.settled.trans h.settled, k.crane.trans h.crane, k.stops.trans h.stops, k.link.trans h.link⟩

theorem config_of_settled (h : t.settled = s.settled) : t.config = s.config := by
  obtain ⟨config, -⟩ := settled_eq_iff.1 h
  exact config

theorem wheels_of_settled (h : t.settled = s.settled) : t.wheels = s.wheels := by
  obtain ⟨-, wheels, -⟩ := settled_eq_iff.1 h
  exact wheels

theorem driveBus_of_settled (h : t.settled = s.settled) : t.driveBus = s.driveBus := by
  obtain ⟨-, -, driveBus, -⟩ := settled_eq_iff.1 h
  exact driveBus

theorem zoneMonitor_of_settled (h : t.settled = s.settled) : t.zoneMonitor = s.zoneMonitor := by
  obtain ⟨-, -, -, -, -, zoneMonitor, -⟩ := settled_eq_iff.1 h
  exact zoneMonitor

theorem power_of_settled (h : t.settled = s.settled) : t.power = s.power := by
  obtain ⟨-, -, -, -, -, -, power, -⟩ := settled_eq_iff.1 h
  exact power

theorem SameBody.config (h : SameBody s t) : t.config = s.config := config_of_settled h.settled
theorem SameBody.wheels (h : SameBody s t) : t.wheels = s.wheels := wheels_of_settled h.settled
theorem SameBody.power (h : SameBody s t) : t.power = s.power := power_of_settled h.settled
theorem SameBody.zoneMonitor (h : SameBody s t) : t.zoneMonitor = s.zoneMonitor := zoneMonitor_of_settled h.settled
theorem SameBody.driveBus (h : SameBody s t) : t.driveBus = s.driveBus := driveBus_of_settled h.settled

/-- Two states of the same body, by the fields that may differ. -/
theorem SameBody.eq (h : SameBody s t) : t = { s with
    channels := t.channels, moves := t.moves, marks := t.marks, takes := t.takes, engine := t.engine, lens := t.lens
    notices := t.notices } := by
  obtain ⟨hs, hc, ht, hl⟩ := h
  obtain ⟨h1, h2, h3, h4, h5, h6, h7, h8, h9⟩ := settled_eq_iff.1 hs
  cases s; cases t
  simp_all

theorem sameBody_foldl {α : Type} {f : State → α → State} (h : ∀ s x, SameBody s (f s x)) (l : List α) (s : State) :
    SameBody s (l.foldl f s) := by
  induction l generalizing s with
  | nil => exact .refl s
  | cons x l ih => exact (h s x).trans (ih _)

end Body

section SameBody

variable (s : State)

theorem sameBody_setChan (c : Chan) (r : Channel) : SameBody s (s.setChan c r) := ⟨rfl, rfl, rfl, rfl⟩
theorem sameBody_mapChannels (f : Chan → Channel → Channel) : SameBody s (mapChannels s f) := ⟨rfl, rfl, rfl, rfl⟩
theorem sameBody_interruptMoves (hit : Chan → Bool) : SameBody s (interruptMoves hit s) := by constructor <;> simp
theorem sameBody_reachMove (c : Chan) : SameBody s (reachMove c s) := by constructor <;> simp
theorem sameBody_releaseOwner (c : Chan) : SameBody s (releaseOwner c s) := by constructor <;> simp
theorem sameBody_trackingOff : SameBody s (trackingOff s) := by constructor <;> simp
theorem sameBody_endTake (r : TakeResult) : SameBody s (endTake r s) := by constructor <;> simp
theorem sameBody_grant (p : Party) (m : Mode) (d t : Option Int) (c : Chan) : SameBody s (grant p m d t c s) := by
  constructor <;> simp
theorem sameBody_raiseTakeRunning : SameBody s (raiseTakeRunning s) := ⟨rfl, rfl, rfl, rfl⟩
theorem sameBody_raiseTracking : SameBody s (raiseTracking s) := ⟨rfl, rfl, rfl, rfl⟩
theorem sameBody_engine (e : Engine) : SameBody s { s with engine := e } := ⟨rfl, rfl, rfl, rfl⟩
theorem sameBody_lens (l : LensRecord) : SameBody s { s with lens := l } := ⟨rfl, rfl, rfl, rfl⟩
theorem sameBody_moves (m : List ConsoleMove) : SameBody s { s with moves := m } := ⟨rfl, rfl, rfl, rfl⟩
theorem sameBody_takes (l : List Take) (m : List Mark) : SameBody s { s with takes := l, marks := m } :=
  ⟨rfl, rfl, rfl, rfl⟩

/-! ## The Record Store and the engine -/

theorem sameBody_setRate : SameBody s (setRate s) := ⟨rfl, rfl, rfl, rfl⟩
theorem sameBody_stepRate : SameBody s (stepRate s) := ⟨rfl, rfl, rfl, rfl⟩
theorem sameBody_startFrameWait : SameBody s (startFrameWait s) := ⟨rfl, rfl, rfl, rfl⟩

theorem sameBody_startCue : SameBody s (startCue s) := by
  unfold startCue; split
  · exact .refl s
  · exact sameBody_engine _ _

theorem sameBody_startPlay : SameBody s (startPlay s) := by
  unfold startPlay; dsimp only; split
  · refine .trans ?_ (sameBody_endTake _ _)
    exact ⟨rfl, rfl, rfl, rfl⟩
  · exact .trans (sameBody_engine s _) (.trans (sameBody_startCue _) ⟨rfl, rfl, rfl, rfl⟩)

theorem sameBody_gotoOpened (mask : ChannelMask) (targets : List (Chan × Int)) :
    SameBody s (gotoOpened mask targets s) :=
  .trans (.trans (sameBody_interruptMoves s _) (sameBody_foldl (fun t _ => sameBody_grant t _ _ _ _ _) _ _))
    (sameBody_moves _ _)

/-- The claims of an accepted TAKE_ARM, granted (R138). -/
def grantedTake (set : PerChannel Bool) (s : State) : State :=
  (setChans set).foldl (fun s c => grant .take .path none none c s)
    (interruptMoves (fun c => set.get c && ((s.chan c).owner == .console)) s)

/-- The record of the take locked and the engine set, before cue 1 starts (R138). -/
def lockedTake (t : Take) (set : PerChannel Bool) (s : State) : State :=
  lockTake t { grantedTake set s with engine := armedEngine t.number set s }

theorem armTake_eq (t : Take) (set : PerChannel Bool) :
    armTake t set s = raiseTakeRunning (setRate (startCue (lockedTake t set s))) := rfl

theorem sameBody_grantedTake (set : PerChannel Bool) : SameBody s (grantedTake set s) :=
  .trans (sameBody_interruptMoves s _) (sameBody_foldl (fun t _ => sameBody_grant t _ _ _ _ _) _ _)

theorem sameBody_lockedTake (t : Take) (set : PerChannel Bool) : SameBody s (lockedTake t set s) :=
  .trans (sameBody_grantedTake s set) ⟨rfl, rfl, rfl, rfl⟩

theorem sameBody_armTake (t : Take) (set : PerChannel Bool) : SameBody s (armTake t set s) :=
  .trans (sameBody_lockedTake s t set)
    (.trans (sameBody_startCue _) (.trans (sameBody_setRate _) (sameBody_raiseTakeRunning _)))

theorem sameBody_reachPause : SameBody s (reachPause s) := by
  unfold reachPause; split
  · exact ⟨rfl, rfl, rfl, rfl⟩
  · exact .refl s

theorem sameBody_writeCue : SameBody s (writeCue s) := by
  unfold writeCue; split
  · exact sameBody_engine _ _
  · exact .refl s

theorem sameBody_nextCue (n : Nat) : SameBody s (nextCue n s) := .trans (sameBody_engine s _) (sameBody_startCue _)

theorem sameBody_engineMillisecond : SameBody s (engineMillisecond s) := by
  unfold engineMillisecond
  split
  · exact .refl s
  · exact .refl s
  · unfold waitMillisecond; dsimp only; split
    · exact .trans (sameBody_engine s _) (sameBody_endTake _ _)
    · exact sameBody_engine s _
  · split
    · unfold cueingMillisecond; dsimp only; split <;> exact ⟨rfl, rfl, rfl, rfl⟩
    · exact .refl s
  all_goals
    split
    · have h := (sameBody_reachPause (stepRate s)).trans (sameBody_engine _ (advanceClock (reachPause (stepRate s)).engine))
      have h := (sameBody_stepRate s).trans h
      unfold playingMillisecond; dsimp only; split
      · exact h.trans (sameBody_writeCue _)
      · split
        · exact h.trans ((sameBody_engine _ _).trans (sameBody_endTake _ _))
        · exact h.trans ((sameBody_nextCue _ _).trans (sameBody_writeCue _))
    · exact .refl s

/-! ## The Lens Controller -/

theorem sameBody_applyLimits (c : Chan) : SameBody s (applyLimits s c) := sameBody_setChan s c _

theorem sameBody_selectBank (b : Option (Fin 4)) : SameBody s (selectBank b s) :=
  .trans (sameBody_lens s _) (sameBody_foldl sameBody_applyLimits _ _)

theorem sameBody_applyChangedLimits (before : State) : SameBody s (applyChangedLimits before s) :=
  sameBody_foldl (fun t c => by split; exacts [.refl t, sameBody_applyLimits t c]) _ _

theorem sameBody_writeFocus (n : Int) : SameBody s (writeFocus n s) := by
  unfold writeFocus; split
  · exact sameBody_setChan s _ _
  · exact .refl s

theorem sameBody_evaluateTracking : SameBody s (evaluateTracking s) := by
  unfold evaluateTracking; dsimp only; split
  · split
    · exact .trans (sameBody_lens s _) (sameBody_writeFocus _ _)
    · exact sameBody_lens s _
  · exact sameBody_lens s _

theorem sameBody_trackUpdate : SameBody s (trackUpdate s) := by
  unfold trackUpdate; split
  · exact .refl s
  · dsimp only; split
    · exact .trans (sameBody_evaluateTracking s) (sameBody_raiseTracking _)
    · exact sameBody_evaluateTracking s

theorem sameBody_lensUpdate : SameBody s (lensUpdate s) := .trans (sameBody_lens s _) (sameBody_trackUpdate _)

theorem sameBody_releaseTracked : SameBody s (releaseTracked s) := by
  unfold releaseTracked; split
  · exact sameBody_releaseOwner s _
  · exact .refl s

theorem sameBody_trackOn (n : Nat) (m : Option Int) :
    let g := grant .track .position none m .focus s
    SameBody s (raiseTracking (evaluateTracking (setTracking g { g.lens.tracking with target := some n }))) :=
  .trans (sameBody_grant s _ _ _ _ _)
    (.trans (sameBody_lens _ _) (.trans (sameBody_evaluateTracking _) (sameBody_raiseTracking _)))

theorem sameBody_trackOff : SameBody s (trackingOff (releaseTracked s)) :=
  .trans (sameBody_releaseTracked s) (sameBody_trackingOff _)

/-! ## Wheels, configuration, presence -/

/-- R24: what WHEEL_ASSIGN's release changes. -/
theorem releaseWheelChannel_frame (b : Option Chan) :
    releaseWheelChannel b s = { s with channels := (releaseWheelChannel b s).channels } := by
  unfold releaseWheelChannel
  repeat' split
  all_goals rfl

theorem refillLine_frame (l : Fin 12) : refillLine l s =
    { s with presence := (refillLine l s).presence, notices := (refillLine l s).notices } := by
  unfold refillLine; dsimp only; split <;> rfl

/-- R10, R65, R181: what a write of a configuration item changes at once. -/
theorem actOnWrite_frame (k : ConfigKey) : actOnWrite k s =
    { s with
      channels := (actOnWrite k s).channels, presence := (actOnWrite k s).presence, notices := (actOnWrite k s).notices
      link := (actOnWrite k s).link } := by
  unfold actOnWrite
  split
  · split <;> rfl
  · split <;> rfl
  next l => unfold refillLine; dsimp only; split <;> rfl
  · rfl
  · rfl

theorem samplePresenceLine_frame (v : BitVec 12) (i : Fin 12) : samplePresenceLine v i s =
    { s with presence := (samplePresenceLine v i s).presence, notices := (samplePresenceLine v i s).notices } := by
  unfold samplePresenceLine; dsimp only; split <;> rfl

theorem presenceSample_frame (v : BitVec 12) : presenceSample v s =
    { s with presence := (presenceSample v s).presence, notices := (presenceSample v s).notices } := by
  suffices h : ∀ (l : List (Fin 12)) (u : State), ∃ p n,
      l.foldl (fun s i => samplePresenceLine v i s) u = { u with presence := p, notices := n } by
    obtain ⟨p, n, h⟩ := h allLines s
    unfold presenceSample
    rw [h]
  intro l
  induction l with
  | nil => exact fun u => ⟨_, _, rfl⟩
  | cons i l ih =>
    intro u
    obtain ⟨p, n, h⟩ := ih (samplePresenceLine v i u)
    rw [List.foldl_cons, h, samplePresenceLine_frame]
    exact ⟨_, _, rfl⟩

theorem startArmingSlot_frame (n : Nat) : startArmingSlot n s =
    { s with
      channels := (startArmingSlot n s).channels
      crane := { s.crane with slotPointer := some n, slotTimer := 0 } } := rfl

theorem serveNoticeTimer_frame (k : Source) : serveNoticeTimer k s = { s with link := (serveNoticeTimer k s).link } := by
  unfold serveNoticeTimer; split <;> rfl

/-- R102, R103: a change of every inhibit line by line touches the channels alone. -/
theorem foldl_setChan_frame {f : State → Fin 8 → State} (h : ∀ s i, ∃ ch, f s i = { s with channels := ch })
    (l : List (Fin 8)) (s : State) : ∃ ch, l.foldl f s = { s with channels := ch } := by
  induction l generalizing s with
  | nil => exact ⟨_, rfl⟩
  | cons i l ih =>
    obtain ⟨ch, h1⟩ := h s i
    obtain ⟨ch', h2⟩ := ih (f s i)
    rw [List.foldl_cons, h2, h1]
    exact ⟨_, rfl⟩

theorem setInhibits_frame : setInhibits s = { s with channels := (setInhibits s).channels } := by
  obtain ⟨ch, h⟩ := foldl_setChan_frame (f := fun s i =>
    if (s.stops.overtravel.get i).filtered then
      let c := overtravelChan i
      let r := s.chan c
      s.setChan c (if overtravelPlus i then { r with inhibitPlus := true } else { r with inhibitMinus := true })
    else s) (fun s i => by dsimp only; split <;> exact ⟨_, rfl⟩) allOvertravel s
  have : setInhibits s = { s with channels := ch } := h
  rw [this]

theorem clearInhibits_frame : clearInhibits s = { s with channels := (clearInhibits s).channels } := by
  obtain ⟨ch, h⟩ := foldl_setChan_frame (f := fun s i =>
    if (s.stops.overtravel.get i).filtered then s
    else
      let c := overtravelChan i
      let r := s.chan c
      s.setChan c (if overtravelPlus i then { r with inhibitPlus := false } else { r with inhibitMinus := false }))
    (fun s i => by dsimp only; split <;> exact ⟨_, rfl⟩) allOvertravel s
  have : clearInhibits s = { s with channels := ch } := h
  rw [this]

end SameBody

/-! ## Requests and events that leave crane state and stops alone -/

/-- The requests that bear on the crane state or the Stop Monitor. -/
inductive CraneRequest (s : State) : State → Prop
  | arm (parked : s.crane.state = .parked) (clear : noneLatched s.stops.latches = true)
      (zone : s.stops.conditions.zone = none) (fresh : drivesFresh s = true) :
      CraneRequest s (enterCrane .arming .none
        (startArmingSlot ((lowestSlot s).getD 1) { s with crane := { s.crane with sequence := .up } }))
  | park (ready : s.crane.state = .ready) (idle : s.engine.take = none)
      (still : ∀ c, isLens c = false → (s.chan c).owner = .none ∧ (s.chan c).velocity = 0) :
      CraneRequest s (enterCrane .parking .none
        (startParkingSlot ((highestSlot s).getD 8) { s with crane := { s.crane with sequence := .down } }))
  | stop (o : Origin) : CraneRequest s (rise (.request o) s)
  | ackHalted (halted : s.crane.state = .halted) :
      CraneRequest s (enterCrane .ready .none (clearLatches { s with
        stops := { s.stops with retreatSet := buildRetreat s }
        crane := { s.crane with retreat := !(buildRetreat s).isEmpty } }))
  | ackTripped (tripped : s.crane.state = .tripped) (free : ackBlocked s = false) :
      CraneRequest s (enterCrane .parked .none (setInhibits (clearLatches s)))
  | ackParked (parked : s.crane.state = .parked) :
      CraneRequest s (raiseState ⟨.parked, none, .none⟩ (setInhibits (clearLatches s)))
  | inputs : CraneRequest s (clearChangeFlags s)

theorem crane_stops_of_eq {s t u : State} (h : t = u) (hc : u.crane = s.crane) (hs : u.stops = s.stops) :
    t.crane = s.crane ∧ t.stops = s.stops := h ▸ ⟨hc, hs⟩

/-- Every other request leaves crane record and Stop Monitor alone. -/
theorem Taken.crane_cases {j : Instr} {s t : State} (h : Taken j s t) :
    (t.crane = s.crane ∧ t.stops = s.stops) ∨ CraneRequest s t := by
  have body : ∀ {u}, SameBody s u → (u.crane = s.crane ∧ u.stops = s.stops) ∨ CraneRequest s u :=
    fun h => .inl ⟨h.crane, h.stops⟩
  cases h
  case notice k =>
    exact .inl (crane_stops_of_eq (serveNoticeTimer_frame _ k) rfl rfl)
  case configSet k w _ _ _ _ _ =>
    exact .inl (crane_stops_of_eq (actOnWrite_frame _ k) rfl rfl)
  case arm h1 h2 h3 h4 => exact .inr (.arm h1 h2 h3 h4)
  case park h1 h2 h3 => exact .inr (.park h1 h2 h3)
  case stop o => exact .inr (.stop o)
  case ackHalted h => exact .inr (.ackHalted h)
  case ackTripped h hb => exact .inr (.ackTripped h hb)
  case ackParked h => exact .inr (.ackParked h)
  case inputs => exact .inr .inputs
  case wheelAssign w c g =>
    exact .inl (crane_stops_of_eq (releaseWheelChannel_frame _ _) rfl rfl)
  case jog => exact body (sameBody_grant s _ _ _ _ _)
  case goto => exact body (sameBody_gotoOpened s _ _)
  case release => exact body (.trans (sameBody_mapChannels s _) (sameBody_interruptMoves _ _))
  case takeArm => exact body (sameBody_armTake s _ _)
  case play => exact body (sameBody_startPlay s)
  case abort => exact body (sameBody_endTake s _)
  case mapSetSelected => exact body (.trans (sameBody_lens s _) (sameBody_applyChangedLimits _ _))
  case lensSelect => exact body (sameBody_selectBank s _)
  case trackOn => exact body (sameBody_trackOn s _ _)
  case trackOff => exact body (sameBody_trackOff s)
  all_goals exact .inl ⟨rfl, rfl⟩

/-- The events that bear on the crane state or the Stop Monitor. -/
inductive CraneEvent (s : State) : State → Prop
  | channelUpdate : CraneEvent s (channelUpdate s)
  | driveExchange (replies : PerChannel (Option (List Byte))) : CraneEvent s (driveExchange replies s)
  | slotEvent : CraneEvent s (slotEvent s)
  | zoneEvaluation : CraneEvent s (zoneEvaluation s)
  | inputSample (x : SafetySample) : CraneEvent s (inputSample x s)
  | frameEdge : CraneEvent s (frameEdge s)

theorem Event.crane_cases {s t : State} (h : Event s t) :
    (t.crane = s.crane ∧ t.stops = s.stops) ∨ CraneEvent s t := by
  cases h
  case channelUpdate => exact .inr .channelUpdate
  case driveExchange r => exact .inr (.driveExchange r)
  case slotEvent => exact .inr .slotEvent
  case zoneEvaluation => exact .inr .zoneEvaluation
  case inputSample x => exact .inr (.inputSample x)
  case frameEdge => exact .inr .frameEdge
  case presenceSample v =>
    exact .inl (crane_stops_of_eq (presenceSample_frame s v) rfl rfl)
  case engineMillisecond => exact .inl ⟨(sameBody_engineMillisecond s).crane, (sameBody_engineMillisecond s).stops⟩
  case lensUpdate => exact .inl ⟨(sameBody_lensUpdate s).crane, (sameBody_lensUpdate s).stops⟩
  all_goals exact .inl ⟨rfl, rfl⟩

/-! ## Folds and the channel update before its standstill -/

theorem foldl_keeps {α : Type} {P : State → Prop} {f : State → α → State} (l : List α) {s : State} (hs : P s)
    (h : ∀ u, P u → ∀ x ∈ l, P (f u x)) : P (l.foldl f s) :=
  List.foldlRecOn l f hs h

/-- As `SameBody`, but that the wheels may differ too. -/
structure SameButWheels (s t : State) : Prop where
  config : t.config = s.config
  driveBus : t.driveBus = s.driveBus
  head : t.head = s.head
  presence : t.presence = s.presence
  zoneMonitor : t.zoneMonitor = s.zoneMonitor
  power : t.power = s.power
  freeCount : t.freeCount = s.freeCount
  pending : t.pending = s.pending
  crane : t.crane = s.crane
  stops : t.stops = s.stops
  link : t.link = s.link

theorem SameBody.butWheels {s t : State} (h : SameBody s t) : SameButWheels s t := by
  obtain ⟨h1, h2, h3, h4, h5, h6, h7, h8, h9⟩ := settled_eq_iff.1 h.settled
  exact ⟨h1, h3, h4, h5, h6, h7, h8, h9, h.crane, h.stops, h.link⟩

theorem SameButWheels.trans {s t u : State} (h : SameButWheels s t) (k : SameButWheels t u) : SameButWheels s u :=
  ⟨k.1.trans h.1, k.2.trans h.2, k.3.trans h.3, k.4.trans h.4, k.5.trans h.5, k.6.trans h.6, k.7.trans h.7, k.8.trans h.8,
    k.9.trans h.9, k.10.trans h.10, k.11.trans h.11⟩

theorem sameButWheels_wheels (s : State) (w : PerFour WheelInput) : SameButWheels s { s with wheels := w } := by
  constructor <;> rfl

/-- R22: a hand-over touches no more than wheels and what a grant touches. -/
theorem handOver_body (i : Fin 4) (s : State) : SameButWheels s (handOver i s) := by
  unfold handOver
  dsimp only
  split
  · exact sameButWheels_wheels _ _
  · split
    · exact sameButWheels_wheels _ _
    · split
      · exact sameButWheels_wheels _ _
      · exact (sameButWheels_wheels s _).trans (sameBody_grant _ _ _ _ _ _).butWheels

theorem handOverAll_body (s : State) : SameButWheels s (handOverAll s) :=
  (handOver_body 0 s).trans ((handOver_body 1 _).trans ((handOver_body 2 _).trans (handOver_body 3 _)))

theorem sameBody_runProfiles (s : State) : SameBody s (runProfiles s) := ⟨rfl, rfl, rfl, rfl⟩

theorem sameBody_reachMoves (s : State) : SameBody s (reachMoves s) :=
  sameBody_foldl (fun t c => by split; exacts [sameBody_reachMove t c, .refl t]) _ _

theorem sameBody_releaseIdle (s : State) : SameBody s (releaseIdle s) := sameBody_mapChannels s _

/-- The channel update up to its standstill (R3 to R23, R27). -/
def updated (s : State) : State := releaseIdle (reachMoves (runProfiles (handOverAll s)))

theorem channelUpdate_eq (s : State) : channelUpdate s = checkStandstill (updated s) := rfl

theorem updated_body (s : State) : SameButWheels s (updated s) :=
  (handOverAll_body s).trans
    ((sameBody_runProfiles _).trans ((sameBody_reachMoves _).trans (sameBody_releaseIdle _))).butWheels

/-- R98: the update changes the crane state at a standstill in STOPPING alone. -/
theorem checkStandstill_cases (s : State) : checkStandstill s = s ∨
    (s.crane.state = .stopping ∧ bodyStill s = true ∧ checkStandstill s = enterCrane .halted .none
      (mapChannels { s with stops := { s.stops with deadlineTimer := none } } fun _ r => { r with stopDecel := false })) := by
  unfold checkStandstill
  split
  next h => exact .inr ⟨h.1, h.2, rfl⟩
  next => exact .inl rfl

end Sys2Proof.Machine

/-! The rise of a cause by its cases (R90 to R97), and what every command keeps of latches, first cause and RETREAT. -/

namespace Sys2Proof.Machine

/-! ## A change of crane state -/

section Entering

variable (s : State) (st : CraneState) (x : StateExtra)

theorem enterCrane_crane : (enterCrane st x s).crane = { s.crane with
    state := st, retreat := if s.crane.state = .ready ∧ st ≠ .ready then false else s.crane.retreat } := by
  by_cases h : s.crane.state = .ready ∧ st ≠ .ready <;> simp [enterCrane, h, clearRetreat]

theorem enterCrane_stops : (enterCrane st x s).stops = { s.stops with
    retreatSet := if s.crane.state = .ready ∧ st ≠ .ready then [] else s.stops.retreatSet } := by
  by_cases h : s.crane.state = .ready ∧ st ≠ .ready <;> simp [enterCrane, h, clearRetreat]

/-- R31, R185: the notices after a change of crane state. -/
theorem enterCrane_notices : (enterCrane st x s).notices =
    withAttn { s.notices with state := ⟨some ⟨st, s.stops.first, x⟩, s.notices.state.detail.isSome⟩ } := by
  by_cases h : s.crane.state = .ready ∧ st ≠ .ready <;> simp [enterCrane, h, clearRetreat, raiseState_notices]

end Entering

/-! ## The rise of a cause -/

/-- The state itself, or the state with the STATE notice raised as it stands (R92). -/
def Noticed (u t : State) : Prop := t = u ∨ t = raiseState ⟨u.crane.state, u.stops.first, .none⟩ u

/-- What a rise can do (R90 to R97). -/
inductive Risen (d : CauseDetail) (s : State) : State → Prop
  | ignored (zone : causeOf d = .zone) (state : s.crane.state = .parked ∨ s.crane.state = .tripped ∨ s.crane.state = .parking) :
      Risen d s s
  | trips (a : categoryA (causeOf d) = true) (on : s.crane.state ≠ .tripped) : Risen d s (entryA (latchCause d s))
  | stops (b : categoryA (causeOf d) = false) (ready : s.crane.state = .ready) :
      Risen d s (entryBReady (restFor d (latchCause d s)))
  | parks (b : categoryA (causeOf d) = false) (arming : s.crane.state = .arming) :
      Risen d s (entryBArming (restFor d (latchCause d s)))
  | stays (b : categoryA (causeOf d) = false) (state : s.crane.state = .parked ∨ s.crane.state = .parking) (t : State)
      (told : Noticed (stopLiveHead (restFor d (latchCause d s))) t)
      (new : getCause s.stops.latches (causeOf d) = none →
        t = raiseState ⟨s.crane.state, (latchCause d s).stops.first, .none⟩ (stopLiveHead (restFor d (latchCause d s)))) :
      Risen d s t
  | latched (state : s.crane.state = .tripped ∨
        (categoryA (causeOf d) = false ∧ (s.crane.state = .stopping ∨ s.crane.state = .halted))) (t : State)
      (told : Noticed (restFor d (latchCause d s)) t)
      (new : getCause s.stops.latches (causeOf d) = none →
        t = raiseState ⟨s.crane.state, (latchCause d s).stops.first, .none⟩ (restFor d (latchCause d s))) :
      Risen d s t

section Rise

variable (d : CauseDetail) (s : State)

@[simp] theorem restFor_crane : (restFor d s).crane = s.crane := by unfold restFor; split <;> simp
@[simp] theorem restFor_stops : (restFor d s).stops = s.stops := by unfold restFor; split <;> simp

theorem restFor_of_categoryA (h : categoryA (causeOf d) = true) : restFor d s = s := by
  unfold restFor
  split
  next hl => simp [hl, categoryA] at h
  next => rfl

theorem entryBReady_state : (entryBReady s).crane.state = .stopping := enterCrane_state _ _ _

theorem entryBArming_state : (entryBArming s).crane.state = .parking := enterCrane_state _ _ _

theorem latches_false_iff (st : CraneState) : latches d st = false ↔
    causeOf d = .zone ∧ (st = .parked ∨ st = .tripped ∨ st = .parking) := by
  cases st <;> simp [latches]

/-- A rise is one of its cases. -/
theorem rise_risen : Risen d s (rise d s) := by
  cases hl : latches d s.crane.state with
  | false =>
    obtain ⟨hz, hs⟩ := (latches_false_iff d _).1 hl
    rw [rise_of_not_latches s d hl]
    exact .ignored hz hs
  | true =>
    set v := restFor d (latchCause d s) with hv
    have hvc : v.crane = s.crane := by simp [hv]
    have hvf : v.stops.first = (latchCause d s).stops.first := by simp [hv]
    have hr : rise d s = if (getCause s.stops.latches (causeOf d)).isNone ∧
        (actOnCrane d (latchCause d s)).crane.state = s.crane.state then
        raiseState ⟨(actOnCrane d (latchCause d s)).crane.state, (actOnCrane d (latchCause d s)).stops.first, .none⟩
          (actOnCrane d (latchCause d s)) else actOnCrane d (latchCause d s) := by
      simp [rise, hl]
    have hact := actOnCrane_eq (latchCause d s) d
    rw [← hv, hvc] at hact
    have move : ∀ w, actOnCrane d (latchCause d s) = w → w.crane.state ≠ s.crane.state → rise d s = w := by
      rintro w rfl hw
      rw [hr, if_neg fun h => hw h.2]
    have stay : ∀ w, actOnCrane d (latchCause d s) = w → w.crane.state = s.crane.state →
        w.stops.first = (latchCause d s).stops.first →
        Noticed w (rise d s) ∧ (getCause s.stops.latches (causeOf d) = none →
          rise d s = raiseState ⟨s.crane.state, (latchCause d s).stops.first, .none⟩ w) := by
      rintro w rfl hw hf
      rw [hr]
      refine ⟨?_, fun hn => by rw [if_pos ⟨by simp [hn], hw⟩, hw, hf]⟩
      split
      · exact .inr rfl
      · exact .inl rfl
    cases hc : categoryA (causeOf d) with
    | true =>
      rw [hc, if_pos rfl] at hact
      by_cases ht : s.crane.state = .tripped
      · rw [if_pos ht] at hact
        obtain ⟨h1, h2⟩ := stay _ hact (by rw [hvc]) hvf
        exact .latched (.inl ht) _ h1 h2
      · rw [if_neg ht, hv, restFor_of_categoryA _ _ hc] at hact
        rw [move _ hact (by rw [entryA_state]; exact fun h => ht h.symm)]
        exact .trips hc ht
    | false =>
      rw [hc, if_neg (by simp)] at hact
      unfold entryB at hact
      rw [hvc] at hact
      split at hact
      next h => rw [move _ hact (by rw [entryBReady_state, h]; simp)]; exact .stops hc h
      next h => rw [move _ hact (by rw [entryBArming_state, h]; simp)]; exact .parks hc h
      next h =>
        obtain ⟨h1, h2⟩ := stay _ hact (by simp [hvc]) (by simp [hvf])
        exact .stays hc (.inl h) _ h1 h2
      next h =>
        obtain ⟨h1, h2⟩ := stay _ hact (by simp [hvc]) (by simp [hvf])
        exact .stays hc (.inr h) _ h1 h2
      next h =>
        obtain ⟨h1, h2⟩ := stay _ hact (by rw [hvc]) hvf
        exact .latched (.inr ⟨hc, .inl h⟩) _ h1 h2
      next h =>
        obtain ⟨h1, h2⟩ := stay _ hact (by rw [hvc]) hvf
        exact .latched (.inr ⟨hc, .inr h⟩) _ h1 h2
      next h =>
        obtain ⟨h1, h2⟩ := stay _ hact (by rw [hvc]) hvf
        exact .latched (.inl h) _ h1 h2

theorem Noticed.crane {u t : State} (h : Noticed u t) : t.crane = u.crane := by
  obtain rfl | rfl := h <;> simp

theorem Noticed.stops {u t : State} (h : Noticed u t) : t.stops = u.stops := by
  obtain rfl | rfl := h <;> simp

end Rise

/-! ## Latches, first cause and RETREAT -/

theorem noneLatched_iff {p : PerCause} : noneLatched p = true ↔ ∀ k, getCause p k = none := by
  simp only [noneLatched, List.all_eq_true, Option.isNone_iff_eq_none]
  exact ⟨fun h k => h k (by cases k <;> decide), fun h k _ => h k⟩

@[simp] theorem getCause_noCauses (k : Cause) : getCause noCauses k = none := by cases k <;> rfl

/-- R43, R90, R91. -/
structure SafetyAgrees (s : State) : Prop where
  latches : LatchesAgree s
  retreat : RetreatAgrees s

section Safety

variable {s t : State}

theorem SafetyAgrees.of_eq (h : SafetyAgrees s) (state : t.crane.state = s.crane.state)
    (retreat : t.crane.retreat = s.crane.retreat) (first : t.stops.first = s.stops.first)
    (latches : t.stops.latches = s.stops.latches) (set : t.stops.retreatSet = s.stops.retreatSet) : SafetyAgrees t := by
  obtain ⟨⟨h1, h2⟩, ⟨h3, h4⟩⟩ := h
  constructor <;> constructor <;> simp only [state, retreat, first, latches, set] <;> assumption

theorem SafetyAgrees.of_same (h : SafetyAgrees s) (hc : t.crane = s.crane) (hs : t.stops = s.stops) : SafetyAgrees t :=
  h.of_eq (by rw [hc]) (by rw [hc]) (by rw [hs]) (by rw [hs]) (by rw [hs])

/-- Outside READY neither RETREAT nor its set stands. -/
theorem SafetyAgrees.no_retreat (h : SafetyAgrees s) (hs : s.crane.state ≠ .ready) :
    s.crane.retreat = false ∧ s.stops.retreatSet = [] := by
  have hr : s.crane.retreat = false := by
    cases hr : s.crane.retreat
    · rfl
    · exact absurd (h.retreat.readyOnly hr) hs
  exact ⟨hr, by_contra fun hne => by simp [h.retreat.nonempty.2 hne] at hr⟩

/-- A change of crane state to one that latches allow. -/
theorem safetyAgrees_enterCrane {st : CraneState} {x : StateExtra} (set : s.crane.retreat = true ↔ s.stops.retreatSet ≠ [])
    (ready : s.crane.retreat = true → s.crane.state = .ready ∨ st = .ready)
    (first : s.stops.first = none ↔ ∀ k, getCause s.stops.latches k = none)
    (clear : st = .ready ∨ st = .arming → ∀ k, getCause s.stops.latches k = none) :
    SafetyAgrees (enterCrane st x s) := by
  constructor
  · constructor
    · simpa only [enterCrane_stops] using first
    · simpa only [enterCrane_stops, enterCrane_crane] using clear
  · constructor
    · simp only [enterCrane_stops, enterCrane_crane]
      split <;> simp [set]
    · simp only [enterCrane_crane]
      split
      · simp
      next hl =>
        intro ht
        by_contra hne
        exact (ready ht).elim (fun h => hl ⟨h, hne⟩) hne

/-- The same from a state whose RETREAT agrees. -/
theorem RetreatAgrees.enterCrane {st : CraneState} {x : StateExtra} (h : RetreatAgrees s)
    (first : s.stops.first = none ↔ ∀ k, getCause s.stops.latches k = none)
    (clear : st = .ready ∨ st = .arming → ∀ k, getCause s.stops.latches k = none) :
    SafetyAgrees (enterCrane st x s) :=
  safetyAgrees_enterCrane h.nonempty (fun hr => .inl (h.readyOnly hr)) first clear

/-- R90, R91: once a latch is set a first cause stands. -/
theorem latchCause_agrees (d : CauseDetail) (h : s.stops.first = none ↔ ∀ k, getCause s.stops.latches k = none) :
    (latchCause d s).stops.first = none ↔ ∀ k, getCause (latchCause d s).stops.latches k = none := by
  have hset : getCause (latchCause d s).stops.latches (causeOf d) ≠ none := by rw [latchCause_latches]; simp
  refine ⟨fun hn => ?_, fun hk => absurd (hk _) hset⟩
  exfalso
  unfold latchCause at hn
  split at hn
  next hsome => rw [h.1 hn] at hsome; simp at hsome
  next =>
    dsimp only at hn
    split at hn
    · cases hn
    next hne => exact hne (noneLatched_iff.2 (h.1 hn))

@[simp] theorem latchCause_retreatSet (d : CauseDetail) : (latchCause d s).stops.retreatSet = s.stops.retreatSet := by
  unfold latchCause; split <;> rfl

theorem RetreatAgrees.of_eq (h : RetreatAgrees s) (state : t.crane.state = s.crane.state)
    (retreat : t.crane.retreat = s.crane.retreat) (set : t.stops.retreatSet = s.stops.retreatSet) : RetreatAgrees t := by
  obtain ⟨h1, h2⟩ := h
  constructor <;> simp only [state, retreat, set] <;> assumption

/-- A rise keeps latches, first cause and RETREAT in agreement. -/
theorem safetyAgrees_rise (d : CauseDetail) (h : SafetyAgrees s) : SafetyAgrees (rise d s) := by
  have hfirst := latchCause_agrees d h.latches.first
  have quiet : ∀ t : State, s.crane.state ≠ .ready → s.crane.state ≠ .arming → t.crane = s.crane →
      t.stops = (latchCause d s).stops → SafetyAgrees t := by
    intro t hr ha hc hs
    refine ⟨⟨by rw [hs]; exact hfirst, ?_⟩, h.retreat.of_eq (by rw [hc]) (by rw [hc]) (by rw [hs]; simp)⟩
    rw [hc]
    rintro (h | h)
    · exact absurd h hr
    · exact absurd h ha
  obtain hr := rise_risen d s
  revert hr
  generalize rise d s = t
  intro hr
  cases hr with
  | ignored => exact h
  | trips a on =>
    refine (h.retreat.of_eq ?_ ?_ ?_).enterCrane ?_ (by simp)
    · simp [clearSequence]
    · simp [clearSequence]
    · simp
    · simpa using hfirst
  | stops b ready =>
    refine (h.retreat.of_eq ?_ ?_ ?_).enterCrane ?_ (by simp)
    · simp
    · simp
    · simp
    · simpa using hfirst
  | parks b arming =>
    refine (h.retreat.of_eq ?_ ?_ ?_).enterCrane ?_ (by simp)
    · simp [startParkingSlot]
    · simp [startParkingSlot]
    · simp
    · simpa using hfirst
  | stays b state t told _ =>
    refine quiet t ?_ ?_ (by rw [told.crane]; simp) (by rw [told.stops]; simp)
    · rcases state with h | h <;> simp [h]
    · rcases state with h | h <;> simp [h]
  | latched state t told _ =>
    refine quiet t ?_ ?_ (by rw [told.crane]; simp) (by rw [told.stops]; simp)
    · rcases state with h | ⟨_, h | h⟩ <;> simp [h]
    · rcases state with h | ⟨_, h | h⟩ <;> simp [h]

/-! ### The requests -/

theorem safetyAgrees_craneRequest (h : SafetyAgrees s) (hr : CraneRequest s t) : SafetyAgrees t := by
  cases hr with
  | arm parked clear =>
    have hn := noneLatched_iff.1 clear
    refine (h.retreat.of_eq ?_ ?_ ?_).enterCrane ?_ fun _ => ?_
    any_goals rfl
    · exact h.latches.first
    · exact hn
  | park =>
    refine (h.retreat.of_eq ?_ ?_ ?_).enterCrane ?_ (by simp)
    any_goals rfl
    exact h.latches.first
  | stop o => exact safetyAgrees_rise _ h
  | ackHalted =>
    refine safetyAgrees_enterCrane ?_ (fun _ => .inr rfl) ?_ ?_
    · simp [clearLatches]
    · simp [clearLatches]
    · simp [clearLatches]
  | ackTripped tripped =>
    obtain ⟨h1, h2⟩ := h.no_retreat (by simp [tripped])
    rw [setInhibits_frame]
    refine (h.retreat.of_eq ?_ ?_ ?_).enterCrane ?_ (by simp [clearLatches])
    · rfl
    · rfl
    · rfl
    · simp [clearLatches]
  | ackParked parked =>
    rw [setInhibits_frame]
    refine ⟨⟨?_, ?_⟩, h.retreat.of_eq ?_ ?_ ?_⟩
    all_goals simp [clearLatches]
  | inputs => exact h.of_eq rfl rfl rfl rfl rfl

end Safety

end Sys2Proof.Machine

/-! The events that can raise a cause, by their parts; and what every command keeps of latches, first cause and RETREAT. -/

namespace Sys2Proof.Machine

/-! ## The input sample, by its parts -/

/-- Two Stop Monitor records that differ in inputs, conditions other than LINK, breach set and timers alone. -/
structure SameCauses (q r : StopRecord) : Prop where
  first : r.first = q.first
  latches : r.latches = q.latches
  retreatSet : r.retreatSet = q.retreatSet
  link : r.conditions.link = q.conditions.link

/-- What every part of an input sample keeps; the causes that a sample can raise are of category A, but for GRIP. -/
structure SampleKeeps (P : State → Prop) : Prop where
  input : ∀ u, P u → P (raiseInput u)
  stops : ∀ u r, P u → SameCauses u.stops r →
    (u.crane.state ≠ .stopping → r.deadlineTimer = u.stops.deadlineTimer) → P { u with stops := r }
  channels : ∀ u, P u → P (clearInhibits u)
  rises : ∀ d u, P u → categoryA (causeOf d) = true ∨ causeOf d = .grip → P (rise d u)

namespace SampleKeeps

variable {P : State → Prop} (h : SampleKeeps P) {s : State}
include h

theorem setCondition {k : Cause} (hk : k ≠ .link) (d : Option CauseDetail) (hs : P s) : P (setCondition k d s) :=
  h.stops s _ hs ⟨rfl, rfl, rfl, by cases k <;> trivial⟩ fun _ => rfl

theorem stepDeadline (hs : P s) : P (stepDeadline s) := by
  unfold Machine.stepDeadline
  split
  · exact hs
  · split
    · exact hs
    next hst =>
      split
      · exact h.stops _ _ hs ⟨rfl, rfl, rfl, rfl⟩ fun hn => absurd hn hst
      · exact h.rises _ _ (h.stops _ _ hs ⟨rfl, rfl, rfl, rfl⟩ fun hn => absurd hn hst) (.inl rfl)

theorem sampleSafety (x : SafetySample) (hs : P s) : P (sampleSafety x s) := by
  refine foldl_keeps _ hs fun u hu l _ => ?_
  have hl : P { u with stops := setFilter u.stops l (filterSample (getFilter u.stops l) (sampleOf x l)) } :=
    h.stops _ _ hu (by cases l <;> exact ⟨rfl, rfl, rfl, rfl⟩) fun _ => by cases l <;> rfl
  dsimp only [sampleSafetyLine]
  split
  · exact h.input _ hl
  · exact hl

theorem stepFrame (hs : P s) : P (stepFrame s) := by
  unfold Machine.stepFrame
  dsimp only
  split
  · exact hs
  · split
    · exact h.stops _ _ hs ⟨rfl, rfl, rfl, rfl⟩ fun _ => rfl
    · exact h.input _ (h.stops _ _ hs ⟨rfl, rfl, rfl, rfl⟩ fun _ => rfl)

omit h in
theorem stepDiscrepancy_frame (r : StopRecord) : ∃ x d b, stepDiscrepancy r =
    { r with discrepancyTimer := x, discrepancy := d, bothOpenSeen := b } := by
  rcases stepDiscrepancy_cases r with ⟨_, _, h⟩ | ⟨_, _, h⟩ | ⟨_, h⟩
  · exact ⟨_, r.discrepancy, _, h⟩
  · exact ⟨_, _, _, h⟩
  · rw [h]
    unfold stepDiscrepancyTimer
    repeat' split
    all_goals exact ⟨_, _, _, rfl⟩

theorem evalEstop (hs : P s) : P (evalEstop s) := by
  have hs : P { s with stops := stepDiscrepancy s.stops } := by
    obtain ⟨x, d, b, he⟩ := stepDiscrepancy_frame s.stops
    rw [he]
    exact h.stops _ _ hs ⟨rfl, rfl, rfl, rfl⟩ fun _ => rfl
  have hc := h.setCondition (k := .estop) nofun (estopCondition (stepDiscrepancy s.stops)) hs
  dsimp only [Machine.evalEstop]
  split
  next d hd =>
    split
    · refine h.rises _ _ hc (.inl ?_)
      unfold estopCondition at hd
      split at hd
      · cases hd; rfl
      · cases hd
    · exact hc
  next => exact hc

theorem evalOvertravel (before : PerEight LineFilter) (hs : P s) : P (evalOvertravel before s) :=
  foldl_keeps _ (h.setCondition (k := .overtravel) nofun _ hs) fun _ hu _ _ => h.rises _ _ hu (.inl rfl)

theorem evalGrip (hs : P s) : P (evalGrip s) := by
  have hc := h.setCondition (k := .grip) nofun (gripCondition s) hs
  dsimp only [Machine.evalGrip]
  split
  next d hd =>
    split
    · refine h.rises _ _ hc (.inr ?_)
      unfold gripCondition at hd
      repeat' split at hd
      all_goals (cases hd; try rfl)
    · exact hc
  next => exact hc

theorem inputSample (x : SafetySample) (hs : P s) : P (inputSample x s) := by
  have h1 := h.sampleSafety x (h.stepDeadline hs)
  have h2 := h.evalOvertravel s.stops.overtravel (h.evalEstop (h.stepFrame h1))
  unfold Machine.inputSample
  exact h.evalGrip (h.channels _ h2)

end SampleKeeps

/-! ## Inhibits and the FRAME edge -/

/-- A fold that changes inhibits alone changes inhibits alone. -/
theorem foldl_inhibits {f : State → Fin 8 → State} (h : ∀ s i c, ∃ p m,
    (f s i).chan c = { s.chan c with inhibitPlus := p, inhibitMinus := m }) (l : List (Fin 8)) (s : State) (c : Chan) :
    ∃ p m, (l.foldl f s).chan c = { s.chan c with inhibitPlus := p, inhibitMinus := m } := by
  induction l generalizing s with
  | nil => exact ⟨(s.chan c).inhibitPlus, (s.chan c).inhibitMinus, rfl⟩
  | cons i l ih =>
    obtain ⟨p, m, h1⟩ := ih (f s i)
    obtain ⟨p', m', h2⟩ := h s i c
    exact ⟨p, m, by rw [List.foldl_cons, h1, h2]⟩

theorem chan_setChan_inhibits (s : State) (b : Bool) (d : Chan) (p m : Bool) (p' m' : Bool) (c : Chan) :
    ∃ q n, (s.setChan d (if b then { s.chan d with inhibitPlus := p, inhibitMinus := m }
      else { s.chan d with inhibitPlus := p', inhibitMinus := m' })).chan c =
        { s.chan c with inhibitPlus := q, inhibitMinus := n } := by
  rw [chan_setChan]
  split
  next h => subst h; cases b <;> exact ⟨_, _, rfl⟩
  next => exact ⟨_, _, rfl⟩

/-- R102: a setting of inhibits changes no other field of a channel. -/
theorem chan_setInhibits (s : State) (c : Chan) :
    ∃ p m, (setInhibits s).chan c = { s.chan c with inhibitPlus := p, inhibitMinus := m } := by
  refine foldl_inhibits (fun u i d => ?_) allOvertravel s c
  split
  · exact chan_setChan_inhibits u _ _ true (u.chan _).inhibitMinus (u.chan _).inhibitPlus true d
  · exact ⟨_, _, rfl⟩

/-- R103: nor does a clearing. -/
theorem chan_clearInhibits (s : State) (c : Chan) :
    ∃ p m, (clearInhibits s).chan c = { s.chan c with inhibitPlus := p, inhibitMinus := m } := by
  refine foldl_inhibits (fun u i d => ?_) allOvertravel s c
  split
  · exact ⟨_, _, rfl⟩
  · exact chan_setChan_inhibits u _ _ false (u.chan _).inhibitMinus (u.chan _).inhibitPlus false d

/-- R83: an edge of FRAME changes the record of FRAME, and may raise INPUT. -/
theorem renewFrame_frame (s : State) : ∃ f n, renewFrame s = { s with
    stops := { s.stops with frame := f }, notices := n } := by
  unfold renewFrame
  dsimp only
  split <;> exact ⟨_, _, rfl⟩

/-- R141: an edge of FRAME is the edge itself, and the start of the play that waits for it. -/
theorem frameEdge_cases (s : State) : frameEdge s = renewFrame s ∨
    (s.engine.state = .waitFrame ∧ frameEdge s = startPlay (renewFrame s)) := by
  have he : (renewFrame s).engine = s.engine := by
    obtain ⟨f, n, h⟩ := renewFrame_frame s
    rw [h]
  by_cases hw : s.engine.state = .waitFrame
  · exact .inr ⟨hw, by simp [frameEdge, he, hw]⟩
  · exact .inl (by simp [frameEdge, he, hw])

@[simp] theorem frameEdge_crane (s : State) : (frameEdge s).crane = s.crane := by
  obtain ⟨f, n, h⟩ := renewFrame_frame s
  rcases frameEdge_cases s with he | ⟨_, he⟩
  · rw [he, h]
  · rw [he, (sameBody_startPlay _).crane, h]

/-! ## The exchange and the zone evaluation, by their parts -/

/-- The state after the replies of an exchange have been taken, before its rises (R12 to R15, R35, R87). -/
def exchanged (replies : PerChannel (Option (List Byte))) (s : State) : State :=
  let t := { s with channels := .ofFn (exchangeRecord s replies), driveBus := commandRecords s }
  let t := { t with crane := { t.crane with brakes := releaseBrakes s t } }
  setCondition .drive (driveCondition t) t

theorem driveExchange_keeps {P : State → Prop} (replies : PerChannel (Option (List Byte))) {s : State}
    (hs : P (exchanged replies s)) (rises : ∀ c k u, P u → P (rise (.drive c k) u)) : P (driveExchange replies s) := by
  refine foldl_keeps (s := exchanged replies s) (f := fun t c => match exchangeRise s replies c with
      | some k => rise (.drive c k) t
      | none => t) allChans hs fun u hu c _ => ?_
  split
  · exact rises _ _ _ hu
  · exact hu

/-- R73, R74: the zones with their derived fields, as measured. -/
def measuredZones (s : State) : List Zone := s.zoneMonitor.zones.map (measureZone s)

/-- R80: the zones that stay in the retreat set. -/
def stayingRetreat (s : State) : List RetreatZone :=
  s.stops.retreatSet.filter fun r => !leavesRetreat s.head.valid (measuredZones s) r

/-- R79: those of them whose clearance has fallen. -/
def decreasedZones (s : State) : List Nat :=
  ((stayingRetreat s).filter (decreased s.head.valid (measuredZones s))).map (·.zone)

/-- R79: the retreat set after the evaluation. -/
def evaluatedRetreat (s : State) : List RetreatZone :=
  (stayingRetreat s).map (followReference s.head.valid (measuredZones s))

/-- R75: the zones after the evaluation. -/
def evaluatedZones (s : State) : List Zone := (measuredZones s).map (contribute s (evaluatedRetreat s))

/-- R78: the breach set. -/
def evaluatedBreach (s : State) : List Nat :=
  if s.head.valid then ((evaluatedZones s).filter (breached (evaluatedRetreat s))).map (·.number) else []

/-- R78, R79: the ZONE condition. -/
def evaluatedDetail (s : State) : Option CauseDetail :=
  (leastNumber (evaluatedBreach s ++ decreasedZones s)).map CauseDetail.zone

/-- R78, R79, R84: the condition, if present, is a rise. -/
def zoneRises (s : State) : Bool :=
  s.stops.conditions.zone.isNone || ((evaluatedBreach s).any fun n => !s.stops.breachSet.contains n) ||
    !(decreasedZones s).isEmpty

/-- The state after an evaluation, before its rise and its notices. -/
def evaluated (s : State) : State :=
  setCondition .zone (evaluatedDetail s) { s with
    zoneMonitor :=
      ⟨evaluatedZones s, if s.head.valid then ((leastContribution (evaluatedZones s)).map (·.2)).getD 1024 else 0,
        if s.head.valid then (leastContribution (evaluatedZones s)).map (·.1) else none⟩
    stops := { s.stops with retreatSet := evaluatedRetreat s, breachSet := evaluatedBreach s }
    crane := { s.crane with retreat := s.crane.retreat && !(evaluatedRetreat s).isEmpty } }

/-- The state after the rise of an evaluation. -/
def evaluatedRisen (s : State) : State :=
  match evaluatedDetail s with
  | some d => if zoneRises s then rise d (evaluated s) else evaluated s
  | none => evaluated s

/-- R72: the evaluation, its rise, its notices. -/
theorem zoneEvaluation_eq (s : State) : zoneEvaluation s =
    (s.zoneMonitor.zones.zip (evaluatedZones s)).foldl
      (fun t p => if zoneNotifies p.1 p.2 then raiseZone (zoneDetail p.2) t else t) (evaluatedRisen s) := rfl

theorem evaluatedRisen_cases (s : State) : evaluatedRisen s = evaluated s ∨
    ∃ n, leastNumber (evaluatedBreach s ++ decreasedZones s) = some n ∧ zoneRises s = true ∧
      evaluatedRisen s = rise (.zone n) (evaluated s) := by
  unfold evaluatedRisen evaluatedDetail
  cases leastNumber (evaluatedBreach s ++ decreasedZones s) with
  | none => exact .inl rfl
  | some n =>
    cases hr : zoneRises s
    · exact .inl (by simp)
    · exact .inr ⟨n, rfl, rfl, by simp⟩

theorem zoneEvaluation_keeps {P : State → Prop} {s : State} (hs : P (evaluated s))
    (rises : ∀ n, P (rise (.zone n) (evaluated s))) (raises : ∀ d u, P u → P (raiseZone d u)) :
    P (zoneEvaluation s) := by
  rw [zoneEvaluation_eq]
  have hr : P (evaluatedRisen s) := by
    rcases evaluatedRisen_cases s with h | ⟨n, _, _, h⟩
    · rw [h]; exact hs
    · rw [h]; exact rises n
  refine foldl_keeps _ hr fun u hu p _ => ?_
  split
  · exact raises _ _ hu
  · exact hu

/-! ## Slots and expiries -/

/-- The end of a parking slot before the next slot or PARKED (R40). -/
def parkedOff (n : Nat) (s : State) : State :=
  let t := interruptMoves (parksOff s n)
    (mapChannels s fun c r => if parksOff s n c then { commandOff r with owner := .none } else r)
  if parksOff s n .focus then trackingOff t else t

/-- What a slot event can do (R32, R36, R37, R40, R41). -/
inductive SlotStep (s : State) : State → Prop
  | none : SlotStep s s
  | tick (n : Nat) (pointer : s.crane.slotPointer = some n) :
      SlotStep s { s with crane := { s.crane with slotTimer := s.crane.slotTimer + 1 } }
  | armFail (n : Nat) (pointer : s.crane.slotPointer = some n) (up : s.crane.sequence = .up) (failed : Chan) :
      SlotStep s (enterCrane .parking (.armFail failed)
        (startParkingSlot n { s with crane := { s.crane with sequence := .down } }))
  | nextUp (n k : Nat) (pointer : s.crane.slotPointer = some n) (up : s.crane.sequence = .up)
      (active : ∀ c, (s.cfg c).releaseSlot = n → (s.chan c).drive = .active) (next : nextHigherSlot s n = some k) :
      SlotStep s (startArmingSlot k s)
  | ready (n : Nat) (pointer : s.crane.slotPointer = some n) (up : s.crane.sequence = .up)
      (active : ∀ c, (s.cfg c).releaseSlot = n → (s.chan c).drive = .active) (last : nextHigherSlot s n = none) :
      SlotStep s (enterCrane .ready .none (clearSequence s))
  | nextDown (n k : Nat) (pointer : s.crane.slotPointer = some n) (down : s.crane.sequence = .down)
      (next : nextLowerSlot s n = some k) : SlotStep s (startParkingSlot k (parkedOff n s))
  | parked (n : Nat) (pointer : s.crane.slotPointer = some n) (down : s.crane.sequence = .down)
      (last : nextLowerSlot s n = none) : SlotStep s (enterCrane .parked .none (clearSequence (parkedOff n s)))

theorem parkedOff_body (n : Nat) (s : State) : SameBody s (parkedOff n s) := by
  have h := (sameBody_mapChannels s fun c r => if parksOff s n c then { commandOff r with owner := .none } else r).trans
    (sameBody_interruptMoves _ (parksOff s n))
  unfold parkedOff
  dsimp only
  split
  · exact h.trans (sameBody_trackingOff _)
  · exact h

theorem slotEvent_step (s : State) : SlotStep s (slotEvent s) := by
  unfold slotEvent
  cases hp : s.crane.slotPointer with
  | none => exact .none
  | some n =>
    dsimp only
    split
    · exact .tick n hp
    · cases hq : s.crane.sequence with
      | none => exact .none
      | up =>
        dsimp only [armingSlotEnd]
        split
        next failed _ => exact .armFail n hp hq failed
        next hf =>
          have active : ∀ c, (s.cfg c).releaseSlot = n → (s.chan c).drive = .active := fun c hc => by
            simpa [inSlot, hc] using List.find?_eq_none.1 hf c (mem_allChans c)
          split
          next k hk => exact .nextUp n k hp hq active hk
          next hk => exact .ready n hp hq active hk
      | down =>
        dsimp only [parkingSlotEnd]
        have hl : nextLowerSlot (parkedOff n s) n = nextLowerSlot s n := by
          unfold nextLowerSlot slotUsed State.cfg
          rw [(parkedOff_body n s).config]
        cases hk : nextLowerSlot s n with
        | some k =>
          rw [hk] at hl
          have := SlotStep.nextDown n k hp hq hk
          unfold parkedOff at hl this
          dsimp only at hl this
          rw [hl]
          exact this
        | none =>
          rw [hk] at hl
          have := SlotStep.parked n hp hq hk
          unfold parkedOff at hl this
          dsimp only at hl this
          rw [hl]
          exact this

/-- R184: an expiry stops the timers, and is a rise where LINK is absent. -/
theorem expireLink_cases (k : LinkKind) (s : State) (l : LinkRecord)
    (hl : l = { s.link with periodic := .stopped, noticeTimer := .stopped }) :
    (s.stops.conditions.link ≠ none ∧ expireLink k s = { s with link := l }) ∨
      (s.stops.conditions.link = none ∧
        expireLink k s = rise (.link k) (setCondition .link (some (.link k)) { s with link := l })) := by
  subst hl
  cases h : s.stops.conditions.link with
  | none => exact .inr ⟨rfl, by simp [expireLink, h]⟩
  | some d => exact .inl ⟨by simp, by simp [expireLink, h]⟩

/-! ## Latches, first cause and RETREAT -/

section Safety

variable {s t : State}

theorem safetyAgrees_evaluated (h : SafetyAgrees s) : SafetyAgrees (evaluated s) := by
  have hempty : evaluatedRetreat s ≠ [] → s.stops.retreatSet ≠ [] := by
    intro hne h0
    simp [evaluatedRetreat, stayingRetreat, h0] at hne
  refine ⟨⟨h.latches.first, h.latches.clear⟩, ⟨?_, fun hr => ?_⟩⟩
  · show (s.crane.retreat && !(evaluatedRetreat s).isEmpty) = true ↔ evaluatedRetreat s ≠ []
    rw [Bool.and_eq_true, h.retreat.nonempty]
    simpa using hempty
  · exact h.retreat.readyOnly (Bool.and_eq_true_iff.1 hr).1

theorem safetyAgrees_slot (hq : SequenceAgrees s) (h : SafetyAgrees s) (hs : SlotStep s t) : SafetyAgrees t := by
  cases hs with
  | none => exact h
  | tick => exact h.of_eq rfl rfl rfl rfl rfl
  | armFail n =>
    exact (h.retreat.of_eq (t := startParkingSlot n { s with crane := { s.crane with sequence := .down } }) rfl rfl
      rfl).enterCrane h.latches.first (by simp)
  | nextUp => exact h.of_eq rfl rfl rfl rfl rfl
  | ready n pointer up =>
    have harm : s.crane.state = .arming := by
      unfold SequenceAgrees at hq
      split at hq <;> simp_all
    exact (h.retreat.of_eq (t := clearSequence s) rfl rfl rfl).enterCrane h.latches.first
      fun _ => h.latches.clear (.inr harm)
  | nextDown n k =>
    have hb := parkedOff_body n s
    exact (h.of_same hb.crane hb.stops).of_eq rfl rfl rfl rfl rfl
  | parked n =>
    have hb := parkedOff_body n s
    have hp := h.of_same hb.crane hb.stops
    exact (hp.retreat.of_eq (t := clearSequence (parkedOff n s)) rfl rfl rfl).enterCrane hp.latches.first (by simp)

theorem safetyAgrees_sample : SampleKeeps SafetyAgrees where
  input _ h := h.of_same rfl rfl
  stops _ _ h hr _ := h.of_eq rfl rfl hr.first hr.latches hr.retreatSet
  channels u h := by rw [clearInhibits_frame]; exact h.of_same rfl rfl
  rises d _ h _ := safetyAgrees_rise d h

theorem safetyAgrees_event (hq : SequenceAgrees s) (h : SafetyAgrees s) (he : Event s t) : SafetyAgrees t := by
  obtain ⟨hc, hs⟩ | he := he.crane_cases
  · exact h.of_same hc hs
  cases he with
  | channelUpdate =>
    have hb := updated_body s
    have hu := h.of_same hb.crane hb.stops
    rw [channelUpdate_eq]
    rcases checkStandstill_cases (updated s) with he | ⟨hst, _, he⟩
    · rw [he]; exact hu
    · rw [he]
      refine (hu.retreat.of_eq ?_ ?_ ?_).enterCrane ?_ (by simp)
      · rfl
      · rfl
      · rfl
      · exact hu.latches.first
  | driveExchange r => exact driveExchange_keeps r (h.of_eq rfl rfl rfl rfl rfl) fun c k _ hu => safetyAgrees_rise _ hu
  | slotEvent => exact safetyAgrees_slot hq h (slotEvent_step s)
  | zoneEvaluation =>
    have he := safetyAgrees_evaluated h
    exact zoneEvaluation_keeps he (fun n => safetyAgrees_rise _ he) fun d u hu => hu.of_same (by simp) (by simp)
  | inputSample x => exact safetyAgrees_sample.inputSample x h
  | frameEdge =>
    have hf : SafetyAgrees (renewFrame s) := by
      obtain ⟨f, n, hf⟩ := renewFrame_frame s
      rw [hf]; exact h.of_eq rfl rfl rfl rfl rfl
    rcases frameEdge_cases s with he | ⟨_, he⟩
    · rw [he]; exact hf
    · rw [he]; exact hf.of_same (sameBody_startPlay _).crane (sameBody_startPlay _).stops

theorem safetyAgrees_reset (warm : Bool) (cause : ResetCause) (straps : Straps) :
    SafetyAgrees (performReset warm cause straps s) := by
  have hl : ∀ k, getCause State.reset.stops.latches k = none := getCause_noCauses
  have hr : SafetyAgrees .reset := ⟨⟨⟨fun _ => hl, fun _ => rfl⟩, fun _ => hl⟩, ⟨by decide, by decide⟩⟩
  refine hr.of_eq ?_ ?_ ?_ ?_ ?_
  all_goals unfold performReset; split <;> rfl

theorem safetyAgrees_effect {i : Instr} (hq : SequenceAgrees s) (h : SafetyAgrees s) (he : Effect i s t) :
    SafetyAgrees t := by
  cases he with
  | nothing => exact h
  | receiver => exact h.of_same rfl rfl
  | request j l receives =>
    refine request_keeps (fun u _ hu => ?_) (fun u l hu => hu.of_same rfl rfl) (fun u v _ hu hv => ?_) j l receives h
    · exact hu.of_eq rfl rfl rfl rfl rfl
    · rcases hv.crane_cases with ⟨hc, hs⟩ | hv
      · exact hu.of_same hc hs
      · exact safetyAgrees_craneRequest hu hv
  | timers => exact h.of_same rfl rfl
  | expiry k n =>
    have ht : SafetyAgrees { tickLinkTimers s with freeCount := n } := h.of_same rfl rfl
    rcases expireLink_cases k { tickLinkTimers s with freeCount := n } _ rfl with ⟨_, he⟩ | ⟨_, he⟩
    · rw [he]; exact ht.of_same rfl rfl
    · rw [he]; exact safetyAgrees_rise _ (ht.of_eq rfl rfl rfl rfl rfl)
  | event _ _ event => exact safetyAgrees_event hq h event
  | held => exact h.of_eq rfl rfl rfl rfl rfl
  | backup => exact h.of_same rfl rfl
  | reset => exact safetyAgrees_reset _ _ _

/-- Settles O8: every command keeps latches, first cause and RETREAT in agreement. -/
theorem stepsKeepLatchesAndRetreat : Obligations.StepsKeepLatchesAndRetreat := by
  intro s t hq hl hr ht
  obtain rfl | ⟨i, q, he⟩ := step_cases ht
  · exact ⟨hl, hr⟩
  · have h : SafetyAgrees { s with pending := q } := ⟨⟨hl.1, hl.2⟩, ⟨hr.1, hr.2⟩⟩
    obtain ⟨h1, h2⟩ := safetyAgrees_effect (s := { s with pending := q }) hq h (exec_effect he)
    exact ⟨h1, h2⟩

end Safety

end Sys2Proof.Machine

/-! The edges of the crane state and their STATE notice (section 2.1, R31, R92); what a trip takes away (R93). -/

namespace Sys2Proof.Machine

variable {s t u : State}

/-! ## The frame of a rise's parts -/

theorem restFor_sources (d : CauseDetail) (s : State) :
    (restFor d s).notices.state = s.notices.state ∧ (restFor d s).notices.mask = s.notices.mask := by
  unfold restFor
  split
  · rw [restLens_eq]; exact ⟨by simp [interruptMoves_sources], by simp [interruptMoves_sources]⟩
  · exact ⟨rfl, rfl⟩

/-! ## STATE as it stands -/

/-- R31, R92, R187: STATE is pending with crane state and first cause as they stand, and ATTN follows while it is enabled. -/
structure StateTold (s : State) : Prop where
  detail : ∃ x, s.notices.state.detail = some ⟨s.crane.state, s.stops.first, x⟩
  attn : s.notices.mask.getLsbD 0 = true → s.notices.attn = true

theorem attnWanted_of_state {n : NoticeUnit} (h : n.state.detail.isSome) (hm : n.mask.getLsbD 0 = true) :
    attnWanted n = true := by
  rw [attnWanted, bne_iff_ne]
  intro h0
  have hb := congrArg (fun b : Byte => b.getLsbD 0) h0
  have hp : (pendingSources n).getLsbD 0 = true := by
    unfold pendingSources
    simp only [BitVec.getLsbD_or, h]
    simp
  simp only [BitVec.getLsbD_and, hp, hm] at hb
  simp at hb

/-- A raise of a source leaves STATE told: the other sources and the mask are as they were. -/
theorem StateTold.setNotices {n : NoticeUnit} (h : StateTold s) (hs : n.state = s.notices.state) :
    StateTold (setNotices s n) := by
  obtain ⟨x, hx⟩ := h.detail
  refine ⟨⟨x, ?_⟩, attnWanted_of_state ?_⟩
  · rw [setNotices_notices, withAttn_state, hs]; exact hx
  · simp [hs, hx]

theorem StateTold.of_eq (h : StateTold s) (hn : t.notices = s.notices) (hc : t.crane.state = s.crane.state)
    (hs : t.stops.first = s.stops.first) : StateTold t := by
  obtain ⟨h1, h2⟩ := h
  constructor <;> rw [hn]
  · rw [hc, hs]; exact h1
  · exact h2

theorem stateTold_raiseState (x : StateExtra) : StateTold (raiseState ⟨s.crane.state, s.stops.first, x⟩ s) := by
  refine ⟨⟨x, by simp [raiseState_notices]⟩, ?_⟩
  rw [raiseState_notices]
  exact attnWanted_of_state rfl

theorem stateTold_enterCrane (st : CraneState) (x : StateExtra) (s : State) : StateTold (enterCrane st x s) := by
  refine ⟨⟨x, ?_⟩, ?_⟩
  · simp [enterCrane_notices, enterCrane_crane, enterCrane_stops]
  · rw [enterCrane_notices]
    exact attnWanted_of_state rfl

theorem StateTold.interruptMoves (hit : Chan → Bool) (h : StateTold s) : StateTold (interruptMoves hit s) :=
  foldl_keeps _ (h.of_eq rfl rfl rfl) fun _ hu _ _ => hu.setNotices rfl

theorem StateTold.raiseZone (d : ZoneDetail) (h : StateTold s) : StateTold (raiseZone d s) := by
  unfold Machine.raiseZone
  exact StateTold.setNotices (h.of_eq (t := startNoticeTimer s) (by simp) (by simp) (by simp)) rfl

theorem StateTold.restFor (d : CauseDetail) (h : StateTold s) : StateTold (restFor d s) := by
  unfold Machine.restFor
  split
  · exact StateTold.interruptMoves _ (h.of_eq rfl rfl rfl)
  · exact h

theorem StateTold.stopLiveHead (h : StateTold s) : StateTold (stopLiveHead s) :=
  StateTold.interruptMoves _ (h.of_eq rfl rfl rfl)

theorem StateTold.noticed (h : StateTold u) (ht : Noticed u t) : StateTold t := by
  obtain rfl | rfl := ht
  · exact h
  · exact stateTold_raiseState _

/-- From `s` to `u` the crane state is the same, or STATE tells it. -/
def Told (s u : State) : Prop := u.crane.state = s.crane.state ∨ StateTold u

/-- A rise that sets no latch for the first time leaves the latches and the first cause. -/
theorem latchCause_of_some {d : CauseDetail} (h : getCause s.stops.latches (causeOf d) ≠ none) : latchCause d s = s := by
  unfold latchCause
  rw [if_pos (Option.isSome_iff_ne_none.2 h)]

theorem told_rise (d : CauseDetail) (h : Told s u) : Told s (rise d u) := by
  have same : ∀ v t : State, v.crane.state = u.crane.state → (StateTold (latchCause d u) → StateTold v) →
      Noticed v t → (getCause u.stops.latches (causeOf d) = none →
        t = raiseState ⟨u.crane.state, (latchCause d u).stops.first, .none⟩ v) → v.stops = (latchCause d u).stops →
      Told s t := by
    intro v t hv hk told new hf
    by_cases hn : getCause u.stops.latches (causeOf d) = none
    · rw [new hn, ← hv, ← hf]; exact .inr (stateTold_raiseState _)
    · rcases h with h | h
      · exact .inl (by rw [told.crane, hv, h])
      · exact .inr ((hk (by rw [latchCause_of_some hn]; exact h)).noticed told)
  have hr := rise_risen d u
  revert hr
  generalize rise d u = t
  intro hr
  cases hr with
  | ignored => exact h
  | trips => exact .inr (stateTold_enterCrane _ _ _)
  | stops => exact .inr (stateTold_enterCrane _ _ _)
  | parks => exact .inr (stateTold_enterCrane _ _ _)
  | stays _ _ t told new =>
    exact same _ t (by simp) (fun hk => (hk.restFor d).stopLiveHead) told new (by simp)
  | latched _ t told new => exact same _ t (by simp) (fun hk => hk.restFor d) told new (by simp)

theorem told_sample (s : State) : SampleKeeps (Told s) where
  input _ h := h.imp id fun h => h.setNotices rfl
  stops _ _ h hr _ := h.imp id fun h => h.of_eq rfl rfl hr.first
  channels u h := by rw [clearInhibits_frame]; exact h.imp id fun h => h.of_eq rfl rfl rfl
  rises d _ h _ := told_rise d h

theorem told_event (he : Event s t) : Told s t := by
  have refl : ∀ {u}, u.crane.state = s.crane.state → Told s u := .inl
  obtain ⟨hc, -⟩ | he := he.crane_cases
  · exact .inl (by rw [hc])
  cases he with
  | channelUpdate =>
    rw [channelUpdate_eq]
    rcases checkStandstill_cases (updated s) with he | ⟨_, _, he⟩
    · rw [he]; exact .inl (by rw [(updated_body s).crane])
    · rw [he]; exact .inr (stateTold_enterCrane _ _ _)
  | driveExchange r => exact driveExchange_keeps r (refl rfl) fun c k _ hu => told_rise _ hu
  | slotEvent =>
    have hs := slotEvent_step s
    revert hs
    generalize slotEvent s = t
    intro hs
    cases hs with
    | none => exact refl rfl
    | tick => exact refl rfl
    | nextUp => exact refl rfl
    | nextDown n k => exact refl (congrArg CraneRecord.state (parkedOff_body n s).crane :)
    | armFail => exact .inr (stateTold_enterCrane _ _ _)
    | ready => exact .inr (stateTold_enterCrane _ _ _)
    | parked => exact .inr (stateTold_enterCrane _ _ _)
  | zoneEvaluation =>
    exact zoneEvaluation_keeps (refl rfl) (fun n => told_rise _ (refl rfl)) fun d u hu =>
      hu.imp (by simp) fun h => h.raiseZone d
  | inputSample x => exact (told_sample s).inputSample x (refl rfl)
  | frameEdge =>
    exact refl (by simp)

theorem told_craneRequest (h : CraneRequest s t) : Told s t := by
  cases h with
  | stop o => exact told_rise _ (.inl rfl)
  | ackParked parked => exact .inl (by rw [setInhibits_frame]; simp [clearLatches])
  | inputs => exact .inl rfl
  | arm => exact .inr (stateTold_enterCrane _ _ _)
  | park => exact .inr (stateTold_enterCrane _ _ _)
  | ackHalted => exact .inr (stateTold_enterCrane _ _ _)
  | ackTripped => exact .inr (stateTold_enterCrane _ _ _)

theorem stateTold_reset (warm : Bool) (cause : ResetCause) (straps : Straps) :
    StateTold (performReset warm cause straps s) := by
  unfold performReset
  split
  · exact ⟨⟨_, rfl⟩, fun _ => rfl⟩
  · exact ⟨⟨_, rfl⟩, fun _ => rfl⟩

/-- R31, R92, R187: a change of crane state is told. -/
theorem told_effect {i : Instr} (he : Effect i s t) : Told s t := by
  cases he with
  | nothing => exact .inl rfl
  | receiver => exact .inl rfl
  | request j l =>
    have h : Told s (takeRequest j (serveSupervision s)).1 := by
      rcases (takeRequest_taken j (serveSupervision s)).crane_cases with ⟨hc, -⟩ | h
      · exact .inl (by rw [hc]; rfl)
      · exact told_craneRequest (s := serveSupervision s) h
    exact h.imp id fun h => h.of_eq rfl rfl rfl
  | timers => exact .inl rfl
  | expiry k n =>
    rcases expireLink_cases k { tickLinkTimers s with freeCount := n } _ rfl with ⟨_, he⟩ | ⟨_, he⟩
    · rw [he]; exact .inl rfl
    · rw [he]; exact told_rise _ (.inl rfl)
  | event _ _ event => exact told_event event
  | held => exact .inl rfl
  | backup => exact .inl rfl
  | reset => exact .inr (stateTold_reset _ _ _)

/-! ## The edges -/

/-- What rises can make of a crane state. -/
def RisenState (a b : CraneState) : Prop :=
  b = a ∨ b = .tripped ∨ (a = .ready ∧ b = .stopping) ∨ (a = .arming ∧ b = .parking)

theorem risenState_rise (d : CauseDetail) {a : CraneState} (h : RisenState a u.crane.state) :
    RisenState a (rise d u).crane.state := by
  have hr := rise_risen d u
  revert hr
  generalize rise d u = t
  intro hr
  cases hr with
  | ignored => exact h
  | trips => exact .inr (.inl (entryA_state _))
  | stops b ready =>
    rw [entryBReady_state]
    rw [ready] at h
    rcases h with h | h | ⟨_, h⟩ | ⟨_, h⟩
    · exact .inr (.inr (.inl ⟨h.symm, rfl⟩))
    all_goals cases h
  | parks b arming =>
    rw [entryBArming_state]
    rw [arming] at h
    rcases h with h | h | ⟨_, h⟩ | ⟨_, h⟩
    · exact .inr (.inr (.inr ⟨h.symm, rfl⟩))
    all_goals cases h
  | stays _ _ t told => rw [told.crane]; simpa using h
  | latched _ t told => rw [told.crane]; simpa using h

/-- The crane state changes along an edge, and TRIPPED is left with every latch clear. -/
structure AlongEdge (s t : State) : Prop where
  edge : craneEdge s.crane.state t.crane.state = true
  left : s.crane.state = .tripped → t.crane.state ≠ .tripped → ∀ k, getCause t.stops.latches k = none

theorem AlongEdge.of_risenState (h : RisenState s.crane.state t.crane.state) : AlongEdge s t := by
  constructor
  · rcases h with h | h | ⟨ha, hb⟩ | ⟨ha, hb⟩
    · rw [h]; cases s.crane.state <;> rfl
    · rw [h]; cases s.crane.state <;> rfl
    · rw [ha, hb]; rfl
    · rw [ha, hb]; rfl
  · intro ht hn
    rw [ht] at h
    rcases h with h | h | ⟨h, _⟩ | ⟨h, _⟩
    · exact absurd h hn
    · exact absurd h hn
    all_goals cases h

theorem AlongEdge.of_same (h : t.crane.state = s.crane.state) : AlongEdge s t := .of_risenState (.inl h)

/-- An edge between two states, the first not TRIPPED. -/
theorem AlongEdge.of_edge {a b : CraneState} (hs : s.crane.state = a) (ht : t.crane.state = b) (he : craneEdge a b = true)
    (ha : a ≠ .tripped) : AlongEdge s t :=
  ⟨by rw [hs, ht]; exact he, fun h => absurd (hs ▸ h) ha⟩

theorem SequenceAgrees.arming_of_up (hq : SequenceAgrees s) (h : s.crane.sequence = .up) : s.crane.state = .arming := by
  unfold SequenceAgrees at hq
  split at hq <;> simp_all

theorem SequenceAgrees.parking_of_down (hq : SequenceAgrees s) (h : s.crane.sequence = .down) :
    s.crane.state = .parking := by
  unfold SequenceAgrees at hq
  split at hq <;> simp_all

theorem risenState_sample (a : CraneState) : SampleKeeps fun u => RisenState a u.crane.state where
  input _ h := h
  stops _ _ h _ _ := h
  channels u h := by rw [clearInhibits_frame]; exact h
  rises d _ h _ := risenState_rise d h

theorem alongEdge_slot (hq : SequenceAgrees s) (h : SlotStep s t) : AlongEdge s t := by
  cases h with
  | none => exact .of_same rfl
  | tick => exact .of_same rfl
  | nextUp => exact .of_same rfl
  | nextDown n k => exact .of_same (congrArg CraneRecord.state (parkedOff_body n s).crane :)
  | armFail _ _ up => exact .of_edge (hq.arming_of_up up) (enterCrane_state ..) rfl (by simp)
  | ready _ _ up => exact .of_edge (hq.arming_of_up up) (enterCrane_state ..) rfl (by simp)
  | parked _ _ down => exact .of_edge (hq.parking_of_down down) (enterCrane_state ..) rfl (by simp)

theorem alongEdge_event (hq : SequenceAgrees s) (he : Event s t) : AlongEdge s t := by
  obtain ⟨hc, -⟩ | he := he.crane_cases
  · exact .of_same (by rw [hc])
  cases he with
  | channelUpdate =>
    rw [channelUpdate_eq]
    have hu : (updated s).crane.state = s.crane.state := by rw [(updated_body s).crane]
    rcases checkStandstill_cases (updated s) with he | ⟨h, _, he⟩
    · rw [he]; exact .of_same hu
    · rw [he]; exact .of_edge (hu.symm.trans h) (enterCrane_state ..) rfl (by simp)
  | driveExchange r =>
    exact .of_risenState (driveExchange_keeps (P := fun u => RisenState s.crane.state u.crane.state) r (.inl rfl)
      fun c k _ hu => risenState_rise _ hu)
  | slotEvent => exact alongEdge_slot hq (slotEvent_step s)
  | zoneEvaluation =>
    exact .of_risenState (zoneEvaluation_keeps (P := fun u => RisenState s.crane.state u.crane.state) (.inl rfl)
      (fun n => risenState_rise _ (.inl rfl)) fun d u hu => by simpa using hu)
  | inputSample x => exact .of_risenState ((risenState_sample _).inputSample x (.inl rfl))
  | frameEdge =>
    exact .of_same (by simp)

theorem alongEdge_craneRequest (h : CraneRequest s t) : AlongEdge s t := by
  cases h with
  | stop o => exact .of_risenState (risenState_rise _ (.inl rfl))
  | ackParked parked => exact .of_same (by rw [setInhibits_frame]; simp [clearLatches])
  | inputs => exact .of_same rfl
  | arm h => exact .of_edge h (enterCrane_state ..) rfl (by simp)
  | park h => exact .of_edge h (enterCrane_state ..) rfl (by simp)
  | ackHalted h => exact .of_edge h (enterCrane_state ..) rfl (by simp)
  | ackTripped h =>
    refine ⟨by rw [h, enterCrane_state]; rfl, fun _ _ => ?_⟩
    rw [setInhibits_frame]
    simp [enterCrane_stops, clearLatches]

/-- Every command but a reset moves the crane along an edge. -/
theorem alongEdge_effect {i : Instr} (hq : SequenceAgrees s) (he : Effect i s t) : AlongEdge s t ∨
    (t.crane.state = .parked ∧ ((∃ ms x, i = .resetRelease ms x) ∨ ∃ x, i = .powerUp x) ∧
      ∀ k, getCause t.stops.latches k = none) := by
  cases he with
  | nothing => exact .inl (.of_same rfl)
  | receiver => exact .inl (.of_same rfl)
  | request j l =>
    have h : AlongEdge s (takeRequest j (serveSupervision s)).1 := by
      rcases (takeRequest_taken j (serveSupervision s)).crane_cases with ⟨hc, -⟩ | h
      · exact .of_same (by rw [hc]; rfl)
      · obtain ⟨h1, h2⟩ := alongEdge_craneRequest h
        exact ⟨h1, h2⟩
    exact .inl ⟨h.edge, h.left⟩
  | timers => exact .inl (.of_same rfl)
  | expiry k n =>
    rcases expireLink_cases k { tickLinkTimers s with freeCount := n } _ rfl with ⟨_, he⟩ | ⟨_, he⟩
    · rw [he]; exact .inl (.of_same rfl)
    · rw [he]; exact .inl (.of_risenState (risenState_rise _ (.inl rfl)))
  | event _ _ event => exact .inl (alongEdge_event hq event)
  | held => exact .inl (.of_same rfl)
  | backup => exact .inl (.of_same rfl)
  | reset warm cause straps p _ command =>
    refine .inr ⟨?_, command, ?_⟩
    all_goals unfold performReset
    · split <;> rfl
    · split <;> exact getCause_noCauses

/-- Settles O12: the crane changes state along the edges alone, and each change is told. -/
theorem craneChangesFollowEdgesAndNotice : Obligations.CraneChangesFollowEdgesAndNotice := by
  refine ⟨fun i s t hq he => ?_, fun i s t he hn => ?_⟩
  · rcases alongEdge_effect hq (exec_effect he) with ⟨h1, h2⟩ | ⟨h1, h2, h3⟩
    · exact ⟨.inl h1, h2⟩
    · exact ⟨.inr ⟨h1, h2⟩, fun _ _ => h3⟩
  · obtain ⟨h1, h2⟩ := (told_effect (exec_effect he)).resolve_left hn
    exact ⟨h1, h2⟩

/-! ## The trip -/

/-- R3, R14, R93: what a tripped crane has lost. -/
structure Dropped (s : State) : Prop where
  channels : ∀ c, (s.chan c).commanded = false ∧ (s.chan c).drive = .off ∧ (s.chan c).owner = .none ∧
    (s.chan c).mode = .hold ∧ (s.chan c).velocity = 0 ∧ (s.chan c).demand = none ∧ (s.chan c).target = none
  brakes : ∀ b, s.crane.brakes.get b = true
  moves : ∀ m ∈ s.moves, ∀ c, m.remaining.get c = false
  take : s.engine.take = none
  tracking : s.lens.tracking.state = .off
  pointer : s.crane.slotPointer = none
  timer : s.crane.slotTimer = 0
  sequence : s.crane.sequence = .none
  deadline : s.stops.deadlineTimer = none
  notice : s.notices.state.detail = some ⟨.tripped, s.stops.first, .none⟩
  stopDecel : ∀ c, (s.chan c).stopDecel = false

/-- Channels that differ in their inhibits alone. -/
def SameButInhibits (s t : State) : Prop :=
  ∀ c, ∃ p m, t.chan c = { s.chan c with inhibitPlus := p, inhibitMinus := m }

theorem sameButInhibits_of_channels (h : t.channels = s.channels) : SameButInhibits s t := fun c =>
  ⟨(s.chan c).inhibitPlus, (s.chan c).inhibitMinus, by rw [chan_eq_of_channels h]⟩

/-- Everything that `Dropped` speaks of is the same. -/
theorem Dropped.of_eq (h : Dropped s)
    (channels : SameButInhibits s t) (crane : t.crane = s.crane)
    (moves : t.moves = s.moves) (engine : t.engine = s.engine) (lens : t.lens = s.lens)
    (deadline : t.stops.deadlineTimer = s.stops.deadlineTimer)
    (notice : t.notices.state.detail = some ⟨.tripped, t.stops.first, .none⟩) : Dropped t := by
  obtain ⟨h1, h2, h3, h4, h5, h6, h7, h8, h9, h10, h11⟩ := h
  refine ⟨fun c => ?_, ?_, ?_, ?_, ?_, ?_, ?_, ?_, ?_, notice, fun c => ?_⟩
  · obtain ⟨p, m, hc⟩ := channels c
    rw [hc]
    exact h1 c
  rotate_right
  · obtain ⟨p, m, hc⟩ := channels c
    rw [hc]
    exact h11 c
  all_goals simp only [crane, moves, engine, lens, deadline]; assumption

theorem dropped_entryA (s : State) : Dropped (entryA s) := by
  refine ⟨fun c => ?_, ?_, ?_, ?_, ?_, ?_, ?_, ?_, ?_, ?_, fun c => by rw [chan_entryA]; rfl⟩
  · rw [chan_entryA]; exact ⟨rfl, rfl, rfl, rfl, rfl, rfl, rfl⟩
  · intro b
    simp [entryA, enterCrane_crane, clearSequence, allBrakes]
  · intro m hm c
    have hm : m ∈ movesLeft (fun _ => true) s.moves := by simpa [entryA, clearSequence] using hm
    cases hc : m.remaining.get c
    · rfl
    · cases (mem_movesLeft.1 hm).2 c hc
  · simp [entryA, clearSequence, endTake_take]
  · simp [entryA, clearSequence, trackingOff_state]
  · simp [entryA, enterCrane_crane, clearSequence]
  · simp [entryA, enterCrane_crane, clearSequence]
  · simp [entryA, enterCrane_crane, clearSequence]
  · simp [entryA, enterCrane_stops, clearSequence]
  · simp [entryA, enterCrane_notices, enterCrane_stops, clearSequence]

/-- On the way from `s`: a crane that trips has lost its power, and one that leaves READY has lost RETREAT (R43). -/
structure Falls (s u : State) : Prop where
  tripped : u.crane.state = .tripped → Dropped u
  ready : s.crane.state = .ready → u.crane.state = .ready ∨ (u.stops.retreatSet = [] ∧ u.crane.retreat = false)

theorem Falls.refl (h : s.crane.state ≠ .tripped) : Falls s s := ⟨fun ht => absurd ht h, .inl⟩

theorem Falls.of_eq (h : Falls s u) (channels : SameButInhibits u t)
    (crane : t.crane = u.crane) (moves : t.moves = u.moves) (engine : t.engine = u.engine) (lens : t.lens = u.lens)
    (deadline : t.crane.state = .tripped → t.stops.deadlineTimer = u.stops.deadlineTimer)
    (set : t.stops.retreatSet = u.stops.retreatSet)
    (notice : t.crane.state = .tripped → u.notices.state.detail = some ⟨.tripped, u.stops.first, .none⟩ →
      t.notices.state.detail = some ⟨.tripped, t.stops.first, .none⟩) : Falls s t := by
  refine ⟨fun ht => ?_, fun hr => ?_⟩
  · have hd := h.tripped (crane ▸ ht)
    exact hd.of_eq channels crane moves engine lens (deadline ht) (notice ht hd.notice)
  · rw [crane, set]; exact h.ready hr

theorem falls_rise (d : CauseDetail) (h : Falls s u) (hd : causeOf d ≠ .link ∨ u.crane.state ≠ .tripped) :
    Falls s (rise d u) := by
  have left : ∀ (st : CraneState) (v : State), (st ≠ .ready) → v.crane.state = u.crane.state →
      v.crane.retreat = u.crane.retreat → v.stops.retreatSet = u.stops.retreatSet → s.crane.state = .ready →
      (enterCrane st .none v).stops.retreatSet = [] ∧ (enterCrane st .none v).crane.retreat = false := by
    intro st v hst hv hr hset hs
    have := h.ready hs
    rw [enterCrane_stops, enterCrane_crane, hv, hr, hset]
    by_cases hu : u.crane.state = .ready
    · simp [hu, hst]
    · simpa [hu] using this
  have hr := rise_risen d u
  revert hr
  generalize rise d u = t
  intro hr
  cases hr with
  | ignored => exact h
  | trips => exact ⟨fun _ => dropped_entryA _, fun hs => .inr (left _ _ (by simp) (by simp [clearSequence])
      (by simp [clearSequence]) (by simp [clearSequence]) hs)⟩
  | stops => exact ⟨fun ht => absurd (ht.symm.trans (entryBReady_state _)) (by simp),
      fun hs => .inr (left _ _ (by simp) (by simp) (by simp) (by simp) hs)⟩
  | parks => exact ⟨fun ht => absurd (ht.symm.trans (entryBArming_state _)) (by simp),
      fun hs => .inr (left _ _ (by simp) (by simp [startParkingSlot]) (by simp [startParkingSlot]) (by simp) hs)⟩
  | stays _ state t told =>
    have hc : t.crane = u.crane := by rw [told.crane]; simp
    refine ⟨fun ht => ?_, fun hs => ?_⟩
    · rw [hc] at ht; rw [ht] at state; simp at state
    · rw [hc, told.stops]; simpa using h.ready hs
  | latched state t told new =>
    have hc : t.crane = u.crane := by rw [told.crane]; simp
    refine ⟨fun ht => ?_, fun hs => ?_⟩
    · have hu : u.crane.state = .tripped := by rwa [hc] at ht
      have hrest : restFor d (latchCause d u) = latchCause d u := by
        unfold restFor
        rw [if_neg (hd.resolve_right (not_not_intro hu))]
      rw [hrest] at told new
      have hdu := h.tripped hu
      by_cases hn : getCause u.stops.latches (causeOf d) = none
      · rw [new hn]
        refine hdu.of_eq (sameButInhibits_of_channels (by simp)) (by simp) (by simp) (by simp) (by simp) ?_ ?_
        · simp only [raiseState_stops]; unfold latchCause; split <;> rfl
        · simp [raiseState_notices, hu]
      · rw [latchCause_of_some hn] at told
        obtain rfl | rfl := told
        · exact hdu
        · exact hdu.of_eq (sameButInhibits_of_channels (by simp)) (by simp) (by simp) (by simp) (by simp) (by simp)
            (by simp [raiseState_notices, hu])
    · rw [hc, told.stops]; simpa using h.ready hs

theorem falls_sample (s : State) : SampleKeeps (Falls s) where
  input _ h := h.of_eq (sameButInhibits_of_channels rfl) rfl rfl rfl rfl (fun _ => rfl) rfl fun _ h => h
  stops u r h hr hd := h.of_eq (sameButInhibits_of_channels rfl) rfl rfl rfl rfl
    (fun ht => hd (by rw [show u.crane.state = .tripped from ht]; simp)) hr.retreatSet
    fun _ hn => by rw [hr.first]; exact hn
  channels u h := by
    refine h.of_eq (chan_clearInhibits u) ?_ ?_ ?_ ?_ (fun _ => ?_) ?_ (fun _ hn => ?_)
    all_goals rw [clearInhibits_frame]
    exact hn
  rises d _ h hd := falls_rise d h (.inl (by rcases hd with hd | hd <;> intro hl <;> simp [hl, categoryA] at hd))

theorem falls_event (he : Event s t) (hs : s.crane.state ≠ .tripped) : Falls s t ∨ t.crane.state ≠ .tripped := by
  obtain ⟨hc, -⟩ | he := he.crane_cases
  · exact .inr (by rwa [hc])
  cases he with
  | channelUpdate =>
    refine .inr ?_
    rw [channelUpdate_eq]
    rcases checkStandstill_cases (updated s) with he | ⟨_, _, he⟩
    · rwa [he, (updated_body s).crane]
    · rw [he, enterCrane_state]; simp
  | driveExchange r =>
    exact .inl (driveExchange_keeps r ⟨fun h => absurd h hs, .inl⟩ fun c k _ hu => falls_rise _ hu (.inl (by simp [causeOf])))
  | slotEvent =>
    refine .inr ?_
    have h := slotEvent_step s
    revert h
    generalize slotEvent s = t
    intro h
    cases h with
    | none => exact hs
    | tick => exact hs
    | nextUp => exact hs
    | nextDown n k => exact (congrArg CraneRecord.state (parkedOff_body n s).crane :).trans_ne hs
    | armFail => simp
    | ready => simp
    | parked => simp
  | zoneEvaluation =>
    have he : Falls s (evaluated s) := ⟨fun h => absurd h hs, .inl⟩
    refine .inl (zoneEvaluation_keeps he (fun n => falls_rise _ he (.inl (by simp [causeOf]))) fun d u hu => ?_)
    refine hu.of_eq (sameButInhibits_of_channels (by simp)) (by simp) (by simp) (by simp) (by simp) (by simp) (by simp) ?_
    intro _ hn
    rw [raiseZone_stops]
    simpa [raiseZone] using hn
  | inputSample x => exact .inl ((falls_sample s).inputSample x (.refl hs))
  | frameEdge => exact .inr (by simpa using hs)

theorem falls_craneRequest (h : CraneRequest s t) (hs : s.crane.state ≠ .tripped) : Falls s t ∨ t.crane.state ≠ .tripped := by
  cases h with
  | stop o => exact .inl (falls_rise _ (.refl hs) (.inr hs))
  | ackParked => exact .inr (by rw [setInhibits_frame]; simpa [clearLatches] using hs)
  | inputs => exact .inr hs
  | arm => exact .inr (by simp)
  | park => exact .inr (by simp)
  | ackHalted => exact .inr (by simp)
  | ackTripped => exact .inr (by simp)

/-- R93: whatever trips the crane takes everything away. -/
theorem falls_effect {i : Instr} (he : Effect i s t) (hs : s.crane.state ≠ .tripped) :
    Falls s t ∨ t.crane.state ≠ .tripped := by
  cases he with
  | nothing => exact .inr hs
  | receiver => exact .inr hs
  | request j l =>
    have h : Falls s (takeRequest j (serveSupervision s)).1 ∨
        (takeRequest j (serveSupervision s)).1.crane.state ≠ .tripped := by
      rcases (takeRequest_taken j (serveSupervision s)).crane_cases with ⟨hc, -⟩ | h
      · exact .inr (by rw [hc]; exact hs)
      · exact (falls_craneRequest h hs).imp (fun h => ⟨h.tripped, h.ready⟩) id
    exact h.imp (fun h => h.of_eq (sameButInhibits_of_channels rfl) rfl rfl rfl rfl (fun _ => rfl) rfl fun _ hn => hn) id
  | timers => exact .inr hs
  | expiry k n =>
    rcases expireLink_cases k { tickLinkTimers s with freeCount := n } _ rfl with ⟨_, he⟩ | ⟨_, he⟩
    · rw [he]; exact .inr hs
    · rw [he]; exact .inl (falls_rise _ ⟨fun h => absurd h hs, .inl⟩ (.inr hs))
  | event _ _ event => exact falls_event event hs
  | held => exact .inr hs
  | backup => exact .inr hs
  | reset => exact .inr (by unfold performReset; split <;> exact CraneState.noConfusion)

/-- Settles O11: what trips the crane takes power, owners, take and tracking away. -/
theorem trippingTakesThePowerAway : Obligations.TrippingTakesThePowerAway := by
  intro i s t he hs ht
  have h := (falls_effect (exec_effect he) hs).resolve_right (not_not_intro ht)
  have hd := h.tripped ht
  refine ⟨hd.channels, hd.brakes, hd.moves, hd.take, hd.tracking, hd.pointer, hd.timer, hd.sequence, hd.deadline, ?_,
    hd.notice⟩
  intro hr
  exact (h.ready hr).resolve_left (by rw [ht]; simp)

end Sys2Proof.Machine

/-! The step, the answers of commands, and the state after a reset. -/

namespace Sys2Proof.Machine

/-- Settles O1: by the equations of the step on a queue that is not empty and on an empty one. -/
theorem stepRunsTheFrontCommand : Obligations.StepRunsTheFrontCommand :=
  ⟨fun _ _ => rfl, fun s h => by simp [step, h]⟩

/-! ## What requests and events leave of power and queue -/

variable {s t : State}

/-- Power and queue are the same. -/
structure SamePower (s t : State) : Prop where
  power : t.power = s.power
  pending : t.pending = s.pending

theorem SameBody.samePower (h : SameBody s t) : SamePower s t := ⟨h.power, h.butWheels.pending⟩

theorem samePower_of_settled (h : t.settled = s.settled) : SamePower s t := by
  obtain ⟨-, -, -, -, -, -, h1, -, h2⟩ := settled_eq_iff.1 h
  exact ⟨h1, h2⟩

theorem SamePower.trans {u : State} (h : SamePower s t) (k : SamePower t u) : SamePower s u :=
  ⟨k.power.trans h.power, k.pending.trans h.pending⟩

theorem samePower_rise (d : CauseDetail) (s : State) : SamePower s (rise d s) := samePower_of_settled (rise_settled s d)

theorem Taken.samePower {j : Instr} (h : Taken j s t) : SamePower s t := by
  have body : ∀ {u}, SameBody s u → SamePower s u := SameBody.samePower
  have sett : ∀ {u : State}, u.settled = s.settled → SamePower s u := samePower_of_settled
  cases h
  case notice k => rw [serveNoticeTimer_frame]; exact ⟨rfl, rfl⟩
  case configSet k w _ _ _ _ _ => rw [actOnWrite_frame]; exact ⟨rfl, rfl⟩
  case wheelAssign w c g => rw [releaseWheelChannel_frame]; exact ⟨rfl, rfl⟩
  case arm => exact sett (by simp; rfl)
  case park => exact sett (by simp; rfl)
  case stop o => exact sett (by simp)
  case ackHalted => exact sett (by simp; rfl)
  case ackTripped => rw [setInhibits_frame]; exact sett (by simp; rfl)
  case ackParked => rw [setInhibits_frame]; exact sett (by simp; rfl)
  case jog => exact body (sameBody_grant s _ _ _ _ _)
  case goto => exact body (sameBody_gotoOpened s _ _)
  case release => exact body (.trans (sameBody_mapChannels s _) (sameBody_interruptMoves _ _))
  case takeArm => exact body (sameBody_armTake s _ _)
  case play => exact body (sameBody_startPlay s)
  case abort => exact body (sameBody_endTake s _)
  case mapSetSelected => exact body (.trans (sameBody_lens s _) (sameBody_applyChangedLimits _ _))
  case lensSelect => exact body (sameBody_selectBank s _)
  case trackOn => exact body (sameBody_trackOn s _ _)
  case trackOff => exact body (sameBody_trackOff s)
  all_goals exact ⟨rfl, rfl⟩

theorem SlotStep.samePower (h : SlotStep s t) : SamePower s t := by
  cases h with
  | armFail => exact samePower_of_settled (by simp; rfl)
  | ready => exact samePower_of_settled (by simp)
  | nextDown n k => exact samePower_of_settled ((startParkingSlot_settled _ _).trans (parkedOff_body n s).settled)
  | parked n => exact samePower_of_settled ((enterCrane_settled ..).trans (parkedOff_body n s).settled)
  | none => exact ⟨rfl, rfl⟩
  | tick => exact ⟨rfl, rfl⟩
  | nextUp => exact ⟨rfl, rfl⟩

theorem settled_sample (s : State) : SampleKeeps fun u => u.settled = s.settled where
  input _ h := h
  stops _ _ h _ _ := h
  channels u h := by rw [clearInhibits_frame]; exact h
  rises d u h _ := (rise_settled u d).trans h

theorem Event.samePower (h : Event s t) : SamePower s t := by
  cases h with
  | channelUpdate =>
    have hb := updated_body s
    have hu : SamePower s (updated s) := ⟨hb.power, hb.pending⟩
    rw [channelUpdate_eq]
    rcases checkStandstill_cases (updated s) with he | ⟨_, _, he⟩
    · rw [he]; exact hu
    · rw [he]; exact hu.trans (samePower_of_settled (by simp; rfl))
  | driveExchange r =>
    exact driveExchange_keeps (P := SamePower s) r ⟨rfl, rfl⟩ fun c k _ hu => hu.trans (samePower_rise _ _)
  | slotEvent => exact (slotEvent_step s).samePower
  | zoneEvaluation =>
    have he : SamePower s (evaluated s) := ⟨rfl, rfl⟩
    exact zoneEvaluation_keeps (P := SamePower s) he (fun n => he.trans (samePower_rise (.zone n) (evaluated s)))
      fun d _ hu => hu.trans (samePower_of_settled (by simp))
  | inputSample x => exact samePower_of_settled ((settled_sample s).inputSample x rfl)
  | frameEdge =>
    obtain ⟨f, n, hf⟩ := renewFrame_frame s
    have hr : SamePower s (renewFrame s) := by rw [hf]; exact ⟨rfl, rfl⟩
    rcases frameEdge_cases s with he | ⟨_, he⟩
    · rw [he]; exact hr
    · rw [he]; exact hr.trans (sameBody_startPlay _).samePower
  | presenceSample v => rw [presenceSample_frame]; exact ⟨rfl, rfl⟩
  | engineMillisecond => exact (sameBody_engineMillisecond s).samePower
  | lensUpdate => exact (sameBody_lensUpdate s).samePower
  | wheelEdge => exact ⟨rfl, rfl⟩
  | geometryUpdate => exact ⟨rfl, rfl⟩

/-- No command touches the commands that wait. -/
theorem effect_pending {i : Instr} (h : Effect i s t) : t.pending = s.pending := by
  cases h with
  | request j l => exact (takeRequest_taken j (serveSupervision s)).samePower.pending
  | expiry k n =>
    rcases expireLink_cases k { tickLinkTimers s with freeCount := n } _ rfl with ⟨_, he⟩ | ⟨_, he⟩
    · rw [he]; rfl
    · rw [he]; exact (samePower_rise _ _).pending
  | event _ _ event => exact event.samePower.pending
  | reset => unfold performReset; split <;> rfl
  | nothing => rfl
  | receiver => rfl
  | timers => rfl
  | held => rfl
  | backup => rfl

/-- Every command answers a next state. -/
theorem exec_next (i : Instr) (s : State) : ∃ t, exec i s = .next t := by cases i <;> exact ⟨_, rfl⟩

/-- R46: a part that does not run sees the commands of power and RESET alone. -/
theorem effect_of_not_running {i : Instr} (h : Effect i s t) (hs : s.running = false) (hi : resetCommand i = false) :
    t = s := by
  cases h with
  | nothing => rfl
  | request j l receives => exact absurd (running_of_canReceive s receives) (by simp [hs])
  | held p off command =>
    rcases command with ⟨_, h⟩ | rfl
    · exact absurd h (by simp [hs])
    · cases hi
  | backup p main reset command => subst command; cases hi
  | reset warm cause straps p off command =>
    rcases command with ⟨_, _, rfl⟩ | ⟨_, rfl⟩ <;> cases hi
  | receiver l running => exact absurd running (by simp [hs])
  | timers running => exact absurd running (by simp [hs])
  | expiry k n running => exact absurd running (by simp [hs])
  | event _ running => exact absurd running (by simp [hs])

/-- Settles O2: by what a command can do. -/
theorem commandsAnswerNextStates : Obligations.CommandsAnswerNextStates := by
  refine ⟨fun i s => ?_, fun i s hs hi => ?_⟩
  · obtain ⟨t, ht⟩ := exec_next i s
    exact ⟨t, ht, effect_pending (exec_effect ht)⟩
  · obtain ⟨t, ht⟩ := exec_next i s
    rw [ht, effect_of_not_running (exec_effect ht) hs hi]

/-! ## The state after a reset -/

@[simp] theorem chan_reset (c : Chan) : State.reset.chan c = resetChannel := PerChannel.get_ofFn _ c

theorem wheel_reset (i : Fin 4) : State.reset.wheels.get i = resetWheel := PerFour.get_ofFn _ i

theorem bank_reset (b : Fin 4) : State.reset.lens.banks.get b = none := PerFour.get_ofFn _ b

theorem recordsAgree_reset : RecordsAgree .reset := by
  constructor <;> simp [State.reset, State.coldReset, Ascending, cuesStored]

theorem tablesAgree_reset : TablesAgree .reset := by
  constructor <;> simp [State.reset, State.coldReset, Ascending]

theorem sequenceAgrees_reset : SequenceAgrees .reset := ⟨rfl, rfl⟩

theorem craneAgrees_reset : CraneAgrees .reset := by
  refine ⟨⟨fun c => by cases c <;> decide, fun c => by cases c <;> decide⟩, ?_, ?_, ?_, ?_, ?_, ?_, ?_, ?_, ?_⟩
  case refine_8 => exact fun h => absurd h (by decide)
  case refine_9 => exact fun c _ => ⟨by rw [chan_reset]; rfl, by cases c <;> rfl⟩
  case refine_7 => exact fun c _ h => absurd h (by rw [chan_reset]; decide)
  all_goals intro c; rw [chan_reset]; decide

theorem modesAgree_reset : ModesAgree .reset := by
  constructor
  all_goals intro c; rw [chan_reset]; decide

theorem movesAgree_reset : MovesAgree .reset := by constructor <;> simp [State.reset, State.coldReset]

theorem limitsOrdered_reset : LimitsOrdered .reset := by
  refine ⟨fun c => by cases c <;> decide, ?_, ?_⟩
  all_goals intro b m p h; rw [bank_reset] at h; cases h

theorem outsideAgrees_reset : OutsideAgrees .reset := by
  constructor
  all_goals intro c; rw [chan_reset]; intro h; cases h

theorem remaindersSmall_reset : RemaindersSmall .reset :=
  ⟨fun c => by rw [chan_reset]; decide, fun i => by rw [wheel_reset]; decide⟩

theorem latchesAgree_reset : LatchesAgree .reset := ⟨⟨fun _ => getCause_noCauses, fun _ => rfl⟩, fun _ => getCause_noCauses⟩

theorem retreatAgrees_reset : RetreatAgrees .reset := ⟨by decide, by decide⟩

theorem playAgrees_reset : PlayAgrees .reset := by
  constructor
  case owners => intro c; rw [chan_reset]; cases c <;> decide
  case paths => intro c; cases c <;> decide
  case spans => intro c; cases c <;> decide
  case someChannel => exact ⟨fun _ c => by cases c <;> rfl, fun _ => rfl⟩
  all_goals simp [State.reset, State.coldReset, resetEngine]

theorem trackAgrees_reset : TrackAgrees .reset := by
  constructor
  case focusOnly => exact fun c h => absurd h (by rw [chan_reset]; decide)
  case owned => rw [chan_reset]; decide
  all_goals simp [State.reset, State.coldReset, resetTracking]

theorem attnAgrees_reset : AttnAgrees .reset := rfl

theorem heldQuiet_reset : HeldQuiet .reset := fun h => by cases h

/-- Settles O3: each invariant at the reset record. -/
theorem resetMeetsTheInvariants : Obligations.ResetMeetsTheInvariants :=
  ⟨recordsAgree_reset, tablesAgree_reset, sequenceAgrees_reset, craneAgrees_reset, modesAgree_reset, movesAgree_reset,
    limitsOrdered_reset, outsideAgrees_reset, remaindersSmall_reset, latchesAgree_reset, retreatAgrees_reset,
    playAgrees_reset, trackAgrees_reset, attnAgrees_reset, heldQuiet_reset⟩

end Sys2Proof.Machine

/-! The channels after each operation, record by record. -/

namespace Sys2Proof.Machine

variable (s : State)

/-! ## Claims granted one after another -/

section Grants

variable {α : Type} (p : Party) (m : Mode) (d t : α → Option Int) (key : α → Chan)

/-- A channel that is not among those granted keeps its record. -/
theorem chan_foldl_grant_other (l : List α) (s : State) {c : Chan} (hc : ∀ x ∈ l, key x ≠ c) :
    (l.foldl (fun s x => grant p m (d x) (t x) (key x) s) s).chan c = s.chan c := by
  induction l generalizing s with
  | nil => rfl
  | cons x l ih =>
    rw [List.foldl_cons, ih _ fun y hy => hc y (List.mem_cons_of_mem _ hy), chan_grant,
      if_neg (hc x List.mem_cons_self).symm]

/-- Each of the channels granted, no two the same, has its granted record. -/
theorem chan_foldl_grant_mem {l : List α} (hl : (l.map key).Nodup) (s : State) {x : α} (hx : x ∈ l) :
    (l.foldl (fun s x => grant p m (d x) (t x) (key x) s) s).chan (key x) =
      grantRecord p m (d x) (t x) (s.chan (key x)) := by
  induction l generalizing s with
  | nil => cases hx
  | cons y l ih =>
    rw [List.map_cons, List.nodup_cons] at hl
    rw [List.foldl_cons]
    rcases List.mem_cons.1 hx with rfl | hx
    · have hother : ∀ z ∈ l, key z ≠ key x := fun z hz he => hl.1 (he ▸ List.mem_map_of_mem hz)
      rw [chan_foldl_grant_other _ _ _ _ _ _ _ hother, chan_grant, if_pos rfl]
    · have hne : key x ≠ key y := fun he => hl.1 (he ▸ List.mem_map_of_mem hx)
      rw [ih hl.2 _ hx, chan_grant, if_neg hne]

end Grants

/-- R26: the record of a channel that GOTO sends to a target. -/
theorem chan_gotoOpened_mem (mask : ChannelMask) {targets : List (Chan × Int)} (hn : (targets.map (·.1)).Nodup)
    {p : Chan × Int} (hp : p ∈ targets) : (gotoOpened mask targets s).chan p.1 =
      grantRecord .console .position none (some (clampInt (s.lo p.1) (s.hi p.1) p.2)) (s.chan p.1) := by
  have h := chan_foldl_grant_mem .console .position (fun _ => none)
    (fun p : Chan × Int => some (clampInt (s.lo p.1) (s.hi p.1) p.2)) (·.1) hn
    (interruptMoves (fun c => (targets.map (·.1)).contains c) s) hp
  rw [chan_interruptMoves] at h
  exact h

theorem chan_gotoOpened_other (mask : ChannelMask) {targets : List (Chan × Int)} {c : Chan}
    (hc : c ∉ targets.map (·.1)) : (gotoOpened mask targets s).chan c = s.chan c := by
  have h := chan_foldl_grant_other .console .position (fun _ => none)
    (fun p : Chan × Int => some (clampInt (s.lo p.1) (s.hi p.1) p.2)) (·.1) targets
    (interruptMoves (fun c => (targets.map (·.1)).contains c) s) (c := c)
    fun p hp he => hc (he ▸ List.mem_map_of_mem hp)
  rw [chan_interruptMoves] at h
  exact h

theorem mem_setChans_iff {p : PerChannel Bool} {c : Chan} : c ∈ setChans p ↔ p.get c = true := by
  simp [setChans, mem_allChans]

theorem setChans_nodup (p : PerChannel Bool) : (setChans p).Nodup := allChans_nodup.filter _

/-- R138: the claims of an accepted TAKE_ARM, channel by channel. -/
theorem chan_grantedTake (set : PerChannel Bool) (c : Chan) : (grantedTake set s).chan c =
    if set.get c = true then grantRecord .take .path none none (s.chan c) else s.chan c := by
  have hn : ((setChans set).map fun x => x).Nodup := by rw [List.map_id']; exact setChans_nodup set
  split
  next h =>
    have hm := chan_foldl_grant_mem .take .path (fun _ => none) (fun _ => none) (fun x : Chan => x) hn
      (interruptMoves (fun c => set.get c && ((s.chan c).owner == .console)) s) (mem_setChans_iff.2 h)
    rw [chan_interruptMoves] at hm
    exact hm
  next h =>
    have hm := chan_foldl_grant_other .take .path (fun _ => none) (fun _ => none) (fun x : Chan => x) (setChans set)
      (interruptMoves (fun c => set.get c && ((s.chan c).owner == .console)) s) (c := c)
      fun x hx he => h (mem_setChans_iff.1 (he ▸ hx))
    rw [chan_interruptMoves] at hm
    exact hm

theorem startCue_eq : ∃ sp, startCue s = { s with engine := { s.engine with spans := sp } } := by
  unfold startCue
  split
  · exact ⟨s.engine.spans, rfl⟩
  · exact ⟨_, rfl⟩

theorem startCue_frame : ∃ e, startCue s = { s with engine := e } := by
  obtain ⟨sp, h⟩ := startCue_eq s
  exact ⟨_, h⟩

theorem chan_startCue (c : Chan) : (startCue s).chan c = s.chan c := by
  obtain ⟨e, h⟩ := startCue_frame s
  rw [h]; rfl

theorem chan_armTake (t : Take) (set : PerChannel Bool) (c : Chan) : (armTake t set s).chan c =
    if set.get c = true then grantRecord .take .path none none (s.chan c) else s.chan c := by
  rw [armTake_eq, chan_raiseTakeRunning]
  show (startCue (lockedTake t set s)).chan c = _
  rw [chan_startCue]
  exact chan_grantedTake s set c

/-! ## The play -/

/-- What the engine changes of its record while a take is active: the take and its set stay, a channel gets a path point only
where it has one or a span, a span only if it stands in the set; the cue index stays among the cues. -/
structure Stepped (s : State) (e : Engine) : Prop where
  take : e.take = s.engine.take
  set : e.set = s.engine.set
  idle : e.state ≠ .idle
  path : ∀ c, (e.path.get c).isSome = true → (s.engine.path.get c).isSome = true ∨ (s.engine.spans.get c).isSome = true
  kept : ∀ c, (s.engine.path.get c).isSome = true → (e.path.get c).isSome = true
  spans : ∀ c, (e.spans.get c).isSome = true → (s.engine.spans.get c).isSome = true ∨ s.engine.set.get c = true
  cueIndex : e.cueIndex = s.engine.cueIndex ∨ e.cueIndex = 1 ∨ (1 ≤ e.cueIndex ∧ e.cueIndex ≤ (activeCues s).length)

theorem Stepped.refl (h : s.engine.state ≠ .idle) : Stepped s s.engine :=
  ⟨rfl, rfl, h, fun _ => .inl, fun _ => id, fun _ => .inl, .inl rfl⟩

/-- State, clock, rate, lag, pause and frame wait bear on nothing that `Stepped` speaks of. -/
theorem Stepped.of_eq {e f : Engine} (h : Stepped s e) (take : f.take = e.take) (set : f.set = e.set)
    (idle : f.state ≠ .idle) (path : f.path = e.path) (spans : f.spans = e.spans) (cueIndex : f.cueIndex = e.cueIndex) :
    Stepped s f := by
  obtain ⟨h1, h2, -, h4, h5, h6, h7⟩ := h
  refine ⟨take.trans h1, set.trans h2, idle, ?_, ?_, ?_, ?_⟩
  · rwa [path]
  · rwa [path]
  · rwa [spans]
  · rwa [cueIndex]

theorem isSome_writePath (q : Cue) (e : Engine) (c : Chan) :
    ((writePath q e).path.get c).isSome = ((e.spans.get c).isSome || (e.path.get c).isSome) := by
  unfold writePath
  cases h : e.spans.get c <;> simp [h]

theorem isSome_writeEnds (e : Engine) (c : Chan) :
    ((writeEnds e).path.get c).isSome = ((e.spans.get c).isSome || (e.path.get c).isSome) := by
  unfold writeEnds
  cases h : e.spans.get c <;> simp [h]

/-- R146: writing a cue gives a path point to the channels that it moves. -/
theorem Stepped.writePath {e : Engine} (h : Stepped s e) (hs : e.spans = s.engine.spans) (q : Cue) :
    Stepped s (writePath q e) := by
  obtain ⟨h1, h2, h3, h4, h5, h6, h7⟩ := h
  refine ⟨h1, h2, h3, fun c hc => ?_, fun c hc => ?_, h6, h7⟩
  · rw [isSome_writePath, Bool.or_eq_true, hs] at hc
    exact hc.elim .inr (h4 c)
  · rw [isSome_writePath, Bool.or_eq_true]
    exact .inr (h5 c hc)

theorem Stepped.writeEnds {e : Engine} (h : Stepped s e) (hs : e.spans = s.engine.spans) : Stepped s (writeEnds e) := by
  obtain ⟨h1, h2, h3, h4, h5, h6, h7⟩ := h
  refine ⟨h1, h2, h3, fun c hc => ?_, fun c hc => ?_, h6, h7⟩
  · rw [isSome_writeEnds, Bool.or_eq_true, hs] at hc
    exact hc.elim .inr (h4 c)
  · rw [isSome_writeEnds, Bool.or_eq_true]
    exact .inr (h5 c hc)

/-- What the steps of the engine keep: its record's changes, the TAKE notice, and the end of a play. -/
structure EngineKeeps (P : State → Prop) : Prop where
  engine : ∀ u e, P u → u.engine.state ≠ .idle → Stepped u e → P { u with engine := e }
  tells : ∀ u, P u → P (raiseTakeRunning u)
  ends : ∀ u r, P u → P (endTake r u)

theorem cueInPlay_some {q : Cue} (h : cueInPlay s = some q) :
    1 ≤ s.engine.cueIndex ∧ s.engine.cueIndex ≤ (activeCues s).length := by
  unfold cueInPlay at h
  split at h
  · cases h
  · have := (List.getElem?_eq_some_iff.1 h).1
    omega

namespace EngineKeeps

variable {P : State → Prop} (h : EngineKeeps P) {s : State}
include h

theorem startCue (hs : P s) (hn : s.engine.state ≠ .idle) : P (startCue s) := by
  unfold Machine.startCue
  split
  · exact hs
  next q _ =>
    refine h.engine s _ hs hn ⟨rfl, rfl, hn, fun c => .inl, fun c => id, fun c hc => .inr ?_, .inl rfl⟩
    dsimp only at hc
    rw [PerChannel.get_ofFn] at hc
    split at hc
    next hset => exact hset
    next => cases hc

omit h in
theorem startCue_state (s : State) : (Machine.startCue s).engine.state = s.engine.state := by
  obtain ⟨sp, h⟩ := startCue_eq s
  rw [h]

theorem startPlay (hs : P s) (hn : s.engine.state ≠ .idle) : P (startPlay s) := by
  have step : ∀ k, k = 1 ∨ k = s.engine.cueIndex ∨ (1 ≤ k ∧ k ≤ (activeCues s).length) →
      P { s with engine := { s.engine with state := .playing, cueIndex := k, cueTime := 0, frameWait := none } } := by
    intro k hk
    refine h.engine s _ hs hn ⟨rfl, rfl, by simp, fun c => .inl, fun c => id, fun c => .inl, ?_⟩
    rcases hk with hk | hk | hk
    · exact .inr (.inl hk)
    · exact .inl hk
    · exact .inr (.inr hk)
  have rate : ∀ u, P u → u.engine.state ≠ .idle → P (raiseTakeRunning (setRate u)) := fun u hu hun =>
    h.tells _ (h.engine u _ hu hun ((Stepped.refl u hun).of_eq u rfl rfl hun rfl rfl rfl))
  unfold Machine.startPlay
  dsimp only
  split
  next h1 =>
    exact h.ends _ _ (rate _ (step 1 (.inl rfl)) (by simp))
  next h1 =>
    have h2 := step 2 (.inr (.inr ⟨by omega, by simp at h1; omega⟩))
    exact rate _ (h.startCue h2 (by simp)) (by rw [startCue_state]; simp)

theorem stepRate (hs : P s) (hn : s.engine.state ≠ .idle) : P (stepRate s) :=
  h.engine s _ hs hn ((Stepped.refl s hn).of_eq s rfl rfl hn rfl rfl rfl)

theorem reachPause (hs : P s) (hn : s.engine.state ≠ .idle) :
    P (reachPause s) ∧ (reachPause s).engine.state ≠ .idle := by
  unfold Machine.reachPause
  split
  · exact ⟨h.tells _ (h.engine s _ hs hn ((Stepped.refl s hn).of_eq s rfl rfl nofun rfl rfl rfl)), by simp⟩
  · exact ⟨hs, hn⟩

theorem writeCue (hs : P s) (hn : s.engine.state ≠ .idle) : P (writeCue s) := by
  unfold Machine.writeCue
  split
  next q _ =>
    exact h.engine s _ hs hn
      (((Stepped.refl s hn).writePath s rfl q).of_eq s rfl rfl hn rfl rfl rfl)
  next => exact hs

theorem playingMillisecond (q : Cue) (hs : P s) (hn : s.engine.state ≠ .idle) :
    P (playingMillisecond q s) := by
  obtain ⟨hp, hpn⟩ := h.reachPause (h.stepRate hs hn) hn
  set u := Machine.reachPause (Machine.stepRate s) with hu
  have hc : P { u with engine := advanceClock u.engine } :=
    h.engine u _ hp hpn ((Stepped.refl u hpn).of_eq u rfl rfl hpn rfl rfl rfl)
  have hcn : (advanceClock u.engine).state ≠ .idle := hpn
  unfold Machine.playingMillisecond
  dsimp only
  rw [← hu]
  split
  · exact h.writeCue hc hpn
  · split
    · exact h.ends _ _ (h.engine { u with engine := advanceClock u.engine } _ hc hpn
        ((Stepped.refl { u with engine := advanceClock u.engine } hcn).writeEnds _ rfl))
    next hlt =>
      have hst : Stepped { u with engine := advanceClock u.engine } (writeEnds (advanceClock u.engine)) :=
        (Stepped.refl { u with engine := advanceClock u.engine } hcn).writeEnds _ rfl
      have hnext := h.engine _ { writeEnds (advanceClock u.engine) with
          cueTime := (advanceClock u.engine).cueTime - cueUnits q, cueIndex := (advanceClock u.engine).cueIndex + 1 }
        hc hpn ⟨hst.take, hst.set, hst.idle, hst.path, hst.kept, hst.spans, .inr (.inr ⟨by simp, by
          simpa using hlt⟩)⟩
      have hstart := h.startCue hnext hst.idle
      refine h.writeCue hstart fun hi => hst.idle ?_
      rwa [nextCue, startCue_state] at hi

theorem cueingMillisecond (q : Cue) (hs : P s) (hn : s.engine.state ≠ .idle) : P (cueingMillisecond q s) := by
  have hr := h.stepRate hs hn
  have hst := Stepped.refl (Machine.stepRate s) hn
  unfold Machine.cueingMillisecond
  dsimp only
  split
  · exact h.tells _ (h.engine (Machine.stepRate s) _ hr hn
      ((hst.writeEnds _ rfl).of_eq _ rfl rfl (fun hi => by cases hi) rfl rfl rfl))
  · exact h.engine _ _ hr hn
      (Stepped.writePath _ (e := { (Machine.stepRate s).engine with
        cueTime := (Machine.stepRate s).engine.cueTime + (Machine.stepRate s).engine.rate })
        (hst.of_eq _ rfl rfl hn rfl rfl rfl) rfl q)

theorem waitMillisecond (hs : P s) (hn : s.engine.state ≠ .idle) : P (waitMillisecond s) := by
  have hw : P { s with engine := { s.engine with frameWait := some (s.engine.frameWait.getD 0 + 1) } } :=
    h.engine s _ hs hn ((Stepped.refl s hn).of_eq s rfl rfl hn rfl rfl rfl)
  unfold Machine.waitMillisecond
  dsimp only
  split
  · exact h.ends _ _ hw
  · exact hw

theorem engineMillisecond (hs : P s) : P (engineMillisecond s) := by
  unfold Machine.engineMillisecond
  split
  next => exact hs
  next => exact hs
  next hst => exact h.waitMillisecond hs (by simp [hst])
  next hst =>
    split
    · exact h.cueingMillisecond _ hs (by simp [hst])
    · exact hs
  next hst =>
    split
    next q _ => exact h.playingMillisecond q hs (by simp [hst])
    next => exact hs
  next hst =>
    split
    next q _ => exact h.playingMillisecond q hs (by simp [hst])
    next => exact hs

end EngineKeeps

/-- What the end step makes of a channel's record (R153). -/
def endRecord (s : State) (c : Chan) (r : Channel) : Channel :=
  releaseChannel (takeWritten (s.lo c) (s.hi c) (s.engine.path.get c) (s.engine.untaken.get c) r)

/-! ## The lens -/

/-- R10: limits that act on some channels one after another. -/
theorem chan_foldl_applyLimits (p : Chan → Bool) (l : List Chan) (hl : l.Nodup) (s : State) (c : Chan) :
    (l.foldl (fun t d => if p d then applyLimits t d else t) s).chan c =
      if p c = true ∧ c ∈ l then withLimits (s.lo c) (s.hi c) (s.chan c) else s.chan c := by
  have hlo : ∀ (d : Chan) (t : State), (if p d then applyLimits t d else t).limits = t.limits := fun d t => by
    split <;> rfl
  induction l generalizing s with
  | nil => simp
  | cons d l ih =>
    rw [List.nodup_cons] at hl
    have hlim : ∀ c, State.lo (if p d then applyLimits s d else s) c = s.lo c ∧
        State.hi (if p d then applyLimits s d else s) c = s.hi c := fun c => by
      simp only [State.lo, State.hi, hlo, and_self]
    rw [List.foldl_cons, ih hl.2, (hlim c).1, (hlim c).2]
    by_cases hcd : c = d
    · subst hcd
      cases hp : p c <;> simp [hl.1, applyLimits]
    · cases hp : p d <;> simp [hcd, applyLimits]

theorem lensChans_nodup : lensChans.Nodup := by decide

theorem chan_selectBank (b : Option (Fin 4)) (c : Chan) : (selectBank b s).chan c =
    if c ∈ lensChans then
      withLimits (({ s with lens := { s.lens with selected := b } } : State).lo c)
        (({ s with lens := { s.lens with selected := b } } : State).hi c) (s.chan c)
    else s.chan c := by
  have h := chan_foldl_applyLimits (fun _ => true) lensChans lensChans_nodup
    { s with lens := { s.lens with selected := b } } c
  simp only [true_and, if_true] at h
  exact h

theorem chan_applyChangedLimits (before : State) (c : Chan) : (applyChangedLimits before s).chan c =
    if before.limits c ≠ s.limits c ∧ c ∈ lensChans then withLimits (s.lo c) (s.hi c) (s.chan c) else s.chan c := by
  have hk : ∀ (l : List Chan) (t : State), t.limits = s.limits →
      l.foldl (fun t c => if before.limits c = t.limits c then t else applyLimits t c) t =
        l.foldl (fun t c => if decide (before.limits c ≠ s.limits c) = true then applyLimits t c else t) t := by
    intro l
    induction l with
    | nil => exact fun _ _ => rfl
    | cons d l ih =>
      intro t ht
      rw [List.foldl_cons, List.foldl_cons]
      by_cases hd : before.limits d = s.limits d
      · rw [if_pos (by rw [ht]; exact hd), if_neg (by simp [hd])]
        exact ih t ht
      · rw [if_neg (by rw [ht]; exact hd), if_pos (by simp [hd])]
        exact ih _ ht
  unfold applyChangedLimits
  rw [hk _ _ rfl, chan_foldl_applyLimits _ _ lensChans_nodup]
  simp

@[simp] theorem limits_applyLimits (c : Chan) : (applyLimits s c).limits = s.limits := rfl

theorem limits_selectBank (b : Option (Fin 4)) :
    (selectBank b s).limits = ({ s with lens := { s.lens with selected := b } } : State).limits := rfl

theorem limits_applyChangedLimits (before : State) : (applyChangedLimits before s).limits = s.limits := by
  refine foldl_keeps (P := fun t => t.limits = s.limits) lensChans rfl fun u hu c _ => ?_
  split
  · exact hu
  · rw [limits_applyLimits, hu]

/-- R168: an evaluation changes tracking, and of the channels at most the target of FOCUS. -/
theorem evaluateTracking_frame : ∃ k, evaluateTracking s = setTracking s k ∨
    ∃ n, evaluateTracking s = writeFocus n (setTracking s k) := by
  unfold evaluateTracking
  dsimp only
  split
  · split
    · exact ⟨_, .inr ⟨_, rfl⟩⟩
    · exact ⟨_, .inl rfl⟩
  · exact ⟨_, .inl rfl⟩

theorem chan_evaluateTracking (c : Chan) : (evaluateTracking s).chan c = s.chan c ∨
    (c = .focus ∧ (s.chan c).owner = .track ∧ ∃ n, (evaluateTracking s).chan c = { s.chan c with target := some n }) := by
  obtain ⟨k, h | ⟨n, h⟩⟩ := evaluateTracking_frame s
  · exact .inl (by rw [h]; rfl)
  · rw [h]
    unfold writeFocus
    split
    next ho =>
      rw [chan_setChan]
      split
      next hc => subst hc; exact .inr ⟨rfl, ho, n, rfl⟩
      next => exact .inl rfl
    next => exact .inl rfl

theorem chan_lensUpdate (c : Chan) : (lensUpdate s).chan c = s.chan c ∨
    (c = .focus ∧ (s.chan c).owner = .track ∧ ∃ n, (lensUpdate s).chan c = { s.chan c with target := some n }) := by
  unfold lensUpdate trackUpdate
  split
  · exact .inl rfl
  · dsimp only
    split
    · exact chan_evaluateTracking (setTargets s (s.lens.targets.map ageTarget)) c
    · exact chan_evaluateTracking (setTargets s (s.lens.targets.map ageTarget)) c

theorem limits_evaluateTracking : (evaluateTracking s).limits = s.limits := by
  obtain ⟨k, h | ⟨n, h⟩⟩ := evaluateTracking_frame s
  · rw [h]; rfl
  · rw [h]; unfold writeFocus; split <;> rfl

theorem limits_lensUpdate : (lensUpdate s).limits = s.limits := by
  unfold lensUpdate trackUpdate
  split
  · rfl
  · dsimp only
    split
    · exact limits_evaluateTracking (setTargets s (s.lens.targets.map ageTarget))
    · exact limits_evaluateTracking (setTargets s (s.lens.targets.map ageTarget))

/-- R169: TRACK_OFF releases FOCUS if TRACK owns it. -/
theorem chan_trackOff (c : Chan) : (trackingOff (releaseTracked s)).chan c =
    if c = .focus ∧ (s.chan .focus).owner = .track then releaseChannel (s.chan c) else s.chan c := by
  rw [chan_trackingOff]
  unfold releaseTracked
  split
  next h =>
    rw [chan_releaseOwner]
    by_cases hc : c = .focus <;> simp [hc, h]
  next h => simp [h]

/-! ## Wheels -/

/-- R22: a hand-over leaves a channel as it is, or grants it to the wheel. -/
theorem chan_handOver (i : Fin 4) (c : Chan) : (handOver i s).chan c = s.chan c ∨
    ((s.wheels.get i).channel = some c ∧ claimCode .wheel false s c = none ∧
      (handOver i s).chan c =
        grantRecord .wheel .position none (some (wheelTarget (s.chan c) (s.wheels.get i))) (s.chan c)) := by
  unfold handOver
  dsimp only
  split
  · exact .inl rfl
  next d hd =>
    split
    · exact .inl rfl
    · split
      · exact .inl rfl
      next hcl =>
        rw [chan_grant]
        split
        next hc => subst hc; exact .inr ⟨hd, hcl, rfl⟩
        next => exact .inl rfl

end Sys2Proof.Machine

/-! What every command keeps of limits, remainders and OUTSIDE (R1, R2, R9, R21). -/

namespace Sys2Proof.Machine

/-! ## One channel -/

/-- R2, R9: the fraction is small, an ACTIVE drive's position is known, and OUTSIDE says where a known setpoint stands. -/
structure Fits (lo hi : Int) (r : Channel) : Prop where
  fraction : r.fraction < 1000
  known : r.drive = .active → r.known = true
  outside : r.known = true → r.outside = outsideOf lo hi r.setpoint

/-- The setpoint and what is known of it are the same, and the drive does not become ACTIVE. -/
structure SameSpot (r q : Channel) : Prop where
  setpoint : q.setpoint = r.setpoint
  fraction : q.fraction = r.fraction
  known : q.known = r.known
  outside : q.outside = r.outside
  drive : q.drive = .active → r.drive = .active

section Records

variable {lo hi : Int} {r q : Channel}

theorem SameSpot.refl (r : Channel) : SameSpot r r := ⟨rfl, rfl, rfl, rfl, id⟩

theorem SameSpot.trans {p : Channel} (h : SameSpot r q) (k : SameSpot q p) : SameSpot r p :=
  ⟨k.1.trans h.1, k.2.trans h.2, k.3.trans h.3, k.4.trans h.4, h.5 ∘ k.5⟩

theorem Fits.of_spot (h : Fits lo hi r) (k : SameSpot r q) : Fits lo hi q := by
  obtain ⟨k1, k2, k3, k4, k5⟩ := k
  refine ⟨k2 ▸ h.fraction, fun hd => k3.trans (h.known (k5 hd)), fun hk => ?_⟩
  rw [k4, k1]
  exact h.outside (k3 ▸ hk)

/-- Flags set from the limits fit them. -/
theorem fits_of_outside (fraction : r.fraction < 1000) (known : r.drive = .active → r.known = true)
    (outside : r.outside = outsideOf lo hi r.setpoint) : Fits lo hi r := ⟨fraction, known, fun _ => outside⟩

theorem Fits.withLimits {lo' hi' : Int} (h : Fits lo' hi' r) : Fits lo hi (withLimits lo hi r) :=
  fits_of_outside h.fraction h.known rfl

theorem sameSpot_off (r : Channel) : SameSpot r (offRecord r) := ⟨rfl, rfl, rfl, rfl, nofun⟩

theorem sameSpot_hold (r : Channel) : SameSpot r (holdChannel r) := ⟨rfl, rfl, rfl, rfl, id⟩

theorem sameSpot_release (r : Channel) : SameSpot r (releaseChannel r) := by
  unfold releaseChannel; split <;> exact ⟨rfl, rfl, rfl, rfl, id⟩

theorem sameSpot_stop (r : Channel) : SameSpot r (stopChannel r) := by
  unfold stopChannel; split <;> exact ⟨rfl, rfl, rfl, rfl, id⟩

theorem sameSpot_rested (r : Channel) : SameSpot r (restedRecord r) := ⟨rfl, rfl, rfl, rfl, id⟩

theorem sameSpot_grant (p : Party) (m : Mode) (d t : Option Int) (r : Channel) : SameSpot r (grantRecord p m d t r) :=
  ⟨rfl, rfl, rfl, rfl, id⟩

theorem sameSpot_inhibits {p m : Bool} : SameSpot r { r with inhibitPlus := p, inhibitMinus := m } :=
  ⟨rfl, rfl, rfl, rfl, id⟩

theorem Fits.takePath (h : Fits lo hi r) (w : Int) : Fits lo hi (takePath lo hi w r) := by
  refine fits_of_outside ?_ h.known rfl
  unfold Machine.takePath
  dsimp only
  split
  · exact h.fraction
  · simp

theorem Fits.takeWritten (h : Fits lo hi r) (w : Option Int) (fresh : Bool) : Fits lo hi (takeWritten lo hi w fresh r) := by
  unfold Machine.takeWritten
  split
  · exact h.takePath _
  · exact h

/-- R5: an advance changes setpoint, fraction, velocity and AT_LIMIT, and keeps the fraction below 1,000. -/
theorem advance_frame (step : Nat) (demand : Int) (r : Channel) : ∃ x f v l,
    advance lo hi step demand r = { r with setpoint := x, fraction := f, velocity := v, atLimit := l } ∧
      (r.fraction < 1000 → f < 1000) := by
  unfold advance
  dsimp only
  generalize (if inhibited r (velocityStep step r.velocity demand) = true then 0 else velocityStep step r.velocity demand) = v
  split
  · exact ⟨r.setpoint, r.fraction, 0, r.atLimit, rfl, id⟩
  · split
    · exact ⟨_, 0, 0, _, rfl, fun _ => by omega⟩
    · split
      · exact ⟨_, 0, 0, _, rfl, fun _ => by omega⟩
      · exact ⟨_, _, v, r.atLimit, rfl, fun _ => by simp only [floorDiv]; omega⟩

theorem arrive_frame (accel : Nat) (goal : Int) (r : Channel) : ∃ x f v p,
    arrive accel goal r = { r with setpoint := x, fraction := f, velocity := v, inPosition := p } ∧
      (r.fraction < 1000 → f < 1000) := by
  unfold arrive
  split
  · exact ⟨_, _, _, _, rfl, fun _ => by omega⟩
  · exact ⟨r.setpoint, r.fraction, r.velocity, _, rfl, id⟩

theorem sameSpot_settle (r : Channel) : SameSpot r (settle r) := by
  unfold settle
  split
  · split
    · exact sameSpot_hold r
    · exact ⟨rfl, rfl, rfl, rfl, id⟩
  · exact .refl r

theorem Fits.rest (h : Fits lo hi r) : Fits lo hi (restChannel lo hi r) := by
  unfold restChannel
  dsimp only
  split
  · exact (h.of_spot (sameSpot_hold r)).withLimits
  next hk => exact ⟨h.fraction, h.known, fun k => absurd k hk⟩

/-- R3 to R9: a channel update keeps a record that fits. -/
theorem Fits.profile (h : Fits lo hi r) (c : Chan) (g : ChannelConfig) (scale : Nat) (path : Option Int) :
    Fits lo hi (profile c g lo hi scale path r) := by
  unfold Machine.profile
  split
  · exact h.rest
  · split
    · exact h.withLimits
    · refine Fits.of_spot ?_ (sameSpot_settle _)
      obtain ⟨x, f, v, l, he, hf⟩ := advance_frame (lo := lo) (hi := hi) (stepSize g r)
        (boundDemand lo hi g.accel r (velocityDemand c g scale (r.demand.getD 0))) r
      rw [he]
      exact fits_of_outside (hf h.fraction) h.known rfl
    · dsimp only
      refine Fits.of_spot ?_ (sameSpot_settle _)
      obtain ⟨x, f, v, l, he, hf⟩ := advance_frame (lo := lo) (hi := hi) (stepSize g r)
        (boundDemand lo hi g.accel r
          (positionDemand c g scale (clampInt lo hi (r.target.getD r.setpoint)) r.setpoint))
        { r with target := some (clampInt lo hi (r.target.getD r.setpoint)) }
      rw [he]
      obtain ⟨x', f', v', p', he', hf'⟩ := arrive_frame g.accel (clampInt lo hi (r.target.getD r.setpoint))
        { r with target := some (clampInt lo hi (r.target.getD r.setpoint)), setpoint := x, fraction := f, velocity := v,
                 atLimit := l }
      rw [he']
      exact fits_of_outside (hf' (hf h.fraction)) h.known rfl
    · split
      · exact h.takePath _
      · exact h.of_spot ⟨rfl, rfl, rfl, rfl, id⟩

theorem Fits.takeGoodReply (h : Fits lo hi r) (st : ReplyState) (fb : Int) : Fits lo hi (takeGoodReply lo hi r st fb) := by
  unfold Machine.takeGoodReply
  dsimp only
  split
  next ha => exact ⟨h.fraction, fun _ => rfl, fun _ => h.outside (h.known ha.1)⟩
  next => exact fits_of_outside (by simp [withOutside, holdChannel]) (fun _ => rfl) rfl

theorem fits_enable (lo hi : Int) (r : Channel) : Fits lo hi (enableChannel lo hi r) :=
  fits_of_outside (by simp [enableChannel, withOutside]) nofun rfl

end Records

/-! ## The state -/

/-- R1, R2, R9, R21: limits in order, remainders small, and every channel fits its limits in force. -/
structure LimitsHold (s : State) : Prop where
  ordered : LimitsOrdered s
  carry : ∀ i, (s.wheels.get i).carry < 256
  fits : ∀ c, Fits (s.lo c) (s.hi c) (s.chan c)

section Limits

variable {s t : State}

theorem limitsHold_iff : LimitsHold s ↔ LimitsOrdered s ∧ RemaindersSmall s ∧ OutsideAgrees s := by
  have hout : ∀ c, ((s.chan c).outside = true ↔ (s.chan c).setpoint < s.lo c ∨ s.hi c < (s.chan c).setpoint) ↔
      (s.chan c).outside = outsideOf (s.lo c) (s.hi c) (s.chan c).setpoint := fun c => by
    rw [Bool.eq_iff_iff (b := outsideOf _ _ _)]; simp [outsideOf]
  constructor
  · rintro ⟨h1, h2, h3⟩
    exact ⟨h1, ⟨fun c => (h3 c).fraction, h2⟩, ⟨fun c => (h3 c).known, fun c hk => (hout c).2 ((h3 c).outside hk)⟩⟩
  · rintro ⟨h1, ⟨h2, h3⟩, ⟨h4, h5⟩⟩
    exact ⟨h1, h3, fun c => ⟨h2 c, h4 c, fun hk => (hout c).1 (h5 c hk)⟩⟩

theorem LimitsOrdered.of_eq (h : LimitsOrdered s) (config : t.config = s.config) (banks : t.lens.banks = s.lens.banks) :
    LimitsOrdered t := by
  obtain ⟨h1, h2, h3⟩ := h
  refine ⟨fun c => ?_, ?_, ?_⟩
  · rw [cfg_eq_of_config config]; exact h1 c
  · rwa [banks]
  · rwa [banks]

/-- Limits, wheels and every channel's spot are the same. -/
theorem LimitsHold.of_spots (h : LimitsHold s) (config : t.config = s.config) (banks : t.lens.banks = s.lens.banks)
    (selected : t.lens.selected = s.lens.selected) (wheels : t.wheels = s.wheels)
    (spots : ∀ c, SameSpot (s.chan c) (t.chan c)) : LimitsHold t := by
  have hl : t.limits = s.limits := limits_eq_of config banks selected
  refine ⟨h.ordered.of_eq config banks, fun i => by rw [wheels]; exact h.carry i, fun c => ?_⟩
  rw [State.lo, State.hi, hl]
  exact (h.fits c).of_spot (spots c)

theorem LimitsHold.of_fits (h : LimitsHold s) (config : t.config = s.config) (banks : t.lens.banks = s.lens.banks)
    (wheels : t.wheels = s.wheels) (fits : ∀ c, Fits (t.lo c) (t.hi c) (t.chan c)) : LimitsHold t :=
  ⟨h.ordered.of_eq config banks, fun i => by rw [wheels]; exact h.carry i, fits⟩

theorem LimitsHold.of_channels (h : LimitsHold s) (config : t.config = s.config) (banks : t.lens.banks = s.lens.banks)
    (selected : t.lens.selected = s.lens.selected) (wheels : t.wheels = s.wheels) (channels : t.channels = s.channels) :
    LimitsHold t :=
  h.of_spots config banks selected wheels fun c => by rw [chan_eq_of_channels channels]; exact .refl _

theorem limitsHold_rise (d : CauseDetail) (h : LimitsHold s) : LimitsHold (rise d s) := by
  have hs := settled_eq_iff.1 (rise_settled s d)
  refine h.of_spots hs.1 (rise_banks ..) (rise_selected ..) hs.2.1 fun c => ?_
  exact rise_chan (P := fun q => SameSpot (s.chan c) q) s d c (.refl _) (fun r hr => hr.trans (sameSpot_off r))
    (fun r hr => hr.trans (sameSpot_stop r)) (fun r hr => hr.trans (sameSpot_release r))
    fun r hr _ _ => hr.trans (sameSpot_rested r)

theorem limitsHold_endTake (r : TakeResult) (h : LimitsHold s) : LimitsHold (endTake r s) := by
  have hs := settled_eq_iff.1 (endTake_settled s r)
  refine h.of_fits hs.1 (by simp) hs.2.1 fun c => ?_
  have hl : (endTake r s).limits = s.limits := limits_eq_of hs.1 (by simp) (by simp)
  rw [State.lo, State.hi, hl, chan_endTake]
  split
  · exact ((h.fits c).takeWritten _ _).of_spot (sameSpot_release _)
  · exact h.fits c

theorem limitsHold_engine : EngineKeeps LimitsHold where
  engine _ _ h _ _ := h.of_channels rfl rfl rfl rfl rfl
  tells _ h := h.of_channels rfl rfl rfl rfl rfl
  ends _ r h := limitsHold_endTake r h

/-- R22: a carry is below 256. -/
theorem wheelCarry_lt (w : WheelInput) : wheelCarry w < 256 := by
  simp only [wheelCarry, wheelWhole, floorDiv]
  omega

theorem limitsHold_grant (p : Party) (m : Mode) (d tg : Option Int) (c : Chan) (h : LimitsHold s) :
    LimitsHold (grant p m d tg c s) := by
  have hs := settled_eq_iff.1 (grant_settled s p m d tg c)
  refine h.of_spots hs.1 (by simp [grant]) (by simp [grant]) hs.2.1 fun e => ?_
  rw [chan_grant]
  split
  next he => subst he; exact sameSpot_grant ..
  next => exact .refl _

theorem LimitsHold.setWheel (h : LimitsHold s) (i : Fin 4) {w : WheelInput} (hw : w.carry < 256) :
    LimitsHold { s with wheels := s.wheels.set i w } := by
  refine ⟨h.ordered.of_eq rfl rfl, fun j => ?_, h.fits⟩
  show ((s.wheels.set i w).get j).carry < 256
  rw [PerFour.get_set]
  split
  · exact hw
  · exact h.carry j

theorem limitsHold_handOver (i : Fin 4) (h : LimitsHold s) : LimitsHold (handOver i s) := by
  unfold handOver
  dsimp only
  split
  · exact h.setWheel i (h.carry i)
  · split
    · exact h.setWheel i (h.carry i)
    · split
      · exact h.setWheel i (h.carry i)
      · exact limitsHold_grant _ _ _ _ _ (h.setWheel i (wheelCarry_lt _))

theorem limitsHold_updated (h : LimitsHold s) : LimitsHold (updated s) := by
  have h1 : LimitsHold (handOverAll s) :=
    limitsHold_handOver 3 (limitsHold_handOver 2 (limitsHold_handOver 1 (limitsHold_handOver 0 h)))
  have h2 : LimitsHold (runProfiles (handOverAll s)) := by
    refine h1.of_fits rfl rfl rfl fun c => ?_
    rw [chan_runProfiles]
    exact (h1.fits c).profile _ _ _ _
  have h3 : LimitsHold (reachMoves (runProfiles (handOverAll s))) := by
    refine foldl_keeps _ h2 fun u hu c _ => ?_
    split
    · have hs := settled_eq_iff.1 (reachMove_settled u c)
      exact hu.of_channels hs.1 (by simp) (by simp) hs.2.1 (by simp)
    · exact hu
  refine h3.of_spots rfl rfl rfl rfl fun c => ?_
  rw [updated, releaseIdle, chan_mapChannels]
  split
  · exact sameSpot_release _
  · exact .refl _

theorem limitsHold_exchanged (replies : PerChannel (Option (List Byte))) (h : LimitsHold s) :
    LimitsHold (exchanged replies s) := by
  refine h.of_fits rfl rfl rfl fun c => ?_
  have hc : (exchanged replies s).chan c = exchangeRecord s replies c := PerChannel.get_ofFn _ c
  have hl : (exchanged replies s).limits = s.limits := rfl
  rw [State.lo, State.hi, hl, hc]
  unfold exchangeRecord
  split
  · exact (h.fits c).takeGoodReply _ _
  · exact (h.fits c).of_spot ⟨rfl, rfl, rfl, rfl, id⟩

theorem sameSpot_of_inhibits (h : SameButInhibits s t) (c : Chan) : SameSpot (s.chan c) (t.chan c) := by
  obtain ⟨p, m, hc⟩ := h c
  rw [hc]
  exact sameSpot_inhibits

theorem limitsHold_sample : SampleKeeps LimitsHold where
  input _ h := h.of_channels rfl rfl rfl rfl rfl
  stops _ _ h _ _ := h.of_channels rfl rfl rfl rfl rfl
  channels u h := by
    have hc := sameSpot_of_inhibits (chan_clearInhibits u)
    rw [clearInhibits_frame] at hc ⊢
    exact h.of_spots rfl rfl rfl rfl hc
  rises d _ h _ := limitsHold_rise d h

theorem limitsHold_startArmingSlot (n : Nat) (h : LimitsHold s) : LimitsHold (startArmingSlot n s) := by
  refine h.of_fits rfl rfl rfl fun c => ?_
  show Fits (s.lo c) (s.hi c) ((mapChannels s _).chan c)
  rw [chan_mapChannels]
  split
  · exact fits_enable ..
  · exact h.fits c

theorem limitsHold_enterCrane (st : CraneState) (x : StateExtra) (h : LimitsHold s) : LimitsHold (enterCrane st x s) := by
  have hs := settled_eq_iff.1 (enterCrane_settled s st x)
  exact h.of_channels hs.1 (by simp) (by simp) hs.2.1 (by simp)

theorem chan_parkedOff (n : Nat) (s : State) (c : Chan) : (parkedOff n s).chan c =
    if parksOff s n c = true then offRecord (s.chan c) else s.chan c := by
  unfold parkedOff
  dsimp only
  split
  · rw [chan_trackingOff, chan_interruptMoves, chan_mapChannels]; rfl
  · rw [chan_interruptMoves, chan_mapChannels]; rfl

theorem parkedOff_lens (n : Nat) (s : State) : (parkedOff n s).lens.banks = s.lens.banks ∧
    (parkedOff n s).lens.selected = s.lens.selected ∧ (parkedOff n s).lens.targets = s.lens.targets := by
  unfold parkedOff
  dsimp only
  split <;> simp

theorem limitsHold_parkedOff (n : Nat) (h : LimitsHold s) : LimitsHold (parkedOff n s) := by
  have hb := parkedOff_body n s
  obtain ⟨h1, h2, -⟩ := parkedOff_lens n s
  refine h.of_spots hb.config h1 h2 hb.wheels fun c => ?_
  rw [chan_parkedOff]
  split
  · exact sameSpot_off _
  · exact .refl _

theorem limitsHold_slot (h : LimitsHold s) (hs : SlotStep s t) : LimitsHold t := by
  cases hs with
  | none => exact h
  | tick => exact h.of_channels rfl rfl rfl rfl rfl
  | armFail => exact limitsHold_enterCrane _ _ (h.of_channels rfl rfl rfl rfl rfl)
  | nextUp => exact limitsHold_startArmingSlot _ h
  | ready => exact limitsHold_enterCrane _ _ (h.of_channels rfl rfl rfl rfl rfl)
  | nextDown n k => exact (limitsHold_parkedOff n h).of_channels rfl rfl rfl rfl rfl
  | parked n => exact limitsHold_enterCrane _ _ ((limitsHold_parkedOff n h).of_channels rfl rfl rfl rfl rfl)

theorem limitsHold_evaluateTracking (h : LimitsHold s) : LimitsHold (evaluateTracking s) := by
  have hspots : ∀ c, SameSpot (s.chan c) ((evaluateTracking s).chan c) := fun c => by
    rcases chan_evaluateTracking s c with hc | ⟨-, -, n, hc⟩
    · rw [hc]; exact .refl _
    · rw [hc]; exact ⟨rfl, rfl, rfl, rfl, id⟩
  have hb := sameBody_evaluateTracking s
  have hl : (evaluateTracking s).lens.banks = s.lens.banks ∧ (evaluateTracking s).lens.selected = s.lens.selected := by
    obtain ⟨k, hk | ⟨n, hk⟩⟩ := evaluateTracking_frame s
    · rw [hk]; exact ⟨rfl, rfl⟩
    · rw [hk]; unfold writeFocus; split <;> exact ⟨rfl, rfl⟩
  exact h.of_spots hb.config hl.1 hl.2 hb.wheels hspots

theorem limitsHold_lensUpdate (h : LimitsHold s) : LimitsHold (lensUpdate s) := by
  have h1 : LimitsHold (setTargets s (s.lens.targets.map ageTarget)) := h.of_channels rfl rfl rfl rfl rfl
  unfold lensUpdate trackUpdate
  split
  · exact h1
  · dsimp only
    split
    · exact (limitsHold_evaluateTracking h1).of_channels rfl rfl rfl rfl rfl
    · exact limitsHold_evaluateTracking h1

theorem limitsHold_event (h : LimitsHold s) (he : Event s t) : LimitsHold t := by
  cases he with
  | channelUpdate =>
    have hu := limitsHold_updated h
    rw [channelUpdate_eq]
    rcases checkStandstill_cases (updated s) with he | ⟨_, _, he⟩
    · rw [he]; exact hu
    · rw [he]
      refine limitsHold_enterCrane _ _ (hu.of_spots rfl rfl rfl rfl fun c => ?_)
      rw [chan_mapChannels]
      exact ⟨rfl, rfl, rfl, rfl, id⟩
  | driveExchange r => exact driveExchange_keeps r (limitsHold_exchanged r h) fun c k _ hu => limitsHold_rise _ hu
  | slotEvent => exact limitsHold_slot h (slotEvent_step s)
  | zoneEvaluation =>
    have he : LimitsHold (evaluated s) := h.of_channels rfl rfl rfl rfl rfl
    refine zoneEvaluation_keeps he (fun n => limitsHold_rise _ he) fun d u hu => ?_
    have hs := settled_eq_iff.1 (raiseZone_settled u d)
    exact hu.of_channels hs.1 (by simp) (by simp) hs.2.1 (by simp)
  | inputSample x => exact limitsHold_sample.inputSample x h
  | frameEdge =>
    obtain ⟨f, n, hf⟩ := renewFrame_frame s
    have hr : LimitsHold (renewFrame s) := by rw [hf]; exact h.of_channels rfl rfl rfl rfl rfl
    rcases frameEdge_cases s with he | ⟨hw, he⟩
    · rw [he]; exact hr
    · rw [he]; exact limitsHold_engine.startPlay hr (by rw [hf]; simp [hw])
  | presenceSample v => rw [presenceSample_frame]; exact h.of_channels rfl rfl rfl rfl rfl
  | engineMillisecond => exact limitsHold_engine.engineMillisecond h
  | lensUpdate => exact limitsHold_lensUpdate h
  | wheelEdge w up => exact h.setWheel w (h.carry w)
  | geometryUpdate => exact h.of_channels rfl rfl rfl rfl rfl

/-! ### The requests -/

/-- R1, R191: a stored item keeps the limits in order. -/
theorem limitsOrdered_store {k : ConfigKey} {w : Int} (h : LimitsOrdered s) (hk : keepsOrder s.config k w = true) :
    LimitsOrdered { s with config := storeItem s.config k w } := by
  obtain ⟨h1, h2, h3⟩ := h
  refine ⟨fun c => ?_, h2, h3⟩
  have hc : (s.config.channels.get c).lo ≤ (s.config.channels.get c).hi := h1 c
  have set : ∀ (d : Chan) (f : ChannelConfig → ChannelConfig),
      (f (s.config.channels.get d)).lo ≤ (f (s.config.channels.get d)).hi →
      ((setParameters s.config d f).channels.get c).lo ≤ ((setParameters s.config d f).channels.get c).hi := by
    intro d f hf
    simp only [setParameters, PerChannel.get_set]
    split
    · exact hf
    · exact hc
  show ((storeItem s.config k w).channels.get c).lo ≤ ((storeItem s.config k w).channels.get c).hi
  cases k
  case softLo d => exact set d _ (by simpa [keepsOrder] using hk)
  case softHi d => exact set d _ (by simpa [keepsOrder] using hk)
  case vmax d => exact set d _ (h1 d)
  case accel d => exact set d _ (h1 d)
  case stopStep d => exact set d _ (h1 d)
  case followLimit d => exact set d _ (h1 d)
  case releaseSlot d => exact set d _ (h1 d)
  case keepActive d => exact set d _ (h1 d)
  all_goals exact hc

/-- R190: which channel's configured limits an item sets. -/
def limitItem : ConfigKey → Option Chan
  | .softLo c | .softHi c => some c
  | _ => none

theorem limits_store {k : ConfigKey} {w : Int} {c : Chan}
    (h : limitItem k ≠ some c ∨ limitsConfigured s c = false) :
    ({ s with config := storeItem s.config k w } : State).limits c = s.limits c := by
  show (s.selectedMap.bind fun m => mapLimits m c).getD _ = (s.selectedMap.bind fun m => mapLimits m c).getD _
  rcases h with h | h
  · have hc : ∀ (d : Chan) (f : ChannelConfig → ChannelConfig),
        (d = c → (f (s.config.channels.get d)).lo = (s.config.channels.get d).lo ∧
          (f (s.config.channels.get d)).hi = (s.config.channels.get d).hi) →
        ((setParameters s.config d f).channels.get c).lo = (s.config.channels.get c).lo ∧
          ((setParameters s.config d f).channels.get c).hi = (s.config.channels.get c).hi := by
      intro d f hf
      simp only [setParameters, PerChannel.get_set]
      split
      next hd => subst hd; exact hf rfl
      next => exact ⟨rfl, rfl⟩
    have hcfg : ((storeItem s.config k w).channels.get c).lo = (s.config.channels.get c).lo ∧
        ((storeItem s.config k w).channels.get c).hi = (s.config.channels.get c).hi := by
      cases k
      case softLo d => exact hc d _ fun hd => absurd (congrArg some hd) h
      case softHi d => exact hc d _ fun hd => absurd (congrArg some hd) h
      case vmax d => exact hc d _ fun _ => ⟨rfl, rfl⟩
      case accel d => exact hc d _ fun _ => ⟨rfl, rfl⟩
      case stopStep d => exact hc d _ fun _ => ⟨rfl, rfl⟩
      case followLimit d => exact hc d _ fun _ => ⟨rfl, rfl⟩
      case releaseSlot d => exact hc d _ fun _ => ⟨rfl, rfl⟩
      case keepActive d => exact hc d _ fun _ => ⟨rfl, rfl⟩
      all_goals exact ⟨rfl, rfl⟩
    show Option.getD _ (((storeItem s.config k w).channels.get c).lo, ((storeItem s.config k w).channels.get c).hi) = _
    rw [hcfg.1, hcfg.2]
    rfl
  · unfold limitsConfigured at h
    cases hm : (s.selectedMap.bind fun m => mapLimits m c)
    · simp [hm] at h
    · rfl

/-- R10: a write of a soft limit in force acts on its channel. -/
theorem chan_actOnWrite (k : ConfigKey) (s : State) (c : Chan) : (actOnWrite k s).chan c =
    if limitItem k = some c ∧ limitsConfigured s c = true then withLimits (s.lo c) (s.hi c) (s.chan c) else s.chan c := by
  have limit : ∀ d, (if limitsConfigured s d = true then applyLimits s d else s).chan c =
      if some d = some c ∧ limitsConfigured s c = true then withLimits (s.lo c) (s.hi c) (s.chan c) else s.chan c := by
    intro d
    by_cases hd : d = c
    · subst hd
      cases limitsConfigured s d <;> simp [applyLimits]
    · have hne : ¬ c = d := fun h => hd h.symm
      cases limitsConfigured s d <;> simp [applyLimits, hd, hne]
  cases k
  case softLo d => exact limit d
  case softHi d => exact limit d
  case polarity l =>
    rw [if_neg (by simp [limitItem])]
    show (refillLine l s).chan c = s.chan c
    rw [refillLine_frame]; rfl
  all_goals exact (if_neg (by simp [limitItem])).symm

theorem limitsHold_configSet {k : ConfigKey} {w : Int} (h : LimitsHold s) (hk : keepsOrder s.config k w = true) :
    LimitsHold (actOnWrite k { s with config := storeItem s.config k w }) := by
  set u : State := { s with config := storeItem s.config k w } with hu
  have hf : (actOnWrite k u).limits = u.limits ∧ (actOnWrite k u).config = u.config ∧
      (actOnWrite k u).lens = u.lens ∧ (actOnWrite k u).wheels = u.wheels := by
    rw [actOnWrite_frame]; exact ⟨rfl, rfl, rfl, rfl⟩
  obtain ⟨hlim, hcfg, hlens, hwheels⟩ := hf
  refine ⟨(limitsOrdered_store h.ordered hk).of_eq hcfg (by rw [hlens]), fun i => by rw [hwheels]; exact h.carry i,
    fun c => ?_⟩
  rw [State.lo, State.hi, hlim, chan_actOnWrite k u c]
  split
  · exact (h.fits c).withLimits
  next hn =>
    have he : u.limits c = s.limits c := by
      refine limits_store ?_
      by_cases hki : limitItem k = some c
      · exact .inr (Bool.eq_false_iff.2 fun hl => hn ⟨hki, hl⟩)
      · exact .inl hki
    rw [he]
    exact h.fits c

theorem limits_other {c : Chan} (h : c ∉ lensChans) : s.limits c = ((s.cfg c).lo, (s.cfg c).hi) := by
  have hm : ∀ m, mapLimits m c = none := by
    intro m
    cases c
    case focus => simp [lensChans] at h
    case iris => simp [lensChans] at h
    case zoom => simp [lensChans] at h
    all_goals rfl
  unfold State.limits
  cases s.selectedMap <;> simp [hm]

theorem limitsHold_selectBank (b : Option (Fin 4)) (h : LimitsHold s) : LimitsHold (selectBank b s) := by
  have hb := sameBody_selectBank s b
  have hbanks : (selectBank b s).lens.banks = s.lens.banks := rfl
  refine h.of_fits hb.config hbanks hb.wheels fun c => ?_
  rw [State.lo, State.hi, limits_selectBank, chan_selectBank]
  split
  · exact (h.fits c).withLimits
  next hc =>
    have he : ({ s with lens := { s.lens with selected := b } } : State).limits c = s.limits c := by
      rw [limits_other hc, limits_other hc]; rfl
    rw [he]
    exact h.fits c

/-- R156: a stored map's limits are in order. -/
theorem limitsOrdered_setBank {b : Fin 4} {m : Option LensMap} (h : LimitsOrdered s)
    (hm : ∀ k, m = some k → (∀ p, k.iris = some p → p.lo ≤ p.hi) ∧ ∀ p, k.zoom = some p → p.lo ≤ p.hi) :
    LimitsOrdered (setBanks s (s.lens.banks.set b m)) := by
  refine ⟨h.configured, fun d k p hd hp => ?_, fun d k p hd hp => ?_⟩
  all_goals
    change (s.lens.banks.set b m).get d = some k at hd
    rw [PerFour.get_set] at hd
    split at hd
  · exact (hm k hd).1 p hp
  · exact h.iris d k p hd hp
  · exact (hm k hd).2 p hp
  · exact h.zoom d k p hd hp

theorem storedMap_ordered {m : LensMapOperands} (h : mapOperandsValid m = true) :
    (∀ p, (storedMap m).iris = some p → p.lo ≤ p.hi) ∧ ∀ p, (storedMap m).zoom = some p → p.lo ≤ p.hi := by
  simp only [mapOperandsValid, Bool.and_eq_true, Bool.or_eq_true, Bool.not_eq_true', decide_eq_true_eq] at h
  obtain ⟨⟨_, hi⟩, hz⟩ := h
  constructor
  · intro p hp
    simp only [storedMap] at hp
    split at hp
    next hg => cases hp; exact hi.resolve_left (by simp [hg])
    next => cases hp
  · intro p hp
    simp only [storedMap] at hp
    split at hp
    next hg => cases hp; exact hz.resolve_left (by simp [hg])
    next => cases hp

/-- A bank that is not selected bears on no limit in force. -/
theorem limits_setBank_other {b : Fin 4} {m : Option LensMap} (h : s.lens.selected ≠ some b) :
    (setBanks s (s.lens.banks.set b m)).limits = s.limits := by
  have hm : (setBanks s (s.lens.banks.set b m)).selectedMap = s.selectedMap := by
    unfold State.selectedMap
    show s.lens.selected.bind (fun d => (s.lens.banks.set b m).get d) = _
    cases hs : s.lens.selected with
    | none => rfl
    | some d =>
      have hd : d ≠ b := fun he => h (by rw [hs, he])
      rw [Option.bind_some, PerFour.get_set, if_neg hd]; rfl
  funext c
  unfold State.limits
  rw [hm]
  rfl

theorem limitsHold_setBank_other {b : Fin 4} {m : Option LensMap} (h : LimitsHold s) (hb : s.lens.selected ≠ some b)
    (hm : ∀ k, m = some k → (∀ p, k.iris = some p → p.lo ≤ p.hi) ∧ ∀ p, k.zoom = some p → p.lo ≤ p.hi) :
    LimitsHold (setBanks s (s.lens.banks.set b m)) := by
  refine ⟨limitsOrdered_setBank h.ordered hm, h.carry, fun c => ?_⟩
  rw [State.lo, State.hi, limits_setBank_other hb]
  exact h.fits c

theorem limitsHold_changedMap {b : Fin 4} {m : LensMap} (h : LimitsHold s)
    (hm : (∀ p, m.iris = some p → p.lo ≤ p.hi) ∧ ∀ p, m.zoom = some p → p.lo ≤ p.hi) :
    LimitsHold (applyChangedLimits s (setBanks s (s.lens.banks.set b (some m)))) := by
  set u := setBanks s (s.lens.banks.set b (some m))
  have hb := sameBody_applyChangedLimits u s
  have hlens : (applyChangedLimits s u).lens = u.lens :=
    foldl_keeps (P := fun t => t.lens = u.lens) lensChans rfl fun t ht c _ => by
      split
      · exact ht
      · exact ht
  have hord : LimitsOrdered u := limitsOrdered_setBank h.ordered fun k hk => Option.some.inj hk ▸ hm
  refine ⟨hord.of_eq hb.config (by rw [hlens]), fun i => by rw [hb.wheels]; exact h.carry i, fun c => ?_⟩
  rw [State.lo, State.hi, limits_applyChangedLimits, chan_applyChangedLimits]
  split
  · exact (h.fits c).withLimits
  next hn =>
    have he : u.limits c = s.limits c := by
      by_cases hc : c ∈ lensChans
      · exact (not_not.1 fun hne => hn ⟨hne, hc⟩).symm
      · rw [limits_other hc, limits_other hc]; rfl
    rw [he]
    exact h.fits c

theorem limitsHold_taken {j : Instr} (h : LimitsHold s) (ht : Taken j s t) : LimitsHold t := by
  have body : ∀ {u}, SameBody s u → u.lens.banks = s.lens.banks → u.lens.selected = s.lens.selected →
      (∀ c, SameSpot (s.chan c) (u.chan c)) → LimitsHold u := fun hb h1 h2 h3 => h.of_spots hb.config h1 h2 hb.wheels h3
  cases ht
  case notice k => rw [serveNoticeTimer_frame]; exact h.of_channels rfl rfl rfl rfl rfl
  case configSet k w low high order parked item => exact limitsHold_configSet h order
  case arm => exact limitsHold_enterCrane _ _ (limitsHold_startArmingSlot _ (h.of_channels rfl rfl rfl rfl rfl))
  case park => exact limitsHold_enterCrane _ _ (h.of_channels rfl rfl rfl rfl rfl)
  case jog => exact limitsHold_grant _ _ _ _ _ h
  case goto mask targets some nodup claims =>
    have h1 : LimitsHold (interruptMoves (fun c => (targets.map (·.1)).contains c) s) := by
      have hs := settled_eq_iff.1 (interruptMoves_settled s (fun c => (targets.map (·.1)).contains c))
      exact h.of_channels hs.1 (by simp) (by simp) hs.2.1 (by simp)
    have h2 := foldl_keeps (P := LimitsHold) (f := fun t p => grant .console .position none
      (Option.some (clampInt (s.lo p.1) (s.hi p.1) p.2)) p.1 t) targets h1 fun u hu p _ => limitsHold_grant _ _ _ _ _ hu
    exact h2.of_channels rfl rfl rfl rfl rfl
  case release hit console =>
    refine body (.trans (sameBody_mapChannels s _) (sameBody_interruptMoves _ _)) (by simp) (by simp) fun c => ?_
    rw [chan_interruptMoves, chan_mapChannels]
    split
    · exact sameSpot_release _
    · exact .refl _
  case wheelAssign w c gain =>
    have h1 := h.setWheel w (w := ⟨c, gain, 0, 0, none⟩) (by simp)
    unfold releaseWheelChannel
    split
    next d _ =>
      split
      · refine h1.of_spots rfl rfl rfl rfl fun e => ?_
        rw [chan_setChan]
        split
        next he => subst he; exact sameSpot_release _
        next => exact .refl _
      · exact h1
    next => exact h1
  case stop o => exact limitsHold_rise _ h
  case ackHalted => exact limitsHold_enterCrane _ _ (h.of_channels rfl rfl rfl rfl rfl)
  case ackTripped =>
    have hc := sameSpot_of_inhibits (chan_setInhibits (clearLatches s))
    refine limitsHold_enterCrane _ _ ?_
    rw [setInhibits_frame] at hc ⊢
    exact h.of_spots rfl rfl rfl rfl hc
  case ackParked =>
    have hc := sameSpot_of_inhibits (chan_setInhibits (clearLatches s))
    have h1 : LimitsHold (setInhibits (clearLatches s)) := by
      rw [setInhibits_frame] at hc ⊢
      exact h.of_spots rfl rfl rfl rfl hc
    have hs := settled_eq_iff.1 (raiseState_settled (setInhibits (clearLatches s)) ⟨.parked, none, .none⟩)
    exact h1.of_channels hs.1 (by simp) (by simp) hs.2.1 (by simp)
  case takeArm n t found ready idle cues some claims =>
    have hlens : (armTake t (channelSet s t.cues) s).lens.banks = s.lens.banks ∧
        (armTake t (channelSet s t.cues) s).lens.selected = s.lens.selected := by
      have hfold := foldl_keeps (P := fun u => u.lens.banks = s.lens.banks ∧ u.lens.selected = s.lens.selected)
        (f := fun u c => grant .take .path none none c u) (setChans (channelSet s t.cues))
        (s := interruptMoves (fun c => (channelSet s t.cues).get c && ((s.chan c).owner == .console)) s)
        ⟨by simp, by simp⟩ fun u hu c _ => ⟨by simpa [grant] using hu.1, by simpa [grant] using hu.2⟩
      obtain ⟨e, he⟩ := startCue_frame (lockedTake t (channelSet s t.cues) s)
      rw [armTake_eq, he]
      exact hfold
    refine body (sameBody_armTake s _ _) hlens.1 hlens.2 fun c => ?_
    rw [chan_armTake]
    split
    · exact sameSpot_grant ..
    · exact .refl _
  case play armed => exact limitsHold_engine.startPlay h (by simp [armed])
  case abort => exact limitsHold_endTake _ h
  case mapSet b m valid other => exact limitsHold_setBank_other h other fun k hk => Option.some.inj hk ▸ storedMap_ordered valid
  case mapSetSelected b m valid _ _ => exact limitsHold_changedMap h (storedMap_ordered valid)
  case mapRetire b other => exact limitsHold_setBank_other h other fun k hk => by cases hk
  case lensSelect => exact limitsHold_selectBank _ h
  case trackOn n map found claim =>
    have h1 := limitsHold_grant .track .position none (some (s.chan .focus).setpoint) .focus h
    have h2 : LimitsHold (setTracking (grant .track .position none (some (s.chan .focus).setpoint) .focus s)
      { (grant .track .position none (some (s.chan .focus).setpoint) .focus s).lens.tracking with target := some n }) :=
      h1.of_channels rfl rfl rfl rfl rfl
    exact (limitsHold_evaluateTracking h2).of_channels rfl rfl rfl rfl rfl
  case trackOff =>
    refine body (sameBody_trackOff s) ?_ ?_ fun c => ?_
    · rw [trackingOff_banks]; unfold releaseTracked; split <;> simp
    · rw [trackingOff_selected]; unfold releaseTracked; split <;> simp
    · rw [chan_trackOff]
      split
      · exact sameSpot_release _
      · exact .refl _
  all_goals exact h.of_channels rfl rfl rfl rfl rfl

theorem limitsHold_reset (warm : Bool) (cause : ResetCause) (straps : Straps) (h : LimitsHold s) :
    LimitsHold (performReset warm cause straps s) := by
  have fits : ∀ lo hi, Fits lo hi resetChannel := fun lo hi => ⟨by decide, by decide, fun h => by cases h⟩
  unfold performReset
  split
  · refine ⟨h.ordered.of_eq rfl rfl, fun i => ?_, fun c => ?_⟩
    · show ((PerFour.ofFn fun i => warmWheel (s.wheels.get i)).get i).carry < 256
      rw [PerFour.get_ofFn]; exact Nat.zero_lt_succ _
    · have hc : (warmReset cause straps s).chan c = resetChannel := PerChannel.get_ofFn _ c
      rw [hc]; exact fits _ _
  · refine ⟨limitsOrdered_reset.of_eq rfl rfl, fun i => ?_, fun c => ?_⟩
    · show (State.reset.wheels.get i).carry < 256
      rw [wheel_reset]; decide
    · have hc : (coldResetOf cause straps s).chan c = resetChannel := PerChannel.get_ofFn _ c
      rw [hc]; exact fits _ _

theorem limitsHold_effect {i : Instr} (h : LimitsHold s) (he : Effect i s t) : LimitsHold t := by
  cases he with
  | nothing => exact h
  | receiver => exact h.of_channels rfl rfl rfl rfl rfl
  | request j l receives =>
    exact request_keeps (fun _ _ h => h.of_channels rfl rfl rfl rfl rfl) (fun _ _ h => h.of_channels rfl rfl rfl rfl rfl)
      (fun _ _ _ h ht => limitsHold_taken h ht) j l receives h
  | timers => exact h.of_channels rfl rfl rfl rfl rfl
  | expiry k n =>
    have ht : LimitsHold { tickLinkTimers s with freeCount := n } := h.of_channels rfl rfl rfl rfl rfl
    rcases expireLink_cases k { tickLinkTimers s with freeCount := n } _ rfl with ⟨_, he⟩ | ⟨_, he⟩
    · rw [he]; exact ht.of_channels rfl rfl rfl rfl rfl
    · rw [he]; exact limitsHold_rise _ (ht.of_channels rfl rfl rfl rfl rfl)
  | event _ _ event => exact limitsHold_event h event
  | held => exact h.of_channels rfl rfl rfl rfl rfl
  | backup => exact h.of_channels rfl rfl rfl rfl rfl
  | reset warm cause straps p => exact limitsHold_reset warm cause straps (h.of_channels rfl rfl rfl rfl rfl)

/-- Settles O7: by what each command does to limits, wheels and the spots of the channels. -/
theorem stepsKeepLimitsAndOutside : Obligations.StepsKeepLimitsAndOutside := by
  intro s t h1 h2 h3 ht
  refine limitsHold_iff.1 (step_keeps (P := LimitsHold) (fun u q h => ?_) (fun i u v h he => limitsHold_effect h he)
    (limitsHold_iff.2 ⟨h1, h2, h3⟩) ht)
  exact h.of_channels rfl rfl rfl rfl rfl

end Limits

end Sys2Proof.Machine

/-! What every command keeps of modes, demands, targets, owners and open moves (R2, R18, R20, R27). -/

namespace Sys2Proof.Machine

/-! ## One channel -/

/-- R2, R18, R20: which of demand and target a channel holds by its mode, and its mode by its owner. -/
structure ModeFits (r : Channel) : Prop where
  demand : r.demand.isSome ↔ r.mode = .velocity
  target : r.target.isSome ↔ r.mode = .position
  holdStill : r.mode = .hold → r.velocity = 0
  unowned : r.owner = .none → r.mode = .hold ∨ (r.mode = .velocity ∧ r.demand = some 0)
  console : r.owner = .console → r.mode = .velocity ∨ r.mode = .position
  wheel : r.owner = .wheel → r.mode = .position
  take : r.owner = .take → r.mode = .path
  track : r.owner = .track → r.mode = .position
  stopDecel : r.stopDecel = true → r.owner = .none ∧ r.mode = .velocity

theorem modesAgree_iff {s : State} : ModesAgree s ↔ ∀ c, ModeFits (s.chan c) :=
  ⟨fun ⟨h1, h2, h3, h4, h5, h6, h7, h8, h9⟩ c => ⟨h1 c, h2 c, h3 c, h4 c, h5 c, h6 c, h7 c, h8 c, h9 c⟩,
    fun h => ⟨fun c => (h c).1, fun c => (h c).2, fun c => (h c).3, fun c => (h c).4, fun c => (h c).5, fun c => (h c).6,
      fun c => (h c).7, fun c => (h c).8, fun c => (h c).9⟩⟩

section Records

variable {r q : Channel}

/-- A channel in HOLD without an owner. -/
theorem modeFits_held (mode : r.mode = .hold) (velocity : r.velocity = 0) (demand : r.demand = none)
    (target : r.target = none) (owner : r.owner = .none) (decel : r.stopDecel = false) : ModeFits r := by
  constructor <;> simp [mode, velocity, demand, target, owner, decel]

/-- A channel without an owner that comes to rest. -/
theorem modeFits_stopping (mode : r.mode = .velocity) (demand : r.demand = some 0) (target : r.target = none)
    (owner : r.owner = .none) : ModeFits r := by
  constructor <;> simp [mode, demand, target, owner]

theorem modeFits_hold (h : r.owner = .none) : ModeFits (holdChannel r) := modeFits_held rfl rfl rfl rfl h rfl

theorem modeFits_off (r : Channel) : ModeFits (offRecord r) := modeFits_held rfl rfl rfl rfl rfl rfl

theorem modeFits_release (r : Channel) : ModeFits (releaseChannel r) := by
  unfold releaseChannel
  split
  · exact modeFits_held rfl rfl rfl rfl rfl rfl
  · exact modeFits_stopping rfl rfl rfl rfl

theorem modeFits_stop (r : Channel) : ModeFits (stopChannel r) := by
  unfold stopChannel
  split
  · exact modeFits_held rfl rfl rfl rfl rfl rfl
  · exact modeFits_stopping rfl rfl rfl rfl

theorem ModeFits.no_stopDecel (h : ModeFits r) (ho : r.owner ≠ .none) : r.stopDecel = false :=
  Bool.eq_false_iff.2 fun hs => ho (h.stopDecel hs).1

theorem ModeFits.rested (h : ModeFits r) (ho : r.owner = .console) : ModeFits (restedRecord r) := by
  have hs := h.no_stopDecel (by simp [ho])
  constructor <;> simp [restedRecord, ho, hs]

theorem modeFits_grant_velocity (d : Int) (r : Channel) : ModeFits (grantRecord .console .velocity (some d) none r) := by
  constructor <;> simp [grantRecord, partyOwner]

theorem modeFits_grant_path (r : Channel) : ModeFits (grantRecord .take .path none none r) := by
  constructor <;> simp [grantRecord, partyOwner]

theorem modeFits_grant_position {p : Party} (hp : p ≠ .take) (t : Int) (r : Channel) :
    ModeFits (grantRecord p .position none (some t) r) := by
  cases p
  case take => exact absurd rfl hp
  all_goals constructor <;> simp [grantRecord, partyOwner]

/-- Setpoint, flags, drive and what is known bear on nothing; nor does a velocity outside HOLD. -/
theorem ModeFits.of_eq (h : ModeFits r) (mode : q.mode = r.mode) (demand : q.demand = r.demand)
    (target : q.target.isSome = r.target.isSome) (owner : q.owner = r.owner)
    (velocity : q.mode = .hold → q.velocity = r.velocity) (decel : q.stopDecel = true → r.stopDecel = true) :
    ModeFits q := by
  obtain ⟨h1, h2, h3, h4, h5, h6, h7, h8, h9⟩ := h
  refine ⟨?_, ?_, fun hm => (velocity hm).trans (h3 (mode ▸ hm)), ?_, ?_, ?_, ?_, ?_, fun hs => ?_⟩
  · rw [demand, mode]; exact h1
  · rw [target, mode]; exact h2
  · rw [owner, mode, demand]; exact h4
  · rw [owner, mode]; exact h5
  · rw [owner, mode]; exact h6
  · rw [owner, mode]; exact h7
  · rw [owner, mode]; exact h8
  · rw [owner, mode]; exact h9 (decel hs)

theorem ModeFits.withLimits (h : ModeFits r) (lo hi : Int) : ModeFits (withLimits lo hi r) :=
  h.of_eq rfl rfl rfl rfl (fun _ => rfl) id

theorem ModeFits.inhibits (h : ModeFits r) (p m : Bool) : ModeFits { r with inhibitPlus := p, inhibitMinus := m } :=
  h.of_eq rfl rfl rfl rfl (fun _ => rfl) id

theorem ModeFits.settle (h : ModeFits r) : ModeFits (settle r) := by
  unfold Machine.settle
  split
  · split
    next ho => exact modeFits_hold ho
    next => exact h.of_eq rfl rfl rfl rfl (fun _ => rfl) nofun
  · exact h

/-- R3 to R9: a channel update keeps it, an owned drive being ACTIVE. -/
theorem ModeFits.profile (h : ModeFits r) (hd : r.owner ≠ .none → r.drive = .active) (c : Chan) (g : ChannelConfig)
    (lo hi : Int) (scale : Nat) (path : Option Int) : ModeFits (profile c g lo hi scale path r) := by
  unfold Machine.profile
  split
  next hn =>
    have ho : r.owner = .none := by_contra fun ho => hn (hd ho)
    unfold restChannel
    dsimp only
    split
    · exact (modeFits_hold ho).withLimits _ _
    · exact (modeFits_hold ho).of_eq rfl rfl rfl rfl (fun _ => rfl) id
  · split
    · exact h.withLimits _ _
    next hm =>
      refine ModeFits.settle ?_
      obtain ⟨x, f, v, l, he, -⟩ := advance_frame (lo := lo) (hi := hi) (stepSize g r)
        (boundDemand lo hi g.accel r (velocityDemand c g scale (r.demand.getD 0))) r
      rw [he]
      exact h.of_eq rfl rfl rfl rfl (fun hh => by cases hm.symm.trans hh) id
    next hm =>
      dsimp only
      refine ModeFits.settle ?_
      have hgoal : ∀ t, ModeFits { r with target := some t } := fun t =>
        h.of_eq rfl rfl (by simpa using (h.target.2 hm).symm) rfl (fun _ => rfl) id
      obtain ⟨x, f, v, l, he, -⟩ := advance_frame (lo := lo) (hi := hi) (stepSize g r)
        (boundDemand lo hi g.accel r
          (positionDemand c g scale (clampInt lo hi (r.target.getD r.setpoint)) r.setpoint))
        { r with target := some (clampInt lo hi (r.target.getD r.setpoint)) }
      rw [he]
      obtain ⟨x', f', v', p', he', -⟩ := arrive_frame g.accel (clampInt lo hi (r.target.getD r.setpoint))
        { r with target := some (clampInt lo hi (r.target.getD r.setpoint)), setpoint := x, fraction := f, velocity := v,
                 atLimit := l }
      rw [he']
      exact (hgoal _).of_eq rfl rfl rfl rfl (fun hh => by cases hm.symm.trans hh) id
    next hm =>
      split
      · exact h.of_eq rfl rfl rfl rfl (fun hh => by cases hm.symm.trans hh) id
      · exact h.of_eq rfl rfl rfl rfl (fun hh => by cases hm.symm.trans hh) id

/-- An update leaves the owner, and a console channel of an ACTIVE drive in its mode. -/
theorem profile_owner (c : Chan) (g : ChannelConfig) (lo hi : Int) (scale : Nat) (path : Option Int) (r : Channel) :
    (profile c g lo hi scale path r).owner = r.owner ∧ (profile c g lo hi scale path r).drive = r.drive ∧
      (r.drive = .active → r.owner ≠ .none → (profile c g lo hi scale path r).mode = r.mode) := by
  have hset : ∀ q : Channel, (settle q).owner = q.owner ∧ (settle q).drive = q.drive ∧
      (q.owner ≠ .none → (settle q).mode = q.mode) := fun q => by
    unfold settle
    split
    · split
      next ho => exact ⟨rfl, rfl, fun hn => absurd ho hn⟩
      next => exact ⟨rfl, rfl, fun _ => rfl⟩
    · exact ⟨rfl, rfl, fun _ => rfl⟩
  unfold profile
  split
  next hn =>
    refine ⟨?_, ?_, fun ha => absurd ha hn⟩
    all_goals unfold restChannel; dsimp only; split <;> rfl
  · split
    · exact ⟨rfl, rfl, fun _ _ => rfl⟩
    · obtain ⟨x, f, v, l, he, -⟩ := advance_frame (lo := lo) (hi := hi) (stepSize g r)
        (boundDemand lo hi g.accel r (velocityDemand c g scale (r.demand.getD 0))) r
      obtain ⟨h1, h2, h3⟩ := hset (withLimits lo hi
        { r with setpoint := x, fraction := f, velocity := v, atLimit := l })
      dsimp only
      rw [he]
      exact ⟨h1, h2, fun _ => h3⟩
    · dsimp only
      obtain ⟨x, f, v, l, he, -⟩ := advance_frame (lo := lo) (hi := hi) (stepSize g r)
        (boundDemand lo hi g.accel r
          (positionDemand c g scale (clampInt lo hi (r.target.getD r.setpoint)) r.setpoint))
        { r with target := some (clampInt lo hi (r.target.getD r.setpoint)) }
      obtain ⟨x', f', v', p', he', -⟩ := arrive_frame g.accel (clampInt lo hi (r.target.getD r.setpoint))
        { r with target := some (clampInt lo hi (r.target.getD r.setpoint)), setpoint := x, fraction := f, velocity := v,
                 atLimit := l }
      rw [he, he']
      obtain ⟨h1, h2, h3⟩ := hset (withLimits lo hi
        { r with target := some (clampInt lo hi (r.target.getD r.setpoint)), setpoint := x', fraction := f', velocity := v',
                 atLimit := l, inPosition := p' })
      exact ⟨h1, h2, fun _ => h3⟩
    · split <;> exact ⟨rfl, rfl, fun _ _ => rfl⟩

end Records

/-! ## The state -/

/-- R2, R18, R20, R27. -/
structure MotionAgrees (s : State) : Prop where
  modes : ∀ c, ModeFits (s.chan c)
  moves : MovesAgree s

/-- R3, R16: an owned drive is ACTIVE, and so is every drive in READY. -/
structure Powered (s : State) : Prop where
  owned : ∀ c, (s.chan c).owner ≠ .none → (s.chan c).drive = .active
  ready : s.crane.state = .ready → ∀ c, (s.chan c).drive = .active

section Motion

variable {s t : State}

theorem CraneAgrees.powered (h : CraneAgrees s) : Powered s := by
  refine ⟨h.ownedActive, fun hr c => ?_⟩
  have hd := h.drives c
  rw [DriveAgrees, hr] at hd
  exact hd.1

theorem Powered.of_eq (h : Powered s) (state : t.crane.state = s.crane.state) (channels : t.channels = s.channels) :
    Powered t := by
  have hc := chan_eq_of_channels channels
  refine ⟨fun c => ?_, fun hr c => ?_⟩
  · rw [hc]; exact h.owned c
  · rw [hc]; exact h.ready (state ▸ hr) c

/-- R16: a claim is granted on an ACTIVE drive alone. -/
theorem Powered.active_of_claim (h : Powered s) {p : Party} {moves : Bool} {c : Chan}
    (hc : claimCode p moves s c = none) : (s.chan c).drive = .active := by
  have ha : claimAllowed s c = true := by
    by_contra hn
    rw [claimCode, if_pos (by simpa using hn)] at hc
    cases hc
  unfold claimAllowed at ha
  split at ha
  · exact h.ready (by simpa using ha) c
  · simp only [Bool.or_eq_true, Bool.and_eq_true, beq_iff_eq] at ha
    rcases ha with hr | ⟨_, ha⟩
    · exact h.ready hr c
    · exact ha
  · simpa using ha

theorem Powered.grant (h : Powered s) {p : Party} {m : Mode} {d tg : Option Int} {c : Chan}
    (hc : (s.chan c).drive = .active) : Powered (grant p m d tg c s) := by
  constructor
  · intro e ho
    rw [chan_grant] at ho ⊢
    split
    next => exact hc
    next hne => rw [if_neg hne] at ho; exact h.owned e ho
  · intro hr e
    rw [grant_crane] at hr
    rw [chan_grant]
    split
    · exact hc
    · exact h.ready hr e

/-! ### Open moves -/

/-- Moves that hold one of some channels end; the others' console channels stay as they were in owner and mode. -/
theorem MovesAgree.of_left (h : MovesAgree s) (hit : Chan → Bool) (moves : t.moves = movesLeft hit s.moves)
    (kept : ∀ c, hit c = false → (s.chan c).owner = .console → (s.chan c).mode = .position →
      (t.chan c).owner = .console ∧ (t.chan c).mode = .position) : MovesAgree t := by
  obtain ⟨h1, h2, h3⟩ := h
  refine ⟨fun m hm c hc => ?_, fun m hm => ?_, ?_⟩
  · rw [moves, mem_movesLeft] at hm
    obtain ⟨ho, hp⟩ := h1 m hm.1 c hc
    exact kept c (hm.2 c hc) ho hp
  · rw [moves, mem_movesLeft] at hm
    exact h2 m hm.1
  · rw [moves]
    exact h3.sublist List.filter_sublist

/-- No move ends, and no console channel that is moved to a target changes owner or mode. -/
theorem MovesAgree.of_kept (h : MovesAgree s) (moves : t.moves = s.moves)
    (kept : ∀ c, (s.chan c).owner = .console → (s.chan c).mode = .position →
      (t.chan c).owner = .console ∧ (t.chan c).mode = .position) : MovesAgree t :=
  h.of_left (fun _ => false) (by rw [moves, movesLeft_of_none fun _ => rfl]) fun c _ => kept c

theorem MovesAgree.of_channels (h : MovesAgree s) (moves : t.moves = s.moves) (channels : t.channels = s.channels) :
    MovesAgree t := h.of_kept moves fun c ho hm => by rw [chan_eq_of_channels channels]; exact ⟨ho, hm⟩

theorem MotionAgrees.of_channels (h : MotionAgrees s) (moves : t.moves = s.moves) (channels : t.channels = s.channels) :
    MotionAgrees t :=
  ⟨fun c => by rw [chan_eq_of_channels channels]; exact h.modes c, h.moves.of_channels moves channels⟩

/-- What a change does channel by channel, the moves being the same. -/
theorem MotionAgrees.of_kept (h : MotionAgrees s) (moves : t.moves = s.moves) (modes : ∀ c, ModeFits (t.chan c))
    (kept : ∀ c, (s.chan c).owner = .console → (s.chan c).mode = .position →
      (t.chan c).owner = .console ∧ (t.chan c).mode = .position) : MotionAgrees t :=
  ⟨modes, h.moves.of_kept moves kept⟩

/-! ### Rises -/

theorem movesAgree_restFor (d : CauseDetail) (h : MovesAgree s) : MovesAgree (restFor d s) := by
  unfold restFor
  split
  · refine h.of_left (restHit s) (by rw [restLens_eq]; simp) fun c hc ho hm => ?_
    rw [chan_restLens, if_neg (by simp [hc])]
    exact ⟨ho, hm⟩
  · exact h

theorem movesAgree_entryA (h : MovesAgree s) : MovesAgree (entryA s) :=
  h.of_left (fun _ => true) (by simp [entryA, clearSequence]) nofun

theorem movesAgree_entryBReady (h : MovesAgree s) : MovesAgree (entryBReady s) := by
  refine h.of_left isBody ?_ fun c hc ho hm => ?_
  · simp only [entryBReady, enterCrane_moves, endTake_moves, interruptMoves_moves, mapChannels_moves]
  · rw [chan_entryBReady, if_neg (by simp [hc]), if_neg (by simp [ho])]
    exact ⟨ho, hm⟩

theorem movesAgree_stopLiveHead (h : MovesAgree s) : MovesAgree (stopLiveHead s) := by
  refine h.of_left (liveHead s) (by simp [stopLiveHead]) fun c hc ho hm => ?_
  rw [chan_stopLiveHead, if_neg (by simp [hc])]
  exact ⟨ho, hm⟩

theorem Noticed.channels {u : State} (h : Noticed u t) : t.channels = u.channels ∧ t.moves = u.moves := by
  obtain rfl | rfl := h <;> simp

theorem movesAgree_rise (d : CauseDetail) (h : MovesAgree s) : MovesAgree (rise d s) := by
  have hl : MovesAgree (latchCause d s) := h.of_channels (by simp) (by simp)
  have hv := movesAgree_restFor d hl
  have hr := rise_risen d s
  revert hr
  generalize rise d s = t
  intro hr
  cases hr with
  | ignored => exact h
  | trips => exact movesAgree_entryA hl
  | stops => exact movesAgree_entryBReady hv
  | parks =>
    refine (movesAgree_stopLiveHead hv).of_channels ?_ ?_
    · simp only [entryBArming, enterCrane_moves, startParkingSlot]
    · simp only [entryBArming, enterCrane_channels, startParkingSlot]
  | stays _ _ t told =>
    exact (movesAgree_stopLiveHead hv).of_channels told.channels.2 told.channels.1
  | latched _ t told => exact hv.of_channels told.channels.2 told.channels.1

theorem motionAgrees_rise (d : CauseDetail) (h : MotionAgrees s) : MotionAgrees (rise d s) :=
  ⟨fun c => rise_chan (P := ModeFits) s d c (h.modes c) (fun r _ => modeFits_off r) (fun r _ => modeFits_stop r)
      (fun r _ => modeFits_release r) fun _ hr ho _ => hr.rested ho,
    movesAgree_rise d h.moves⟩

theorem motionAgrees_enterCrane (st : CraneState) (x : StateExtra) (h : MotionAgrees s) :
    MotionAgrees (enterCrane st x s) := h.of_channels (by simp) (by simp)

/-! ### The end of a play, claims -/

theorem motionAgrees_endTake (r : TakeResult) (h : MotionAgrees s) : MotionAgrees (endTake r s) := by
  refine h.of_kept (by simp) (fun c => ?_) fun c ho hm => ?_
  · rw [chan_endTake]
    split
    · exact modeFits_release _
    · exact h.modes c
  · rw [chan_endTake, if_neg (by simp [ho])]
    exact ⟨ho, hm⟩

theorem motionAgrees_engine : EngineKeeps MotionAgrees where
  engine _ _ h _ _ := h.of_channels rfl rfl
  tells _ h := h.of_channels rfl rfl
  ends _ r h := motionAgrees_endTake r h

/-- R18, R27: the moves after a grant: those of the channel end, if CONSOLE loses it. -/
theorem grant_moves (p : Party) (m : Mode) (d tg : Option Int) (c : Chan) (s : State) : (grant p m d tg c s).moves =
    if (s.chan c).owner = .console then movesLeft (fun e => e == c) s.moves else s.moves := by
  unfold grant reportLoss
  split
  next ho => simp [ho]
  next ho => split <;> simp [ho]
  next ho => split <;> simp [ho]
  next ho => simp [ho]
  next ho => simp [ho]

theorem movesAgree_grant (p : Party) (m : Mode) (d tg : Option Int) (c : Chan) (h : MovesAgree s) :
    MovesAgree (grant p m d tg c s) := by
  have hk : ∀ e, e ≠ c → (grant p m d tg c s).chan e = s.chan e := fun e he => by rw [chan_grant, if_neg he]
  have hm := grant_moves p m d tg c s
  split at hm
  · exact h.of_left (fun e => e == c) hm fun e he ho hp => by rw [hk e (by simpa using he)]; exact ⟨ho, hp⟩
  next hn =>
    refine h.of_kept hm fun e ho hp => ?_
    rw [hk e fun he => hn (he ▸ ho)]
    exact ⟨ho, hp⟩

theorem motionAgrees_grant {p : Party} {m : Mode} {d tg : Option Int} {c : Chan} (h : MotionAgrees s)
    (hr : ModeFits (grantRecord p m d tg (s.chan c))) : MotionAgrees (grant p m d tg c s) := by
  refine ⟨fun e => ?_, movesAgree_grant _ _ _ _ _ h.moves⟩
  rw [chan_grant]
  split
  · exact hr
  · exact h.modes e

theorem motionAgrees_interrupt (hit : Chan → Bool) (h : MotionAgrees s) : MotionAgrees (interruptMoves hit s) :=
  ⟨fun c => by rw [chan_interruptMoves]; exact h.modes c,
    h.moves.of_left hit (by simp) fun c _ ho hm => by rw [chan_interruptMoves]; exact ⟨ho, hm⟩⟩

/-- Channels of some set are released, and the moves that hold one of them end. -/
theorem motionAgrees_released {hit : Chan → Bool} (h : MotionAgrees s) (moves : t.moves = movesLeft hit s.moves)
    (chans : ∀ c, t.chan c = if hit c = true then releaseChannel (s.chan c) else s.chan c) : MotionAgrees t := by
  refine ⟨fun c => ?_, h.moves.of_left hit moves fun c hc ho hm => ?_⟩
  · rw [chans]
    split
    · exact modeFits_release _
    · exact h.modes c
  · rw [chans, if_neg (by simp [hc])]
    exact ⟨ho, hm⟩

/-- R26, R27: GOTO opens a move of its channels. -/
theorem motionAgrees_goto {mask : ChannelMask} {targets : List (Chan × Int)} (some : targets ≠ [])
    (nodup : (targets.map (·.1)).Nodup) (h : MotionAgrees s) : MotionAgrees (gotoOpened mask targets s) := by
  set hit : Chan → Bool := fun c => (targets.map (·.1)).contains c with hhit
  set u := targets.foldl (fun t p => grant .console .position none (Option.some (clampInt (s.lo p.1) (s.hi p.1) p.2)) p.1 t)
    (interruptMoves hit s) with hu
  have hfold : MotionAgrees u ∧ ∀ m ∈ u.moves, m ∈ movesLeft hit s.moves := by
    refine foldl_keeps (P := fun u => MotionAgrees u ∧ ∀ m ∈ u.moves, m ∈ movesLeft hit s.moves) targets
      ⟨motionAgrees_interrupt hit h, by simp⟩ fun v hv p _ => ⟨motionAgrees_grant hv.1
        (modeFits_grant_position (by simp) _ _), fun m hm => hv.2 m ?_⟩
    rw [grant_moves] at hm
    split at hm
    · exact (mem_movesLeft.1 hm).1
    · exact hm
  obtain ⟨hmo, hleft⟩ := hfold
  have hnew : ∀ c, (PerChannel.ofFn hit).get c = true ↔ c ∈ targets.map (·.1) := fun c => by simp [hhit]
  have hch : ∀ c, (gotoOpened mask targets s).chan c = u.chan c := fun c => rfl
  have hmem : ∀ m ∈ (gotoOpened mask targets s).moves, m ∈ u.moves ∨ m = ⟨mask, .ofFn hit⟩ := fun m hm =>
    (List.mem_append.1 hm).imp id List.mem_singleton.1
  refine ⟨fun c => by rw [hch]; exact hmo.modes c, fun m hm c hc => ?_, fun m hm => ?_, ?_⟩
  · rcases hmem m hm with hm | rfl
    · rw [hch]; exact hmo.moves.members m hm c hc
    · obtain ⟨p, hp, rfl⟩ := List.mem_map.1 ((hnew c).1 hc)
      rw [chan_gotoOpened_mem s mask nodup hp]
      exact ⟨rfl, rfl⟩
  · rcases hmem m hm with hm | rfl
    · exact hmo.moves.nonempty m hm
    · obtain ⟨p, hp⟩ := List.exists_mem_of_ne_nil _ some
      exact ⟨p.1, (hnew _).2 (List.mem_map_of_mem hp)⟩
  · show (u.moves ++ [ConsoleMove.mk mask (.ofFn hit)]).Pairwise _
    refine List.pairwise_append.2 ⟨hmo.moves.disjoint, List.pairwise_singleton _ _, fun m hm k hk c hc => ?_⟩
    rw [List.mem_singleton.1 hk] at hc
    have := (mem_movesLeft.1 (hleft m hm)).2 c hc.1
    rw [PerChannel.get_ofFn] at hc
    simp [this] at hc

theorem motionAgrees_armTake (t : Take) (set : PerChannel Bool) (h : MotionAgrees s) : MotionAgrees (armTake t set s) := by
  have hg : MotionAgrees (grantedTake set s) :=
    foldl_keeps _ (motionAgrees_interrupt _ h) fun u hu c _ => motionAgrees_grant hu (modeFits_grant_path _)
  obtain ⟨e, he⟩ := startCue_frame (lockedTake t set s)
  rw [armTake_eq, he]
  exact hg.of_channels rfl rfl

/-! ### The channel update -/

theorem motionAgrees_handOver (i : Fin 4) (h : MotionAgrees s ∧ Powered s) :
    MotionAgrees (handOver i s) ∧ Powered (handOver i s) := by
  have hw : ∀ w, MotionAgrees { s with wheels := s.wheels.set i w } ∧ Powered { s with wheels := s.wheels.set i w } :=
    fun w => ⟨h.1.of_channels rfl rfl, h.2.of_eq rfl rfl⟩
  unfold handOver
  dsimp only
  split
  · exact hw _
  · split
    · exact hw _
    · split
      · exact hw _
      next hc => exact ⟨motionAgrees_grant (hw _).1 (modeFits_grant_position (by simp) _ _),
          (hw _).2.grant (h.2.active_of_claim hc)⟩

theorem reachMove_moves (c : Chan) (s : State) : (reachMove c s).moves =
    (s.moves.map fun m => { m with remaining := m.remaining.set c false }).filter fun m => !setEmpty m.remaining := by
  simp only [reachMove, foldl_raiseMove_moves]

/-- R27: a channel that leaves its move as reached. -/
theorem movesAgree_reachMove (c : Chan) (h : MovesAgree s) : MovesAgree (reachMove c s) := by
  have hch : ∀ e, (reachMove c s).chan e = s.chan e := chan_eq_of_channels (reachMove_channels s c)
  have hmem : ∀ m ∈ (reachMove c s).moves, setEmpty m.remaining = false ∧
      ∃ k ∈ s.moves, ∀ e, m.remaining.get e = true → k.remaining.get e = true := fun m hm => by
    rw [reachMove_moves, List.mem_filter] at hm
    obtain ⟨k, hk, rfl⟩ := List.mem_map.1 hm.1
    refine ⟨by simpa using hm.2, k, hk, fun e he => ?_⟩
    rw [PerChannel.get_set] at he
    split at he
    · cases he
    · exact he
  refine ⟨fun m hm e he => ?_, fun m hm => setEmpty_false_iff.1 (hmem m hm).1, ?_⟩
  · obtain ⟨-, k, hk, hke⟩ := hmem m hm
    rw [hch]
    exact h.members k hk e (hke e he)
  · rw [reachMove_moves]
    refine List.Pairwise.filter _ (List.pairwise_map.2 (h.disjoint.imp fun hd e he => hd e ?_))
    simp only [PerChannel.get_set] at he
    split at he
    · exact absurd he.1 (by simp)
    · exact he

theorem motionAgrees_updated (h : MotionAgrees s) (hp : Powered s) : MotionAgrees (updated s) := by
  obtain ⟨h1, hp1⟩ : MotionAgrees (handOverAll s) ∧ Powered (handOverAll s) :=
    motionAgrees_handOver 3 (motionAgrees_handOver 2 (motionAgrees_handOver 1 (motionAgrees_handOver 0 ⟨h, hp⟩)))
  have h2 : MotionAgrees (runProfiles (handOverAll s)) := by
    refine h1.of_kept rfl (fun c => ?_) fun c ho hm => ?_
    · rw [chan_runProfiles]
      exact (h1.modes c).profile (hp1.owned c) _ _ _ _ _ _
    · have hn : ((handOverAll s).chan c).owner ≠ .none := by simp [ho]
      rw [chan_runProfiles]
      obtain ⟨k1, -, k3⟩ := profile_owner c ((handOverAll s).cfg c) ((handOverAll s).lo c) ((handOverAll s).hi c)
        (handOverAll s).zoneMonitor.scale ((handOverAll s).engine.path.get c) ((handOverAll s).chan c)
      exact ⟨k1.trans ho, (k3 (hp1.owned c hn) hn).trans hm⟩
  have h3 : MotionAgrees (reachMoves (runProfiles (handOverAll s))) := by
    refine foldl_keeps _ h2 fun u hu c _ => ?_
    split
    · exact ⟨fun e => by rw [chan_eq_of_channels (reachMove_channels u c)]; exact hu.modes e,
        movesAgree_reachMove c hu.moves⟩
    · exact hu
  refine h3.of_kept rfl (fun c => ?_) fun c ho hm => ?_
  · rw [updated, releaseIdle, chan_mapChannels]
    split
    · exact modeFits_release _
    · exact h3.modes c
  · rw [updated, releaseIdle, chan_mapChannels, if_neg (by simp [ho])]
    exact ⟨ho, hm⟩

/-! ### The exchange -/

/-- A rise of category A trips the crane, or finds it tripped. -/
theorem rise_trips {d : CauseDetail} (h : categoryA (causeOf d) = true) : (rise d s).crane.state = .tripped := by
  have hr := rise_risen d s
  revert hr
  generalize rise d s = t
  intro hr
  cases hr with
  | ignored zone => rw [zone] at h; cases h
  | trips => exact entryA_state _
  | stops b => rw [b] at h; cases h
  | parks b => rw [b] at h; cases h
  | stays b => rw [b] at h; cases h
  | latched state t told =>
    rw [told.crane]
    rcases state with hs | ⟨hb, _⟩
    · simpa using hs
    · rw [hb] at h; cases h

/-- An exchange by which DRIVE rises leaves the crane TRIPPED. -/
theorem driveExchange_trips (replies : PerChannel (Option (List Byte))) {c : Chan} {k : DriveKind}
    (hc : exchangeRise s replies c = some k) : (driveExchange replies s).crane.state = .tripped := by
  have trip : ∀ (l : List Chan) (u : State), (c ∈ l ∨ u.crane.state = .tripped) →
      (l.foldl (fun t c => match exchangeRise s replies c with
        | some k => rise (.drive c k) t
        | none => t) u).crane.state = .tripped := by
    intro l
    induction l with
    | nil => exact fun u h => h.resolve_left (by simp)
    | cons d l ih =>
      intro u h
      rw [List.foldl_cons]
      refine ih _ ?_
      cases hd : exchangeRise s replies d with
      | some k => exact .inr (rise_trips rfl)
      | none =>
        refine h.imp (fun hm => (List.mem_cons.1 hm).resolve_left fun he => ?_) id
        rw [he, hd] at hc
        cases hc
  exact trip allChans _ (.inl (mem_allChans c))

/-- An exchange without a rise of DRIVE leaves every drive that was and could stay ACTIVE so. -/
theorem exchange_stays (h : CraneAgrees s) {replies : PerChannel (Option (List Byte))}
    (quiet : ∀ c, exchangeRise s replies c = none) {c : Chan} (ho : (s.chan c).owner ≠ .none) :
    ∃ fb kn st fp, exchangeRecord s replies c =
      { s.chan c with feedback := fb, known := kn, stale := st, faultPresent := fp } := by
  have hact := h.ownedActive c ho
  have hcom := h.activeCommanded c hact
  have hq := quiet c
  unfold exchangeRise at hq
  unfold exchangeRecord
  cases hg : goodReply c (replies.get c) with
  | none => exact ⟨(s.chan c).feedback, (s.chan c).known, _, (s.chan c).faultPresent, rfl⟩
  | some p =>
    obtain ⟨st, fb⟩ := p
    rw [hg] at hq
    cases st with
    | fault =>
      have hf : (s.chan c).faultPresent = true := by
        by_contra hf
        simp [replyRise, hf] at hq
      have ht := h.faultTrips c hf
      have hd := h.drives c
      rw [DriveAgrees, ht] at hd
      exact absurd hd.2.1 ho
    | off => simp [replyRise, hact, hcom] at hq
    | busy => simp [replyRise, hact, hcom] at hq
    | active =>
      refine ⟨fb, true, 0, false, ?_⟩
      simp [takeGoodReply, nextDrive, hact, hcom]

theorem motionAgrees_exchanged {replies : PerChannel (Option (List Byte))} (h : MotionAgrees s)
    (stays : ∀ c, (s.chan c).owner ≠ .none → ∃ fb kn st fp, exchangeRecord s replies c =
      { s.chan c with feedback := fb, known := kn, stale := st, faultPresent := fp }) :
    MotionAgrees (exchanged replies s) := by
  have hch : ∀ c, (exchanged replies s).chan c = exchangeRecord s replies c := fun c => PerChannel.get_ofFn _ c
  refine h.of_kept rfl (fun c => ?_) fun c ho hm => ?_
  · rw [hch]
    by_cases ho : (s.chan c).owner = .none
    · unfold exchangeRecord
      split
      · unfold takeGoodReply
        dsimp only
        split
        · exact (h.modes c).of_eq rfl rfl rfl rfl (fun _ => rfl) id
        · exact modeFits_held rfl rfl rfl rfl ho rfl
      · exact (h.modes c).of_eq rfl rfl rfl rfl (fun _ => rfl) id
    · obtain ⟨fb, kn, st, fp, hr⟩ := stays c ho
      rw [hr]
      exact (h.modes c).of_eq rfl rfl rfl rfl (fun _ => rfl) id
  · obtain ⟨fb, kn, st, fp, hr⟩ := stays c (by simp [ho])
    rw [hch, hr]
    exact ⟨ho, hm⟩

/-- A rise ends the moves of the lens channels that it brings to rest, and then only ends more. -/
theorem rise_moves_rested (d : CauseDetail) (s : State) :
    (rise d s).moves.Sublist (restFor d (latchCause d s)).moves := by
  have left : ∀ hit (ms : List ConsoleMove), (movesLeft hit ms).Sublist ms := fun hit ms => List.filter_sublist
  have hs : (stopLiveHead (restFor d (latchCause d s))).moves.Sublist (restFor d (latchCause d s)).moves := by
    simpa only [stopLiveHead, interruptMoves_moves, mapChannels_moves] using left _ _
  have hr := rise_risen d s
  revert hr
  generalize rise d s = t
  intro hr
  cases hr with
  | ignored zone => simp [restFor, zone]
  | trips a => rw [restFor_of_categoryA d _ a]; simpa [entryA, clearSequence] using left _ _
  | stops =>
    simp only [entryBReady, enterCrane_moves, endTake_moves, interruptMoves_moves, mapChannels_moves]
    exact left _ _
  | parks => simpa [entryBArming, startParkingSlot] using hs
  | stays _ _ t told => rw [told.channels.2]; exact hs
  | latched _ t told => rw [told.channels.2]

/-- Moves only end by a rise. -/
theorem rise_moves_sublist (d : CauseDetail) (s : State) : (rise d s).moves.Sublist s.moves := by
  refine (rise_moves_rested d s).trans ?_
  unfold restFor
  split
  · rw [restLens_eq, interruptMoves_moves, mapChannels_moves, latchCause_moves]
    exact List.filter_sublist
  · rw [latchCause_moves]

/-- A trip leaves no move open, and every channel in HOLD. -/
theorem Dropped.motionAgrees (h : Dropped t) (hm : t.moves.Sublist s.moves)
    (nonempty : ∀ m ∈ s.moves, ∃ c, m.remaining.get c = true) : MotionAgrees t := by
  have hnil : t.moves = [] := List.eq_nil_iff_forall_not_mem.2 fun m hmt => by
    obtain ⟨c, hc⟩ := nonempty m (hm.subset hmt)
    rw [h.moves m hmt c] at hc
    cases hc
  refine ⟨fun c => ?_, ⟨by simp [hnil], by simp [hnil], by simp [hnil]⟩⟩
  obtain ⟨-, -, owner, mode, velocity, demand, target⟩ := h.channels c
  exact modeFits_held mode velocity demand target owner (h.stopDecel c)

theorem motionAgrees_exchange (replies : PerChannel (Option (List Byte))) (hc : CraneAgrees s) (h : MotionAgrees s) :
    MotionAgrees (driveExchange replies s) := by
  by_cases hq : ∀ c, exchangeRise s replies c = none
  · refine driveExchange_keeps (P := MotionAgrees) replies ?_ fun c k u hu => motionAgrees_rise _ hu
    exact motionAgrees_exchanged h fun c ho => exchange_stays hc hq ho
  · by_cases ht : s.crane.state = .tripped
    · refine driveExchange_keeps (P := MotionAgrees) replies ?_ fun c k u hu => motionAgrees_rise _ hu
      refine motionAgrees_exchanged h fun c ho => ?_
      have hd := hc.drives c
      rw [DriveAgrees, ht] at hd
      exact absurd hd.2.1 ho
    · push Not at hq
      obtain ⟨c, hne⟩ := hq
      obtain ⟨k, hk⟩ := Option.ne_none_iff_exists'.1 hne
      have hfall : Falls s (driveExchange replies s) ∧ (driveExchange replies s).moves.Sublist s.moves :=
        driveExchange_keeps (P := fun u => Falls s u ∧ u.moves.Sublist s.moves) replies
          ⟨⟨fun h => absurd h ht, .inl⟩, .refl _⟩ fun c k u hu =>
            ⟨falls_rise _ hu.1 (.inl (by simp [causeOf])), (rise_moves_sublist _ u).trans hu.2⟩
      exact (hfall.1.tripped (driveExchange_trips replies hk)).motionAgrees hfall.2 h.moves.nonempty

/-! ### Slots, tracking, requests -/

theorem motionAgrees_startArmingSlot (n : Nat) (hp : Powered s) (h : MotionAgrees s) :
    MotionAgrees (startArmingSlot n s) := by
  have hch : ∀ c, (startArmingSlot n s).chan c =
      if inSlot s n c = true ∧ (s.chan c).drive ≠ .active then enableChannel (s.lo c) (s.hi c) (s.chan c) else s.chan c :=
    fun c => chan_mapChannels s c _
  refine h.of_kept rfl (fun c => ?_) fun c ho hm => ?_
  · rw [hch]
    split
    next hn =>
      have ho : (s.chan c).owner = .none := by_contra fun ho => hn.2 (hp.owned c ho)
      exact modeFits_held rfl rfl rfl rfl ho rfl
    next => exact h.modes c
  · have ha : (s.chan c).drive = .active := hp.owned c (by simp [ho])
    rw [hch, if_neg (by simp [ha])]
    exact ⟨ho, hm⟩

theorem parkedOff_moves (n : Nat) (s : State) : (parkedOff n s).moves = movesLeft (parksOff s n) s.moves := by
  unfold parkedOff
  dsimp only
  split <;> simp

theorem motionAgrees_parkedOff (n : Nat) (h : MotionAgrees s) : MotionAgrees (parkedOff n s) := by
  refine ⟨fun c => ?_, h.moves.of_left (parksOff s n) (parkedOff_moves n s) fun c hc ho hm => ?_⟩
  · rw [chan_parkedOff]
    split
    · exact modeFits_off _
    · exact h.modes c
  · rw [chan_parkedOff, if_neg (by simp [hc])]
    exact ⟨ho, hm⟩

theorem motionAgrees_slot (hp : Powered s) (h : MotionAgrees s) (hs : SlotStep s t) : MotionAgrees t := by
  cases hs with
  | none => exact h
  | tick => exact h.of_channels rfl rfl
  | armFail => exact motionAgrees_enterCrane _ _ (h.of_channels rfl rfl)
  | nextUp => exact motionAgrees_startArmingSlot _ hp h
  | ready => exact motionAgrees_enterCrane _ _ (h.of_channels rfl rfl)
  | nextDown n k => exact (motionAgrees_parkedOff n h).of_channels rfl rfl
  | parked n => exact motionAgrees_enterCrane _ _ ((motionAgrees_parkedOff n h).of_channels rfl rfl)

/-- R168: a target written for FOCUS, which TRACK owns. -/
theorem motionAgrees_focus (h : MotionAgrees s) (hc : ∀ c, t.chan c = s.chan c ∨
    (c = .focus ∧ (s.chan c).owner = .track ∧ ∃ n, t.chan c = { s.chan c with target := some n })) (hm : t.moves = s.moves) :
    MotionAgrees t := by
  refine h.of_kept hm (fun c => ?_) fun c ho hp => ?_
  · rcases hc c with hc | ⟨-, ho, n, hc⟩
    · rw [hc]; exact h.modes c
    · rw [hc]
      have ht := (h.modes c).target.2 ((h.modes c).track ho)
      exact (h.modes c).of_eq rfl rfl ht.symm rfl (fun _ => rfl) id
  · rcases hc c with hc | ⟨-, ht, -⟩
    · rw [hc]; exact ⟨ho, hp⟩
    · rw [ho] at ht; cases ht

theorem evaluateTracking_moves (s : State) : (evaluateTracking s).moves = s.moves := by
  obtain ⟨k, hk | ⟨n, hk⟩⟩ := evaluateTracking_frame s
  · rw [hk]; rfl
  · rw [hk]; unfold writeFocus; split <;> rfl

theorem lensUpdate_moves (s : State) : (lensUpdate s).moves = s.moves := by
  unfold lensUpdate trackUpdate
  split
  · rfl
  · dsimp only
    split
    · exact evaluateTracking_moves (setTargets s (s.lens.targets.map ageTarget))
    · exact evaluateTracking_moves (setTargets s (s.lens.targets.map ageTarget))

theorem motionAgrees_inhibits (hc : SameButInhibits s t) (hm : t.moves = s.moves) (h : MotionAgrees s) : MotionAgrees t := by
  refine h.of_kept hm (fun c => ?_) fun c ho hp => ?_
  all_goals
    obtain ⟨p, m, hc⟩ := hc c
    rw [hc]
  · exact (h.modes c).inhibits p m
  · exact ⟨ho, hp⟩

/-- R10: limits that act on some channels. -/
theorem motionAgrees_limits {lo hi : Chan → Int} {p : Chan → Prop} [DecidablePred p] (h : MotionAgrees s)
    (hc : ∀ c, t.chan c = if p c then withLimits (lo c) (hi c) (s.chan c) else s.chan c) (hm : t.moves = s.moves) :
    MotionAgrees t := by
  refine h.of_kept hm (fun c => ?_) fun c ho hp => ?_
  all_goals
    rw [hc]
    split
  · exact (h.modes c).withLimits _ _
  · exact h.modes c
  · exact ⟨ho, hp⟩
  · exact ⟨ho, hp⟩

theorem applyChangedLimits_moves (s before : State) : (applyChangedLimits before s).moves = s.moves :=
  foldl_keeps (P := fun t => t.moves = s.moves) lensChans rfl fun t ht c _ => by
    split
    · exact ht
    · exact ht

theorem motionAgrees_sample : SampleKeeps MotionAgrees where
  input _ h := h.of_channels rfl rfl
  stops _ _ h _ _ := h.of_channels rfl rfl
  channels u h := motionAgrees_inhibits (chan_clearInhibits u) (by rw [clearInhibits_frame]) h
  rises d _ h _ := motionAgrees_rise d h

theorem motionAgrees_event (hc : CraneAgrees s) (h : MotionAgrees s) (he : Event s t) : MotionAgrees t := by
  cases he with
  | channelUpdate =>
    have hu := motionAgrees_updated h hc.powered
    rw [channelUpdate_eq]
    rcases checkStandstill_cases (updated s) with he | ⟨_, _, he⟩
    · rw [he]; exact hu
    · rw [he]
      refine motionAgrees_enterCrane _ _ (hu.of_kept rfl (fun c => ?_) fun c ho hm => ?_)
      all_goals rw [chan_mapChannels]
      · exact (hu.modes c).of_eq rfl rfl rfl rfl (fun _ => rfl) nofun
      · exact ⟨ho, hm⟩
  | driveExchange r => exact motionAgrees_exchange r hc h
  | slotEvent => exact motionAgrees_slot hc.powered h (slotEvent_step s)
  | zoneEvaluation =>
    have he : MotionAgrees (evaluated s) := h.of_channels rfl rfl
    exact zoneEvaluation_keeps he (fun n => motionAgrees_rise _ he) fun d u hu => hu.of_channels (by simp) (by simp)
  | inputSample x => exact motionAgrees_sample.inputSample x h
  | frameEdge =>
    obtain ⟨f, n, hf⟩ := renewFrame_frame s
    have hr : MotionAgrees (renewFrame s) := by rw [hf]; exact h.of_channels rfl rfl
    rcases frameEdge_cases s with he | ⟨hw, he⟩
    · rw [he]; exact hr
    · rw [he]; exact motionAgrees_engine.startPlay hr (by rw [hf]; simp [hw])
  | presenceSample v => rw [presenceSample_frame]; exact h.of_channels rfl rfl
  | engineMillisecond => exact motionAgrees_engine.engineMillisecond h
  | lensUpdate => exact motionAgrees_focus h (chan_lensUpdate s) (lensUpdate_moves s)
  | wheelEdge w up => exact h.of_channels rfl rfl
  | geometryUpdate => exact h.of_channels rfl rfl

theorem motionAgrees_taken {j : Instr} (hp : Powered s) (h : MotionAgrees s) (ht : Taken j s t) : MotionAgrees t := by
  cases ht
  case notice k => rw [serveNoticeTimer_frame]; exact h.of_channels rfl rfl
  case configSet k w low high order parked item =>
    exact motionAgrees_limits (s := { s with config := storeItem s.config k w }) (h.of_channels rfl rfl)
      (chan_actOnWrite k _) (by rw [actOnWrite_frame])
  case arm =>
    exact motionAgrees_enterCrane _ _ (motionAgrees_startArmingSlot _ (hp.of_eq rfl rfl) (h.of_channels rfl rfl))
  case park => exact motionAgrees_enterCrane _ _ (h.of_channels rfl rfl)
  case jog c d claim => exact motionAgrees_grant h (modeFits_grant_velocity d _)
  case goto mask targets some nodup claims => exact motionAgrees_goto some nodup h
  case release hit console => exact motionAgrees_released (hit := hit) h (by simp) fun c => by simp
  case wheelAssign w c gain =>
    unfold releaseWheelChannel
    split
    next d _ =>
      split
      next hw =>
        refine h.of_kept rfl (fun e => ?_) fun e ho hm => ?_
        · rw [chan_setChan]
          split
          · exact modeFits_release _
          · exact h.modes e
        · rw [chan_setChan]
          split
          next he => rw [he] at ho; cases ho.symm.trans hw
          next => exact ⟨ho, hm⟩
      next => exact h.of_channels rfl rfl
    next => exact h.of_channels rfl rfl
  case stop o => exact motionAgrees_rise _ h
  case ackHalted => exact motionAgrees_enterCrane _ _ (h.of_channels rfl rfl)
  case ackTripped =>
    exact motionAgrees_enterCrane _ _ (motionAgrees_inhibits (s := s) (chan_setInhibits (clearLatches s))
      (by rw [setInhibits_frame]; rfl) h)
  case ackParked =>
    have h1 := motionAgrees_inhibits (s := s) (chan_setInhibits (clearLatches s)) (by rw [setInhibits_frame]; rfl) h
    exact h1.of_channels (by simp) (by simp)
  case takeArm n t found ready idle cues some claims => exact motionAgrees_armTake _ _ h
  case play armed => exact motionAgrees_engine.startPlay h (by simp [armed])
  case abort => exact motionAgrees_endTake _ h
  case mapSetSelected b m valid _ _ =>
    exact motionAgrees_limits (s := setBanks s (s.lens.banks.set b (some (storedMap m)))) (h.of_channels rfl rfl)
      (fun c => chan_applyChangedLimits _ s c) (applyChangedLimits_moves _ s)
  case lensSelect b held free => exact motionAgrees_limits h (chan_selectBank s b) rfl
  case trackOn n map found claim =>
    have h1 := motionAgrees_grant h (modeFits_grant_position (p := .track) (by simp) (s.chan .focus).setpoint (s.chan .focus))
    have h2 : MotionAgrees (setTracking (grant .track .position none (some (s.chan .focus).setpoint) .focus s)
      { (grant .track .position none (some (s.chan .focus).setpoint) .focus s).lens.tracking with target := some n }) :=
      h1.of_channels rfl rfl
    exact (motionAgrees_focus h2 (chan_evaluateTracking _) (evaluateTracking_moves _)).of_channels rfl rfl
  case trackOff =>
    have h1 : MotionAgrees (releaseTracked s) := by
      unfold releaseTracked
      split
      · refine motionAgrees_released (hit := fun d => d == .focus) h (by simp [releaseOwner]) fun c => ?_
        rw [chan_releaseOwner]
        by_cases hc : c = .focus <;> simp [hc]
      · exact h
    exact h1.of_channels (by simp) (by simp)
  all_goals exact h.of_channels rfl rfl

theorem motionAgrees_reset (warm : Bool) (cause : ResetCause) (straps : Straps) :
    MotionAgrees (performReset warm cause straps s) := by
  have hr : MotionAgrees .reset := ⟨modesAgree_iff.1 modesAgree_reset, movesAgree_reset⟩
  unfold performReset
  split <;> exact hr.of_channels rfl rfl

theorem motionAgrees_effect {i : Instr} (hc : s.running = true → CraneAgrees s) (h : MotionAgrees s) (he : Effect i s t) :
    MotionAgrees t := by
  cases he with
  | nothing => exact h
  | receiver => exact h.of_channels rfl rfl
  | request j l receives =>
    have hp : Powered (serveSupervision s) := (hc (running_of_canReceive s receives)).powered.of_eq rfl rfl
    exact (motionAgrees_taken hp (h.of_channels rfl rfl) (takeRequest_taken j _)).of_channels rfl rfl
  | timers => exact h.of_channels rfl rfl
  | expiry k n =>
    rcases expireLink_cases k { tickLinkTimers s with freeCount := n } _ rfl with ⟨_, he⟩ | ⟨_, he⟩
    · rw [he]; exact h.of_channels rfl rfl
    · rw [he]; exact motionAgrees_rise _ (h.of_channels rfl rfl)
  | event _ running event => exact motionAgrees_event (hc running) h event
  | held => exact h.of_channels rfl rfl
  | backup => exact h.of_channels rfl rfl
  | reset => exact motionAgrees_reset _ _ _

/-- Settles O6: by what each command does to the channels and the open moves. -/
theorem stepsKeepModesAndMoves : Obligations.StepsKeepModesAndMoves := by
  intro s t _ hc h1 h2 ht
  obtain rfl | ⟨i, q, he⟩ := step_cases ht
  · exact ⟨h1, h2⟩
  · have h : MotionAgrees s := ⟨modesAgree_iff.1 h1, h2⟩
    have hc' : ({ s with pending := q } : State).running = true → CraneAgrees { s with pending := q } := fun hr => by
      obtain ⟨⟨a1, a2⟩, a3, a4, a5, a6, a7, a8, a9, a10, a11⟩ := hc hr
      exact ⟨⟨a1, a2⟩, a3, a4, a5, a6, a7, a8, a9, a10, a11⟩
    obtain ⟨h3, h4⟩ := motionAgrees_effect hc' (h.of_channels (t := { s with pending := q }) rfl rfl) (exec_effect he)
    exact ⟨modesAgree_iff.2 h3, h4⟩

end Motion

end Sys2Proof.Machine

/-! What every command keeps of crane state, sequence, drives, brakes and owners (R1, R3, R14, R30, R34 to R43). -/

namespace Sys2Proof.Machine

/-! ## One channel -/

/-- R2, R3, R14, R16: command, drive state, fault, mode and owner of one channel agree. -/
structure DriveFits (r : Channel) : Prop where
  activeCommanded : r.drive = .active → r.commanded = true
  idleCommand : r.commanded = false → r.drive = .off ∨ r.drive = .fault
  faultPresent : r.drive = .fault → r.faultPresent = true
  inactiveHolds : r.drive ≠ .active → r.mode = .hold ∧ r.velocity = 0 ∧ r.demand = none ∧ r.target = none
  ownedActive : r.owner ≠ .none → r.drive = .active

/-- The drive is the same, an inactive channel still holds, and no owner is new on an inactive drive. -/
structure SameDrive (r q : Channel) : Prop where
  drive : q.drive = r.drive
  commanded : q.commanded = r.commanded
  faultPresent : q.faultPresent = r.faultPresent
  holds : r.drive ≠ .active → r.mode = .hold → r.velocity = 0 → r.demand = none → r.target = none →
    q.mode = .hold ∧ q.velocity = 0 ∧ q.demand = none ∧ q.target = none
  owner : q.owner ≠ .none → r.owner ≠ .none ∨ r.drive = .active

section Records

variable {r q : Channel}

theorem SameDrive.refl (r : Channel) : SameDrive r r := ⟨rfl, rfl, rfl, fun _ a b c d => ⟨a, b, c, d⟩, .inl⟩

theorem SameDrive.trans {p : Channel} (h : SameDrive r q) (k : SameDrive q p) : SameDrive r p := by
  refine ⟨k.1.trans h.1, k.2.trans h.2, k.3.trans h.3, fun hr a b c d => ?_, fun ho => ?_⟩
  · obtain ⟨a, b, c, d⟩ := h.holds hr a b c d
    exact k.holds (h.drive ▸ hr) a b c d
  · rcases k.owner ho with ho | hd
    · exact h.owner ho
    · exact .inr (h.drive ▸ hd)

theorem DriveFits.of_same (h : DriveFits r) (k : SameDrive r q) : DriveFits q := by
  obtain ⟨h1, h2, h3, h4, h5⟩ := h
  obtain ⟨k1, k2, k3, k4, k5⟩ := k
  refine ⟨?_, ?_, ?_, fun hn => ?_, fun ho => ?_⟩
  · rw [k1, k2]; exact h1
  · rw [k1, k2]; exact h2
  · rw [k1, k3]; exact h3
  · rw [k1] at hn
    obtain ⟨a, b, c, d⟩ := h4 hn
    exact k4 hn a b c d
  · rw [k1]; exact (k5 ho).elim h5 id

/-- Fields that bear on neither drive, mode nor owner. -/
theorem sameDrive_of_eq (drive : q.drive = r.drive) (commanded : q.commanded = r.commanded)
    (fault : q.faultPresent = r.faultPresent) (mode : q.mode = r.mode) (velocity : q.velocity = r.velocity)
    (demand : q.demand = r.demand) (target : q.target = r.target) (owner : q.owner = r.owner) : SameDrive r q :=
  ⟨drive, commanded, fault, fun _ a b c d => ⟨mode.trans a, velocity.trans b, demand.trans c, target.trans d⟩,
    fun ho => .inl (owner ▸ ho)⟩

theorem sameDrive_release (r : Channel) : SameDrive r (releaseChannel r) := by
  unfold releaseChannel
  split
  · exact ⟨rfl, rfl, rfl, fun _ _ _ _ _ => ⟨rfl, rfl, rfl, rfl⟩, fun h => absurd rfl h⟩
  next hv => exact ⟨rfl, rfl, rfl, fun _ _ hz => absurd hz hv, fun h => absurd rfl h⟩

theorem sameDrive_stop (r : Channel) : SameDrive r (stopChannel r) := by
  unfold stopChannel
  split
  · exact ⟨rfl, rfl, rfl, fun _ _ _ _ _ => ⟨rfl, rfl, rfl, rfl⟩, fun h => absurd rfl h⟩
  next hv => exact ⟨rfl, rfl, rfl, fun _ _ hz => absurd hz hv, fun h => absurd rfl h⟩

/-- A change of mode on an ACTIVE drive. -/
theorem sameDrive_of_active (ha : r.drive = .active) (drive : q.drive = r.drive) (commanded : q.commanded = r.commanded)
    (fault : q.faultPresent = r.faultPresent) : SameDrive r q :=
  ⟨drive, commanded, fault, fun h => absurd ha h, fun _ => .inr ha⟩

theorem sameDrive_takeWritten (lo hi : Int) (w : Option Int) (fresh : Bool) (r : Channel) (ha : r.drive = .active) :
    SameDrive r (takeWritten lo hi w fresh r) := by
  unfold takeWritten
  split <;> exact sameDrive_of_active ha rfl rfl rfl

theorem sameDrive_withLimits (lo hi : Int) (r : Channel) : SameDrive r (withLimits lo hi r) :=
  sameDrive_of_eq rfl rfl rfl rfl rfl rfl rfl rfl

theorem sameDrive_profile (c : Chan) (g : ChannelConfig) (lo hi : Int) (scale : Nat) (path : Option Int) (r : Channel) :
    SameDrive r (profile c g lo hi scale path r) := by
  have hset : ∀ q : Channel, (settle q).commanded = q.commanded ∧ (settle q).faultPresent = q.faultPresent := fun q => by
    unfold settle
    repeat' split
    all_goals exact ⟨rfl, rfl⟩
  by_cases ha : r.drive = .active
  · refine sameDrive_of_active ha (profile_owner ..).2.1 ?_ ?_
    all_goals
      unfold profile
      rw [if_neg (by simp [ha])]
      split
      · rfl
      · dsimp only
        simp only [hset]
        obtain ⟨x, f, v, l, he, -⟩ := advance_frame (lo := lo) (hi := hi) (stepSize g r)
          (boundDemand lo hi g.accel r (velocityDemand c g scale (r.demand.getD 0))) r
        rw [he]; rfl
      · dsimp only
        simp only [hset]
        obtain ⟨x, f, v, l, he, -⟩ := advance_frame (lo := lo) (hi := hi) (stepSize g r)
          (boundDemand lo hi g.accel r
            (positionDemand c g scale (clampInt lo hi (r.target.getD r.setpoint)) r.setpoint))
          { r with target := some (clampInt lo hi (r.target.getD r.setpoint)) }
        obtain ⟨x', f', v', p', he', -⟩ := arrive_frame g.accel (clampInt lo hi (r.target.getD r.setpoint))
          { r with target := some (clampInt lo hi (r.target.getD r.setpoint)), setpoint := x, fraction := f,
                   velocity := v, atLimit := l }
        rw [he, he']; rfl
      · split <;> rfl
  · unfold profile
    rw [if_pos ha]
    unfold restChannel
    dsimp only
    split <;> exact ⟨rfl, rfl, rfl, fun _ _ _ _ _ => ⟨rfl, rfl, rfl, rfl⟩, .inl⟩

theorem driveFits_off (r : Channel) : DriveFits (offRecord r) :=
  ⟨nofun, fun _ => .inl rfl, nofun, fun _ => ⟨rfl, rfl, rfl, rfl⟩, fun h => absurd rfl h⟩

end Records

/-! ## Brakes -/

/-- Brakes set one after another, for some ARM channels, to one value. -/
theorem get_foldl_brakes (p : Chan → Bool) (v : Bool) (b : PerFour Bool) {c : Chan} {i : Fin 4} (h : brakeOf c = some i) :
    (allChans.foldl (fun b c => match brakeOf c with
      | some i => if p c = true then b.set i v else b
      | none => b) b).get i = if p c = true then v else b.get i := by
  have hif : ∀ (q : Bool) (x y : PerFour Bool) (j : Fin 4),
      (if q = true then x else y).get j = if q = true then x.get j else y.get j := fun q x y j => by cases q <;> rfl
  cases c
  all_goals
    simp only [brakeOf, Option.some.injEq, reduceCtorEq] at h
    try subst h
  all_goals simp [allChans, brakeOf, hif]

theorem braked_iff {s : State} {c : Chan} : braked s c = true ↔ ∀ i, brakeOf c = some i → s.crane.brakes.get i = true := by
  unfold braked
  cases brakeOf c <;> simp

theorem brakeOf_of_arm {c : Chan} (h : isArm c = true) : ∃ i, brakeOf c = some i := by
  cases c
  case track => exact ⟨0, rfl⟩
  case swing => exact ⟨1, rfl⟩
  case boom => exact ⟨2, rfl⟩
  case reach => exact ⟨3, rfl⟩
  all_goals exact absurd h (by decide)

/-- R40: the start of a parking slot applies the brakes of its ARM channels. -/
theorem braked_startParkingSlot (n : Nat) (s : State) {c : Chan} (hc : isArm c = true) :
    braked (startParkingSlot n s) c = (decide ((s.cfg c).releaseSlot = n) || braked s c) := by
  obtain ⟨i, hi⟩ := brakeOf_of_arm hc
  have h := get_foldl_brakes (fun c => decide ((s.cfg c).releaseSlot = n)) true s.crane.brakes hi
  simp only [decide_eq_true_eq] at h
  simp only [braked, hi, Option.all_some]
  refine Eq.trans h ?_
  by_cases hs : (s.cfg c).releaseSlot = n <;> simp [hs]

/-- R35: which brakes an exchange releases. -/
theorem braked_exchanged (replies : PerChannel (Option (List Byte))) (s : State) {c : Chan} (hc : isArm c = true) :
    braked (exchanged replies s) c = if s.crane.state = .arming ∧ (s.chan c).drive ≠ .active ∧
      (exchangeRecord s replies c).drive = .active then false else braked s c := by
  obtain ⟨i, hi⟩ := brakeOf_of_arm hc
  have hch : ∀ c, ({ s with channels := .ofFn (exchangeRecord s replies), driveBus := commandRecords s } : State).chan c =
      exchangeRecord s replies c := fun c => PerChannel.get_ofFn _ c
  have h := get_foldl_brakes (fun c => decide (s.crane.state = .arming ∧ (s.chan c).drive ≠ .active ∧
    (exchangeRecord s replies c).drive = .active)) false s.crane.brakes hi
  simp only [decide_eq_true_eq] at h
  simp only [braked, hi, Option.all_some]
  refine Eq.trans ?_ h
  show (releaseBrakes s { s with channels := .ofFn (exchangeRecord s replies), driveBus := commandRecords s }).get i = _
  simp only [releaseBrakes, hch] <;> rfl

/-! ## Slots in order -/

/-- The first of an ordered list with a property. -/
theorem find?_first {l : List Nat} {R : Nat → Nat → Prop} (hl : l.Pairwise R) {p : Nat → Bool} {k : Nat}
    (h : l.find? p = some k) : p k = true ∧ ∀ j ∈ l, p j = true → j = k ∨ R k j := by
  induction l with
  | nil => cases h
  | cons x l ih =>
    rw [List.pairwise_cons] at hl
    rw [List.find?_cons] at h
    split at h
    next hp =>
      cases h
      exact ⟨hp, fun j hj _ => (List.mem_cons.1 hj).imp id (hl.1 j)⟩
    next hp =>
      obtain ⟨h1, h2⟩ := ih hl.2 h
      refine ⟨h1, fun j hj hpj => (List.mem_cons.1 hj).elim (fun he => ?_) fun hj => h2 j hj hpj⟩
      rw [he, hp] at hpj
      cases hpj

section Slots

variable {s : State}

theorem slotUsed_iff {n : Nat} : slotUsed s n = true ↔ ∃ c, (s.cfg c).releaseSlot = n := by
  simp [slotUsed, List.any_eq_true, mem_allChans]

theorem mem_slots (h : slotsInRange s) (c : Chan) :
    (s.cfg c).releaseSlot ∈ slotsUp ∧ (s.cfg c).releaseSlot ∈ slotsDown := by
  obtain ⟨h1, h2⟩ := h c
  generalize (s.cfg c).releaseSlot = n at h1 h2
  interval_cases n <;> decide

theorem lowestSlot_spec (h : slotsInRange s) : ∃ n, lowestSlot s = some n ∧ (∃ c, (s.cfg c).releaseSlot = n) ∧
    ∀ c, n ≤ (s.cfg c).releaseSlot := by
  have hu : ∀ c, slotUsed s (s.cfg c).releaseSlot = true := fun c => slotUsed_iff.2 ⟨c, rfl⟩
  cases hl : lowestSlot s with
  | none => exact absurd (hu .track) (List.find?_eq_none.1 hl _ (mem_slots h .track).1)
  | some n =>
    obtain ⟨h1, h2⟩ := find?_first (R := (· < ·)) (by decide) hl
    exact ⟨n, rfl, slotUsed_iff.1 h1, fun c => (h2 _ (mem_slots h c).1 (hu c)).elim (fun h => h.ge) le_of_lt⟩

theorem highestSlot_spec (h : slotsInRange s) : ∃ n, highestSlot s = some n ∧ (∃ c, (s.cfg c).releaseSlot = n) ∧
    ∀ c, (s.cfg c).releaseSlot ≤ n := by
  have hu : ∀ c, slotUsed s (s.cfg c).releaseSlot = true := fun c => slotUsed_iff.2 ⟨c, rfl⟩
  cases hl : highestSlot s with
  | none => exact absurd (hu .track) (List.find?_eq_none.1 hl _ (mem_slots h .track).2)
  | some n =>
    obtain ⟨h1, h2⟩ := find?_first (R := (· > ·)) (by decide) hl
    exact ⟨n, rfl, slotUsed_iff.1 h1, fun c => (h2 _ (mem_slots h c).2 (hu c)).elim (fun h => h.le) le_of_lt⟩

theorem nextHigherSlot_some (h : slotsInRange s) {n k : Nat} (hk : nextHigherSlot s n = some k) :
    n < k ∧ (∃ c, (s.cfg c).releaseSlot = k) ∧ ∀ c, (s.cfg c).releaseSlot ≤ n ∨ k ≤ (s.cfg c).releaseSlot := by
  obtain ⟨h1, h2⟩ := find?_first (R := (· < ·)) (by decide) hk
  simp only [Bool.and_eq_true, decide_eq_true_eq] at h1 h2
  refine ⟨h1.1, slotUsed_iff.1 h1.2, fun c => ?_⟩
  by_cases hc : n < (s.cfg c).releaseSlot
  · exact .inr ((h2 _ (mem_slots h c).1 ⟨hc, slotUsed_iff.2 ⟨c, rfl⟩⟩).elim (fun h => h.ge) le_of_lt)
  · exact .inl (Nat.le_of_not_lt hc)

theorem nextHigherSlot_none (h : slotsInRange s) {n : Nat} (hk : nextHigherSlot s n = none) (c : Chan) :
    (s.cfg c).releaseSlot ≤ n := by
  have := List.find?_eq_none.1 hk _ (mem_slots h c).1
  simp only [Bool.and_eq_true, decide_eq_true_eq, not_and] at this
  exact Nat.le_of_not_lt fun hc => this hc (slotUsed_iff.2 ⟨c, rfl⟩)

theorem nextLowerSlot_some (h : slotsInRange s) {n k : Nat} (hk : nextLowerSlot s n = some k) :
    k < n ∧ (∃ c, (s.cfg c).releaseSlot = k) ∧ ∀ c, n ≤ (s.cfg c).releaseSlot ∨ (s.cfg c).releaseSlot ≤ k := by
  obtain ⟨h1, h2⟩ := find?_first (R := (· > ·)) (by decide) hk
  simp only [Bool.and_eq_true, decide_eq_true_eq] at h1 h2
  refine ⟨h1.1, slotUsed_iff.1 h1.2, fun c => ?_⟩
  by_cases hc : (s.cfg c).releaseSlot < n
  · exact .inr ((h2 _ (mem_slots h c).2 ⟨hc, slotUsed_iff.2 ⟨c, rfl⟩⟩).elim (fun h => h.le) le_of_lt)
  · exact .inl (Nat.le_of_not_lt hc)

theorem nextLowerSlot_none (h : slotsInRange s) {n : Nat} (hk : nextLowerSlot s n = none) (c : Chan) :
    n ≤ (s.cfg c).releaseSlot := by
  have := List.find?_eq_none.1 hk _ (mem_slots h c).2
  simp only [Bool.and_eq_true, decide_eq_true_eq, not_and] at this
  exact Nat.le_of_not_lt fun hc => this hc (slotUsed_iff.2 ⟨c, rfl⟩)

end Slots

/-! ## The state -/

section Crane

variable {s t : State}

theorem craneConfigured_of_eq (h : CraneConfigured s)
    (cfg : ∀ c, (t.cfg c).releaseSlot = (s.cfg c).releaseSlot ∧ (t.cfg c).keepActive = (s.cfg c).keepActive) :
    CraneConfigured t := by
  obtain ⟨h1, h2⟩ := h
  exact ⟨fun c => by rw [(cfg c).1]; exact h1 c, fun c hc => by rw [(cfg c).2]; exact h2 c hc⟩

theorem CraneAgrees.driveFits (h : CraneAgrees s) (c : Chan) : DriveFits (s.chan c) :=
  ⟨h.activeCommanded c, h.idleCommand c, h.faultPresent c, h.inactiveHolds c, h.ownedActive c⟩

/-- The parts of `CraneAgrees`, channel by channel. -/
theorem craneAgrees_of (config : CraneConfigured s) (fits : ∀ c, DriveFits (s.chan c))
    (faultTrips : ∀ c, (s.chan c).faultPresent = true → s.crane.state = .tripped)
    (armOwned : ∀ c, isArm c → (s.chan c).owner ≠ .none → s.crane.state = .ready)
    (slotUsed : s.crane.state = .arming ∨ s.crane.state = .parking →
      ∃ c, s.crane.slotPointer = some (s.cfg c).releaseSlot)
    (drives : ∀ c, DriveAgrees s (s.crane.slotPointer.getD 0) c) : CraneAgrees s :=
  ⟨config, fun c => (fits c).1, fun c => (fits c).2, fun c => (fits c).3, faultTrips, fun c => (fits c).4,
    fun c => (fits c).5, armOwned, slotUsed, drives⟩

/-- What `DriveAgrees` speaks of. -/
theorem driveAgrees_of_eq {n : Nat} {c : Chan} (h : DriveAgrees s n c) (state : t.crane.state = s.crane.state)
    (brakes : t.crane.brakes = s.crane.brakes) (drive : (t.chan c).drive = (s.chan c).drive)
    (commanded : (t.chan c).commanded = (s.chan c).commanded)
    (owner : s.crane.state = .tripped → (s.chan c).owner = .none → (t.chan c).owner = .none)
    (slot : (t.cfg c).releaseSlot = (s.cfg c).releaseSlot) : DriveAgrees t n c := by
  have hb : braked t c = braked s c := by unfold braked; rw [brakes]
  unfold DriveAgrees at h ⊢
  rw [state, hb, drive, commanded, slot]
  cases hs : s.crane.state <;> rw [hs] at h <;> try exact h
  exact ⟨h.1, owner hs h.2.1, h.2.2⟩

/-- R30, and all that crane state, drives, brakes and owners have to agree on. -/
structure InOrder (s : State) : Prop where
  sequence : SequenceAgrees s
  crane : CraneAgrees s

theorem SequenceAgrees.of_eq (h : SequenceAgrees s) (state : t.crane.state = s.crane.state)
    (sequence : t.crane.sequence = s.crane.sequence) (pointer : t.crane.slotPointer = s.crane.slotPointer) :
    SequenceAgrees t := by
  unfold SequenceAgrees at h ⊢
  rw [state, sequence, pointer]
  exact h

/-- The crane's own record but for RETREAT and slot timer is the same, and channel by channel no drive changes and no owner is
new on an inactive drive, or on an ARM channel outside READY. -/
theorem InOrder.of_drives (h : InOrder s) (state : t.crane.state = s.crane.state)
    (pointer : t.crane.slotPointer = s.crane.slotPointer) (sequence : t.crane.sequence = s.crane.sequence)
    (brakes : t.crane.brakes = s.crane.brakes)
    (cfg : ∀ c, (t.cfg c).releaseSlot = (s.cfg c).releaseSlot ∧ (t.cfg c).keepActive = (s.cfg c).keepActive)
    (drives : ∀ c, SameDrive (s.chan c) (t.chan c))
    (owner : ∀ c, (t.chan c).owner ≠ .none → (s.chan c).owner ≠ .none ∨ (isArm c = true → s.crane.state = .ready)) :
    InOrder t := by
  obtain ⟨hq, hc⟩ := h
  refine ⟨hq.of_eq state sequence pointer, craneAgrees_of (craneConfigured_of_eq hc.toCraneConfigured cfg)
    (fun c => (hc.driveFits c).of_same (drives c)) (fun c hf => ?_) (fun c ha ho => ?_) (fun hst => ?_) fun c => ?_⟩
  · rw [state]; exact hc.faultTrips c ((drives c).faultPresent ▸ hf)
  · rw [state]; exact (owner c ho).elim (hc.armOwned c ha) fun h => h ha
  · rw [state] at hst
    obtain ⟨c, hp⟩ := hc.slotUsed hst
    exact ⟨c, by rw [pointer, hp, (cfg c).1]⟩
  · rw [pointer]
    refine driveAgrees_of_eq (hc.drives c) state brakes (drives c).drive (drives c).commanded (fun ht ho => ?_) (cfg c).1
    by_contra hn
    rcases (drives c).owner hn with h | h
    · exact h ho
    · have hd := hc.drives c
      rw [DriveAgrees, ht] at hd
      rw [hc.activeCommanded c h] at hd
      cases hd.1

theorem InOrder.of_same (h : InOrder s) (crane : t.crane = s.crane) (config : t.config = s.config)
    (drives : ∀ c, SameDrive (s.chan c) (t.chan c))
    (owner : ∀ c, (t.chan c).owner ≠ .none → (s.chan c).owner ≠ .none ∨ (isArm c = true → s.crane.state = .ready)) :
    InOrder t :=
  h.of_drives (by rw [crane]) (by rw [crane]) (by rw [crane]) (by rw [crane])
    (fun c => by rw [cfg_eq_of_config config]; exact ⟨rfl, rfl⟩) drives owner

theorem InOrder.of_channels (h : InOrder s) (crane : t.crane = s.crane) (config : t.config = s.config)
    (channels : t.channels = s.channels) : InOrder t := by
  have hc := chan_eq_of_channels channels
  exact h.of_same crane config (fun c => by rw [hc]; exact .refl _) fun c ho => .inl (hc c ▸ ho)

/-! ### Arming and parking -/

/-- What a crane in ARMING has done with the drives, its slot pointer at n. -/
structure Arming (s : State) (n : Nat) : Prop where
  below : ∀ c, (s.cfg c).releaseSlot < n → (s.chan c).drive = .active
  above : ∀ c, isArm c = true → n < (s.cfg c).releaseSlot → (s.chan c).commanded = false ∧ braked s c = true
  released : ∀ c, isArm c = true → (s.cfg c).releaseSlot ≤ n → (s.chan c).drive = .active → braked s c = false

/-- What a crane in PARKING has done with the drives. -/
structure Parking (s : State) (n : Nat) : Prop where
  above : ∀ c, isArm c = true → n < (s.cfg c).releaseSlot → (s.chan c).commanded = false
  braked : ∀ c, isArm c = true → n ≤ (s.cfg c).releaseSlot → braked s c = true

theorem arming_iff {n : Nat} (hs : s.crane.state = .arming) : Arming s n ↔ ∀ c, DriveAgrees s n c := by
  simp only [DriveAgrees, hs]
  constructor
  · rintro ⟨h1, h2, h3⟩ c
    refine ⟨h1 c, fun ha => ?_⟩
    split
    next hn => exact h2 c ha hn
    next hn => exact h3 c ha (Nat.le_of_not_lt hn)
  · intro h
    refine ⟨fun c => (h c).1, fun c ha hn => ?_, fun c ha hn => ?_⟩
    · have := (h c).2 ha
      rwa [if_pos hn] at this
    · have := (h c).2 ha
      rwa [if_neg (Nat.not_lt.2 hn)] at this

theorem parking_iff {n : Nat} (hs : s.crane.state = .parking) : Parking s n ↔ ∀ c, DriveAgrees s n c := by
  simp only [DriveAgrees, hs]
  exact ⟨fun h c ha => ⟨h.above c ha, h.braked c ha⟩, fun h => ⟨fun c ha => (h c ha).1, fun c ha => (h c ha).2⟩⟩

/-- A crane in ARMING, its drives as they stand. -/
theorem inOrder_arming {n : Nat} (config : CraneConfigured s) (state : s.crane.state = .arming)
    (sequence : s.crane.sequence = .up) (pointer : s.crane.slotPointer = some n) (used : ∃ c, (s.cfg c).releaseSlot = n)
    (fits : ∀ c, DriveFits (s.chan c)) (noFault : ∀ c, (s.chan c).faultPresent = false)
    (noOwner : ∀ c, isArm c = true → (s.chan c).owner = .none) (drives : Arming s n) : InOrder s := by
  refine ⟨?_, craneAgrees_of config fits (fun c hf => ?_) (fun c ha ho => absurd (noOwner c ha) ho) (fun _ => ?_) ?_⟩
  · unfold SequenceAgrees; rw [state]; exact ⟨sequence, by simp [pointer]⟩
  · rw [noFault] at hf; cases hf
  · obtain ⟨c, hc⟩ := used; exact ⟨c, by rw [pointer, hc]⟩
  · rw [pointer]; exact (arming_iff state).1 drives

theorem inOrder_parking {n : Nat} (config : CraneConfigured s) (state : s.crane.state = .parking)
    (sequence : s.crane.sequence = .down) (pointer : s.crane.slotPointer = some n) (used : ∃ c, (s.cfg c).releaseSlot = n)
    (fits : ∀ c, DriveFits (s.chan c)) (noFault : ∀ c, (s.chan c).faultPresent = false)
    (noOwner : ∀ c, isArm c = true → (s.chan c).owner = .none) (drives : Parking s n) : InOrder s := by
  refine ⟨?_, craneAgrees_of config fits (fun c hf => ?_) (fun c ha ho => absurd (noOwner c ha) ho) (fun _ => ?_) ?_⟩
  · unfold SequenceAgrees; rw [state]; exact ⟨sequence, by simp [pointer]⟩
  · rw [noFault] at hf; cases hf
  · obtain ⟨c, hc⟩ := used; exact ⟨c, by rw [pointer, hc]⟩
  · rw [pointer]; exact (parking_iff state).1 drives

/-- A crane in a state without a sequence. -/
theorem inOrder_resting (config : CraneConfigured s) (state : s.crane.state ≠ .arming ∧ s.crane.state ≠ .parking)
    (sequence : s.crane.sequence = .none) (pointer : s.crane.slotPointer = none) (fits : ∀ c, DriveFits (s.chan c))
    (faultTrips : ∀ c, (s.chan c).faultPresent = true → s.crane.state = .tripped)
    (armOwned : ∀ c, isArm c → (s.chan c).owner ≠ .none → s.crane.state = .ready) (drives : ∀ c, DriveAgrees s 0 c) :
    InOrder s := by
  refine ⟨?_, craneAgrees_of config fits faultTrips armOwned (fun h => absurd h (not_or.2 state)) ?_⟩
  · unfold SequenceAgrees
    split
    next h => exact absurd h state.1
    next h => exact absurd h state.2
    next => exact ⟨sequence, pointer⟩
  · rw [pointer]; exact drives

theorem InOrder.noFault (h : InOrder s) (hs : s.crane.state ≠ .tripped) (c : Chan) : (s.chan c).faultPresent = false :=
  Bool.eq_false_iff.2 fun hf => hs (h.crane.faultTrips c hf)

theorem InOrder.noOwner (h : InOrder s) (hs : s.crane.state ≠ .ready) {c : Chan} (hc : isArm c = true) :
    (s.chan c).owner = .none := by_contra fun ho => hs (h.crane.armOwned c hc ho)

theorem InOrder.arming (h : InOrder s) (hs : s.crane.state = .arming) {n : Nat} (hp : s.crane.slotPointer = some n) :
    Arming s n := (arming_iff hs).2 fun c => by have := h.crane.drives c; rwa [hp] at this

theorem InOrder.parking (h : InOrder s) (hs : s.crane.state = .parking) {n : Nat} (hp : s.crane.slotPointer = some n) :
    Parking s n := (parking_iff hs).2 fun c => by have := h.crane.drives c; rwa [hp] at this

theorem InOrder.used (h : InOrder s) (hs : s.crane.state = .arming ∨ s.crane.state = .parking) {n : Nat}
    (hp : s.crane.slotPointer = some n) : ∃ c, (s.cfg c).releaseSlot = n := by
  obtain ⟨c, hc⟩ := h.crane.slotUsed hs
  rw [hp] at hc
  exact ⟨c, (Option.some.inj hc).symm⟩

/-- R37, R38: PARKING starts from the slot at which ARMING stands. -/
theorem InOrder.parksFrom {n : Nat} (h : InOrder s) (hs : s.crane.state = .arming) (hp : s.crane.slotPointer = some n)
    (config : t.config = s.config) (state : t.crane.state = .parking) (sequence : t.crane.sequence = .down)
    (pointer : t.crane.slotPointer = some n)
    (brakes : ∀ c, isArm c = true → Machine.braked t c = (decide ((s.cfg c).releaseSlot = n) || Machine.braked s c))
    (drives : ∀ c, SameDrive (s.chan c) (t.chan c))
    (owner : ∀ c, (t.chan c).owner ≠ .none → (s.chan c).owner ≠ .none) : InOrder t := by
  have hcfg := cfg_eq_of_config config
  have ha := h.arming hs hp
  refine inOrder_parking (craneConfigured_of_eq h.crane.toCraneConfigured fun c => by rw [hcfg]; exact ⟨rfl, rfl⟩) state
    sequence pointer ?_ (fun c => (h.crane.driveFits c).of_same (drives c)) (fun c => ?_) (fun c hc => ?_)
    ⟨fun c hc hn => ?_, fun c hc hn => ?_⟩
  · obtain ⟨c, hc⟩ := h.used (.inl hs) hp; exact ⟨c, by rw [hcfg, hc]⟩
  · rw [(drives c).faultPresent]; exact h.noFault (by simp [hs]) c
  · exact by_contra fun ho => owner c ho (h.noOwner (by simp [hs]) hc)
  · rw [hcfg] at hn
    rw [(drives c).commanded]
    exact (ha.above c hc hn).1
  · rw [hcfg] at hn
    rw [brakes c hc]
    rcases Nat.eq_or_lt_of_le hn with he | hl
    · simp [he]
    · simp [(ha.above c hc hl).2]

theorem chan_startArmingSlot (n : Nat) (s : State) (c : Chan) : (startArmingSlot n s).chan c =
    if (s.cfg c).releaseSlot = n ∧ (s.chan c).drive ≠ .active then enableChannel (s.lo c) (s.hi c) (s.chan c)
    else s.chan c := by
  have h : (startArmingSlot n s).chan c = if inSlot s n c = true ∧ (s.chan c).drive ≠ .active then
      enableChannel (s.lo c) (s.hi c) (s.chan c) else s.chan c := chan_mapChannels s c _
  rw [h]
  simp [inSlot]

theorem driveFits_enable (lo hi : Int) {r : Channel} (h : DriveFits r) (hr : r.drive ≠ .active) :
    DriveFits (enableChannel lo hi r) :=
  ⟨nofun, nofun, nofun, fun _ => ⟨rfl, rfl, rfl, rfl⟩, fun ho => absurd (h.ownedActive ho) hr⟩

/-- R34: a slot k starts in ARMING, every used slot below it ACTIVE and every ARM channel from it on idle and braked. -/
theorem inOrder_armingSlot {k : Nat} (config : CraneConfigured s) (fits : ∀ c, DriveFits (s.chan c))
    (noFault : ∀ c, (s.chan c).faultPresent = false) (noOwner : ∀ c, isArm c = true → (s.chan c).owner = .none)
    (used : ∃ c, (s.cfg c).releaseSlot = k) (below : ∀ c, (s.cfg c).releaseSlot < k → (s.chan c).drive = .active)
    (idle : ∀ c, isArm c = true → k ≤ (s.cfg c).releaseSlot → (s.chan c).commanded = false ∧ Machine.braked s c = true)
    (released : ∀ c, isArm c = true → (s.cfg c).releaseSlot < k → Machine.braked s c = false)
    (chans : ∀ c, t.chan c = (startArmingSlot k s).chan c) (cfg : t.config = s.config)
    (brakes : t.crane.brakes = s.crane.brakes) (state : t.crane.state = .arming)
    (sequence : t.crane.sequence = .up) (pointer : t.crane.slotPointer = some k) : InOrder t := by
  have hcfg := cfg_eq_of_config cfg
  have hb : ∀ c, Machine.braked t c = Machine.braked s c := fun c => by unfold Machine.braked; rw [brakes]
  have hch : ∀ c, t.chan c = if (s.cfg c).releaseSlot = k ∧ (s.chan c).drive ≠ .active then
      enableChannel (s.lo c) (s.hi c) (s.chan c) else s.chan c := fun c => by rw [chans, chan_startArmingSlot]
  have hother : ∀ c, (s.cfg c).releaseSlot ≠ k → t.chan c = s.chan c := fun c hc => by rw [hch, if_neg fun h => hc h.1]
  refine inOrder_arming (craneConfigured_of_eq config fun c => by rw [hcfg]; exact ⟨rfl, rfl⟩) state sequence pointer
    (by obtain ⟨c, hc⟩ := used; exact ⟨c, by rw [hcfg, hc]⟩) (fun c => ?_) (fun c => ?_) (fun c hc => ?_)
    ⟨fun c hc => ?_, fun c hc hn => ?_, fun c hc hn ha => ?_⟩
  · rw [hch]
    split
    next h => exact driveFits_enable _ _ (fits c) h.2
    next => exact fits c
  · rw [hch]
    split
    · exact noFault c
    · exact noFault c
  · rw [hch]
    split
    · exact noOwner c hc
    · exact noOwner c hc
  · rw [hcfg] at hc
    rw [hother c (by omega)]
    exact below c hc
  · rw [hcfg] at hn
    rw [hother c (by omega), hb]
    exact idle c hc (by omega)
  · rw [hcfg] at hn
    rw [hb]
    rcases Nat.eq_or_lt_of_le hn with he | hl
    · have hi := idle c hc (by omega)
      have hd : (s.chan c).drive ≠ .active := fun h => by
        rw [(fits c).activeCommanded h] at hi
        cases hi.1
      rw [hch, if_pos ⟨he, hd⟩] at ha
      cases ha
    · exact released c hc hl

/-- R33, R34: ARM. -/
theorem inOrder_arm (h : InOrder s) (hs : s.crane.state = .parked) : InOrder (enterCrane .arming .none
    (startArmingSlot ((lowestSlot s).getD 1) { s with crane := { s.crane with sequence := .up } })) := by
  obtain ⟨n, hn, hu, hle⟩ := lowestSlot_spec h.crane.slots
  have hd : ∀ c, isArm c = true → (s.chan c).commanded = false ∧ Machine.braked s c = true := fun c hc => by
    have := h.crane.drives c
    rw [DriveAgrees, hs] at this
    exact this hc
  rw [hn]
  refine inOrder_armingSlot h.crane.toCraneConfigured h.crane.driveFits (h.noFault (by simp [hs]))
    (fun c => h.noOwner (by simp [hs])) hu (fun c hc => absurd (hle c) (by omega)) (fun c hc _ => hd c hc)
    (fun c _ hc => absurd (hle c) (by omega)) (fun c => ?_)
    ((settled_eq_iff.1 (enterCrane_settled ..)).1.trans rfl) ?_ (enterCrane_state ..) ?_ ?_
  · rw [chan_enterCrane]; rfl
  all_goals rw [enterCrane_crane]; rfl

theorem drives_resting (hs : s.crane.state = .ready ∨ s.crane.state = .stopping ∨ s.crane.state = .halted)
    (h : ∀ c, (s.chan c).drive = .active ∧ (isArm c → Machine.braked s c = false)) (n : Nat) (c : Chan) :
    DriveAgrees s n c := by
  unfold DriveAgrees
  rcases hs with hs | hs | hs <;> rw [hs] <;> exact h c

theorem InOrder.resting (h : InOrder s) (hs : s.crane.state = .ready ∨ s.crane.state = .stopping ∨ s.crane.state = .halted)
    (c : Chan) : (s.chan c).drive = .active ∧ (isArm c → Machine.braked s c = false) := by
  have := h.crane.drives c
  unfold DriveAgrees at this
  rcases hs with hs | hs | hs <;> rw [hs] at this <;> exact this

theorem InOrder.noSequence (h : InOrder s) (hs : s.crane.state ≠ .arming ∧ s.crane.state ≠ .parking) :
    s.crane.sequence = .none ∧ s.crane.slotPointer = none := by
  have hq := h.sequence
  unfold SequenceAgrees at hq
  split at hq
  next he => exact absurd he hs.1
  next he => exact absurd he hs.2
  next => exact hq

/-- READY, STOPPING and HALTED follow on one another with the drives as they stand. -/
theorem InOrder.moves (h : InOrder s) (hs : s.crane.state = .ready ∨ s.crane.state = .stopping ∨ s.crane.state = .halted)
    (ht : t.crane.state = .ready ∨ t.crane.state = .stopping ∨ t.crane.state = .halted)
    (sequence : t.crane.sequence = s.crane.sequence) (pointer : t.crane.slotPointer = s.crane.slotPointer)
    (brakes : t.crane.brakes = s.crane.brakes) (config : t.config = s.config)
    (drives : ∀ c, SameDrive (s.chan c) (t.chan c))
    (owner : ∀ c, isArm c = true → (t.chan c).owner ≠ .none → t.crane.state = .ready) : InOrder t := by
  have hcfg := cfg_eq_of_config config
  have hb : ∀ c, Machine.braked t c = Machine.braked s c := fun c => by unfold Machine.braked; rw [brakes]
  obtain ⟨hseq, hptr⟩ := h.noSequence (by rcases hs with hs | hs | hs <;> simp [hs])
  refine inOrder_resting (craneConfigured_of_eq h.crane.toCraneConfigured fun c => by rw [hcfg]; exact ⟨rfl, rfl⟩)
    (by rcases ht with ht | ht | ht <;> simp [ht]) (sequence.trans hseq) (pointer.trans hptr)
    (fun c => (h.crane.driveFits c).of_same (drives c)) (fun c hf => ?_) owner (drives_resting ht (fun c => ?_) 0)
  · rw [(drives c).faultPresent, h.noFault (by rcases hs with hs | hs | hs <;> simp [hs])] at hf
    cases hf
  · rw [(drives c).drive, hb]
    exact h.resting hs c

end Crane

end Sys2Proof.Machine

/-! What every command keeps of crane state, sequence, drives, brakes and owners: each command in turn. -/

namespace Sys2Proof.Machine

section CraneOrder

variable {s t u : State}

/-! ## Rises -/

theorem inOrder_dropped (config : CraneConfigured t) (state : t.crane.state = .tripped) (h : Dropped t) : InOrder t := by
  refine inOrder_resting config (by simp [state]) h.sequence h.pointer (fun c => ?_) (fun _ _ => state) (fun c _ ho => ?_)
    fun c => ?_
  all_goals obtain ⟨hc, hd, hn, hm, hv, hdm, ht⟩ := h.channels c
  · exact ⟨fun h => absurd (hd.symm.trans h) (by decide), fun _ => .inl hd, fun h => absurd (hd.symm.trans h) (by decide),
      fun _ => ⟨hm, hv, hdm, ht⟩, fun h => absurd hn h⟩
  · exact absurd hn ho
  · unfold DriveAgrees
    rw [state]
    exact ⟨hc, hn, braked_iff.2 fun i _ => h.brakes i⟩

theorem restFor_channel (d : CauseDetail) (s : State) (c : Chan) :
    SameDrive (s.chan c) ((restFor d s).chan c) ∧ ((restFor d s).chan c).owner = (s.chan c).owner := by
  unfold restFor
  split
  · rw [chan_restLens]
    split
    next h => exact ⟨sameDrive_of_active (restHit_iff.1 h).2.2 rfl rfl rfl, rfl⟩
    next => exact ⟨.refl _, rfl⟩
  · exact ⟨.refl _, rfl⟩

/-- What a rise does first: the lens channels of R96, and a latch. -/
theorem rested_channel (d : CauseDetail) (s : State) (c : Chan) :
    SameDrive (s.chan c) ((restFor d (latchCause d s)).chan c) ∧
      ((restFor d (latchCause d s)).chan c).owner = (s.chan c).owner := by
  have h := restFor_channel d (latchCause d s) c
  rwa [chan_latchCause] at h

theorem stopLiveHead_channel (s : State) (c : Chan) : SameDrive (s.chan c) ((stopLiveHead s).chan c) ∧
    (((stopLiveHead s).chan c).owner ≠ .none → (s.chan c).owner ≠ .none) := by
  rw [chan_stopLiveHead]
  split
  · exact ⟨sameDrive_stop _, fun h => absurd (stopChannel_owner _) h⟩
  · exact ⟨.refl _, id⟩

theorem latched_channels (d : CauseDetail) (s : State) (c : Chan) :
    SameDrive (s.chan c) ((stopLiveHead (restFor d (latchCause d s))).chan c) ∧
      (((stopLiveHead (restFor d (latchCause d s))).chan c).owner ≠ .none → (s.chan c).owner ≠ .none) := by
  obtain ⟨h1, h2⟩ := rested_channel d s c
  obtain ⟨k1, k2⟩ := stopLiveHead_channel (restFor d (latchCause d s)) c
  exact ⟨h1.trans k1, fun h => h2 ▸ k2 h⟩

theorem rested_config (d : CauseDetail) (s : State) : (restFor d (latchCause d s)).config = s.config := by
  have hr : ∀ u, (restFor d u).settled = u.settled := fun u => by
    unfold restFor
    split
    · exact restLens_settled u
    · rfl
  rw [(settled_eq_iff.1 (hr _)).1, (settled_eq_iff.1 (latchCause_settled _ _)).1]

theorem isBody_of_arm {c : Chan} (h : isArm c = true) : isBody c = true := by cases c <;> revert h <;> decide

theorem entryBReady_crane (hs : s.crane.state = .ready) :
    (entryBReady s).crane = { s.crane with state := .stopping, retreat := false } := by
  rw [entryBReady, enterCrane_crane]
  simp [hs]

/-- R40: what a parking slot's start does to the crane is seen from crane and configuration. -/
theorem startParkingSlot_crane (n : Nat) (config : t.config = s.config) :
    (startParkingSlot n t).crane = (startParkingSlot n { s with crane := t.crane }).crane := by
  simp only [startParkingSlot, cfg_eq_of_config config]
  rfl

theorem entryBArming_crane (hs : s.crane.state = .arming) {n : Nat} (hp : s.crane.slotPointer = some n) :
    (entryBArming s).crane = { (startParkingSlot n s).crane with state := .parking, sequence := .down } := by
  have hk := startParkingSlot_crane (s := s)
    (t := { stopLiveHead s with crane := { (stopLiveHead s).crane with sequence := .down } })
    ((stopLiveHead s).crane.slotPointer.getD 1) (settled_eq_iff.1 (stopLiveHead_settled s)).1
  rw [entryBArming, enterCrane_crane]
  dsimp only at hk ⊢
  rw [hk, stopLiveHead_crane, hp]
  simp [startParkingSlot, hs]
  rfl

/-- R95: READY is left for STOPPING. -/
theorem inOrder_stops (d : CauseDetail) (h : InOrder s) (hs : s.crane.state = .ready) :
    InOrder (entryBReady (restFor d (latchCause d s))) := by
  have hcr : (entryBReady (restFor d (latchCause d s))).crane = { s.crane with state := .stopping, retreat := false } := by
    rw [entryBReady_crane (by simp [hs])]; simp
  refine h.moves (.inl hs) (.inr (.inl (entryBReady_state _))) (by rw [hcr]) (by rw [hcr]) (by rw [hcr])
    ((settled_eq_iff.1 (entryBReady_settled _)).1.trans (rested_config d s)) (fun c => ?_) fun c hc ho => absurd ?_ ho
  · refine (rested_channel d s c).1.trans ?_
    rw [chan_entryBReady]
    split
    · exact sameDrive_stop _
    · split
      · exact sameDrive_release _
      · exact .refl _
  · rw [chan_entryBReady, if_pos (isBody_of_arm hc)]
    exact stopChannel_owner _

/-- R38, R97: ARMING is left for PARKING. -/
theorem inOrder_parks (d : CauseDetail) (h : InOrder s) (hs : s.crane.state = .arming) :
    InOrder (entryBArming (restFor d (latchCause d s))) := by
  have hq := h.sequence
  rw [SequenceAgrees, hs] at hq
  obtain ⟨n, hp⟩ := Option.isSome_iff_exists.1 hq.2
  have hcr := entryBArming_crane (s := restFor d (latchCause d s)) (by simp [hs]) (n := n) (by simp [hp])
  have hcfg := rested_config d s
  refine h.parksFrom hs hp ((settled_eq_iff.1 (entryBArming_settled _)).1.trans hcfg) (by rw [hcr]) (by rw [hcr])
    (by rw [hcr]; rfl) (fun c hc => ?_) (fun c => ?_) fun c ho => ?_
  · have hb := braked_startParkingSlot n (restFor d (latchCause d s)) hc
    rw [cfg_eq_of_config hcfg] at hb
    unfold braked at hb ⊢
    rw [hcr, hb]
    simp
  · refine (rested_channel d s c).1.trans ?_
    rw [chan_entryBArming]
    split
    · exact sameDrive_stop _
    · exact .refl _
  · rw [chan_entryBArming] at ho
    split at ho
    · exact absurd (stopChannel_owner _) ho
    · exact (rested_channel d s c).2 ▸ ho

theorem inOrder_rise (d : CauseDetail) (h : InOrder s) : InOrder (rise d s) := by
  have hcfg : (rise d s).config = s.config := (settled_eq_iff.1 (rise_settled s d)).1
  have hr := rise_risen d (s := s)
  generalize rise d s = t at hcfg hr
  cases hr with
  | ignored => exact h
  | trips a on =>
    refine inOrder_dropped ?_ (entryA_state _) (dropped_entryA _)
    exact craneConfigured_of_eq h.crane.toCraneConfigured fun c => by rw [cfg_eq_of_config hcfg]; exact ⟨rfl, rfl⟩
  | stops b ready => exact inOrder_stops d h ready
  | parks b arming => exact inOrder_parks d h arming
  | stays b state _ told _ =>
    have hch := chan_eq_of_channels told.channels.1
    refine h.of_same (by rw [told.crane]; simp) hcfg (fun c => ?_) fun c ho => .inl ?_
    · rw [hch]; exact (latched_channels d s c).1
    · exact (latched_channels d s c).2 (hch c ▸ ho)
  | latched state _ told _ =>
    have hch := chan_eq_of_channels told.channels.1
    refine h.of_same (by rw [told.crane]; simp) hcfg (fun c => ?_) fun c ho => .inl ?_
    · rw [hch]; exact (rested_channel d s c).1
    · rw [hch, (rested_channel d s c).2] at ho; exact ho

/-! ## Drive exchanges -/

/-- R14: the drive, command and fault of a channel after an exchange. -/
theorem exchangeRecord_cases (replies : PerChannel (Option (List Byte))) (s : State) (c : Chan) :
    (goodReply c (replies.get c) = none ∧ exchangeRecord s replies c = missReply (s.chan c)) ∨
      ∃ st fb, goodReply c (replies.get c) = some (st, fb) ∧
        exchangeRecord s replies c = takeGoodReply (s.lo c) (s.hi c) (s.chan c) st fb := by
  unfold exchangeRecord
  cases h : goodReply c (replies.get c) with
  | none => exact .inl ⟨rfl, rfl⟩
  | some p => exact .inr ⟨p.1, p.2, rfl, rfl⟩

theorem exchangeRecord_kept (replies : PerChannel (Option (List Byte))) (s : State) (c : Chan) :
    (exchangeRecord s replies c).commanded = (s.chan c).commanded ∧
      (exchangeRecord s replies c).owner = (s.chan c).owner := by
  rcases exchangeRecord_cases replies s c with ⟨-, he⟩ | ⟨st, fb, -, he⟩
  · rw [he]; exact ⟨rfl, rfl⟩
  · rw [he]
    unfold takeGoodReply
    dsimp only
    split <;> exact ⟨rfl, rfl⟩

theorem driveFits_goodReply (lo hi fb : Int) (st : ReplyState) {r : Channel}
    (owned : r.owner ≠ .none → nextDrive r.commanded st = .active) : DriveFits (takeGoodReply lo hi r st fb) := by
  have hfault : nextDrive r.commanded st = .fault → st = .fault := by
    cases st <;> cases r.commanded <;> simp [nextDrive]
  have hactive : nextDrive r.commanded st = .active → r.commanded = true := by
    cases st <;> cases r.commanded <;> simp [nextDrive]
  have hidle : r.commanded = false → nextDrive r.commanded st = .off ∨ nextDrive r.commanded st = .fault := by
    cases st <;> cases r.commanded <;> simp [nextDrive]
  unfold takeGoodReply
  dsimp only
  split
  next h => exact ⟨hactive, hidle, fun hf => decide_eq_true (hfault hf), fun hn => absurd h.2 hn, owned⟩
  next h => exact ⟨hactive, hidle, fun hf => decide_eq_true (hfault hf), fun _ => ⟨rfl, rfl, rfl, rfl⟩, owned⟩

/-- R13 to R15: an exchange that raises nothing leaves an ACTIVE drive ACTIVE. -/
theorem exchange_active {replies : PerChannel (Option (List Byte))} {c : Chan} (quiet : exchangeRise s replies c = none)
    (active : (s.chan c).drive = .active) (commanded : (s.chan c).commanded = true)
    (free : (s.chan c).faultPresent = false) : (exchangeRecord s replies c).drive = .active := by
  unfold exchangeRise at quiet
  rcases exchangeRecord_cases replies s c with ⟨-, he⟩ | ⟨st, fb, hg, he⟩
  · rw [he]; exact active
  · rw [hg] at quiet
    rw [he]
    cases st with
    | active => simp [takeGoodReply, nextDrive, active, commanded]
    | fault => simp [replyRise, free] at quiet
    | off => simp [replyRise, active, commanded] at quiet
    | busy => simp [replyRise, active, commanded] at quiet

theorem exchange_fault {replies : PerChannel (Option (List Byte))} {c : Chan} (quiet : exchangeRise s replies c = none)
    (hf : (exchangeRecord s replies c).faultPresent = true) : (s.chan c).faultPresent = true := by
  unfold exchangeRise at quiet
  rcases exchangeRecord_cases replies s c with ⟨-, he⟩ | ⟨st, fb, hg, he⟩
  · rwa [he] at hf
  · rw [hg] at quiet
    rw [he, takeGoodReply] at hf
    have hst : st = .fault := by split at hf <;> simpa [withOutside, holdChannel] using hf
    subst hst
    by_contra hn
    simp [replyRise, hn] at quiet

/-- R93: what a TRIPPED crane says of every channel. -/
theorem CraneAgrees.tripped (h : CraneAgrees s) (hs : s.crane.state = .tripped) (c : Chan) :
    (s.chan c).commanded = false ∧ (s.chan c).owner = .none ∧ braked s c = true := by
  have := h.drives c
  rwa [DriveAgrees, hs] at this

/-- The exchange keeps an ACTIVE drive ACTIVE, unless the crane is TRIPPED. -/
theorem exchange_stays_active {replies : PerChannel (Option (List Byte))} (h : CraneAgrees s)
    (hq : (∀ c, exchangeRise s replies c = none) ∨ s.crane.state = .tripped) (hs : s.crane.state ≠ .tripped) {c : Chan}
    (ha : (s.chan c).drive = .active) : (exchangeRecord s replies c).drive = .active :=
  exchange_active (hq.resolve_right hs c) ha (h.activeCommanded c ha)
    (Bool.eq_false_iff.2 fun hf => hs (h.faultTrips c hf))

theorem driveFits_exchange {replies : PerChannel (Option (List Byte))} (h : CraneAgrees s)
    (hq : (∀ c, exchangeRise s replies c = none) ∨ s.crane.state = .tripped) (c : Chan) :
    DriveFits (exchangeRecord s replies c) := by
  rcases exchangeRecord_cases replies s c with ⟨-, he⟩ | ⟨st, fb, hg, he⟩
  · rw [he]
    exact (h.driveFits c).of_same (sameDrive_of_eq rfl rfl rfl rfl rfl rfl rfl rfl)
  · rw [he]
    refine driveFits_goodReply _ _ _ _ fun ho => ?_
    have ha := exchange_stays_active h hq (fun hs => ho (h.tripped hs c).2.1) (h.ownedActive c ho)
    rw [he, takeGoodReply] at ha
    split at ha <;> exact ha

theorem driveAgrees_exchanged {replies : PerChannel (Option (List Byte))} (h : CraneAgrees s)
    (hq : (∀ c, exchangeRise s replies c = none) ∨ s.crane.state = .tripped) (n : Nat) (c : Chan)
    (hd : DriveAgrees s n c) : DriveAgrees (exchanged replies s) n c := by
  have hch : (exchanged replies s).chan c = exchangeRecord s replies c := PerChannel.get_ofFn _ c
  have hcfg : (exchanged replies s).cfg c = s.cfg c := rfl
  obtain ⟨hcom, hown⟩ := exchangeRecord_kept replies s c
  have hb := fun ha : isArm c = true => braked_exchanged replies s ha
  have hstays := fun hs => exchange_stays_active (c := c) h hq hs
  have hact := (driveFits_exchange h hq c).activeCommanded
  rw [hcom] at hact
  unfold DriveAgrees at hd ⊢
  rw [show (exchanged replies s).crane.state = s.crane.state from rfl, hch, hcom, hown, hcfg]
  cases hs : s.crane.state <;> rw [hs] at hd hb hstays <;>
    simp only [reduceCtorEq, false_and, if_false, true_and, ne_eq, not_false_eq_true, forall_const] at hd hb hstays ⊢
  case parked => exact fun ha => by rw [hb ha]; exact hd ha
  case tripped =>
    refine ⟨hd.1, hd.2.1, ?_⟩
    cases ha : isArm c
    · exact braked_iff.2 fun i hi => by cases c <;> simp_all [isArm, groupOf, brakeOf]
    · rw [hb ha]; exact hd.2.2
  case parking => exact fun ha => by rw [hb ha]; exact hd ha
  case arming =>
    refine ⟨fun hn => hstays (hd.1 hn), fun ha => ?_⟩
    have hda := hd.2 ha
    rw [hb ha]
    split
    next hn =>
      rw [if_pos hn] at hda
      exact ⟨hda.1, by rw [if_neg fun h => by rw [hda.1] at hact; exact absurd (hact h.2) (by simp)]; exact hda.2⟩
    next hn =>
      rw [if_neg hn] at hda
      intro hx
      split
      · rfl
      next hno => exact hda (by_contra fun h => hno ⟨h, hx⟩)
  case ready => exact ⟨hstays hd.1, fun ha => by rw [hb ha]; exact hd.2 ha⟩
  case stopping => exact ⟨hstays hd.1, fun ha => by rw [hb ha]; exact hd.2 ha⟩
  case halted => exact ⟨hstays hd.1, fun ha => by rw [hb ha]; exact hd.2 ha⟩

/-- An exchange that raises nothing, or finds the crane TRIPPED already. -/
theorem inOrder_exchanged {replies : PerChannel (Option (List Byte))} (h : InOrder s)
    (hq : (∀ c, exchangeRise s replies c = none) ∨ s.crane.state = .tripped) : InOrder (exchanged replies s) := by
  obtain ⟨hseq, hc⟩ := h
  have hch : ∀ c, (exchanged replies s).chan c = exchangeRecord s replies c := fun c => PerChannel.get_ofFn _ c
  refine ⟨hseq.of_eq rfl rfl rfl, craneAgrees_of (craneConfigured_of_eq hc.toCraneConfigured fun c => ⟨rfl, rfl⟩)
    (fun c => ?_) (fun c hf => ?_) (fun c ha ho => ?_) hc.slotUsed
    fun c => driveAgrees_exchanged hc hq _ c (hc.drives c)⟩
  · rw [hch]; exact driveFits_exchange hc hq c
  · rw [hch] at hf
    exact hq.elim (fun hq => hc.faultTrips c (exchange_fault (hq c) hf)) id
  · rw [hch, (exchangeRecord_kept replies s c).2] at ho
    exact hc.armOwned c ha ho

theorem inOrder_exchange (replies : PerChannel (Option (List Byte))) (h : InOrder s) : InOrder (driveExchange replies s) := by
  by_cases hq : (∀ c, exchangeRise s replies c = none) ∨ s.crane.state = .tripped
  · exact driveExchange_keeps replies (inOrder_exchanged h hq) fun c k u hu => inOrder_rise _ hu
  · obtain ⟨hr, hs⟩ := not_or.1 hq
    obtain ⟨c, hc⟩ := not_forall.1 hr
    obtain ⟨k, hk⟩ := Option.ne_none_iff_exists'.1 hc
    have ht := driveExchange_trips replies hk
    have hcfg : (driveExchange replies s).config = s.config :=
      driveExchange_keeps (P := fun u => u.config = s.config) replies rfl fun c k u hu =>
        (settled_eq_iff.1 (rise_settled u _)).1.trans hu
    refine inOrder_dropped (craneConfigured_of_eq h.crane.toCraneConfigured fun c => by
      rw [cfg_eq_of_config hcfg]; exact ⟨rfl, rfl⟩) ht ?_
    exact ((falls_event (.driveExchange replies) hs).resolve_right (fun hn => hn ht)).tripped ht

/-! ## Claims, releases and the channel update -/

/-- R16: a granted claim is on an ACTIVE drive, and on an ARM channel in READY alone. -/
theorem InOrder.of_claim (h : InOrder s) {p : Party} {moves : Bool} {c : Chan} (hc : claimCode p moves s c = none) :
    (s.chan c).drive = .active ∧ (isArm c = true → s.crane.state = .ready) := by
  refine ⟨h.crane.powered.active_of_claim hc, fun ha => ?_⟩
  have hg : groupOf c = .arm := by simpa [isArm] using ha
  unfold claimCode claimAllowed at hc
  rw [hg] at hc
  by_contra hn
  simp [hn] at hc

/-- Channels granted on claims that held, the others as they were. -/
theorem InOrder.of_grants (h : InOrder s) (hb : SameButWheels s t) {p : Chan → Prop}
    (claims : ∀ c, p c → (s.chan c).drive = .active ∧ (isArm c = true → s.crane.state = .ready))
    (granted : ∀ c, p c → ∃ y m d x, t.chan c = grantRecord y m d x (s.chan c))
    (others : ∀ c, ¬p c → t.chan c = s.chan c) : InOrder t := by
  refine h.of_same hb.crane hb.config (fun c => ?_) fun c ho => ?_
  all_goals by_cases hp : p c
  · obtain ⟨y, m, d, x, he⟩ := granted c hp
    rw [he]
    exact sameDrive_of_active (claims c hp).1 rfl rfl rfl
  · rw [others c hp]; exact .refl _
  · exact .inr (claims c hp).2
  · rw [others c hp] at ho; exact .inl ho

theorem inOrder_grant {p : Party} {moves : Bool} {m : Mode} {d x : Option Int} {c : Chan} (h : InOrder s)
    (hc : claimCode p moves s c = none) : InOrder (grant p m d x c s) := by
  refine h.of_grants (sameBody_grant s p m d x c).butWheels (p := (· = c)) (fun e he => he ▸ h.of_claim hc)
    (fun e he => ⟨p, m, d, x, ?_⟩) fun e he => ?_
  · rw [chan_grant, if_pos he, he]
  · rw [chan_grant, if_neg he]

theorem inOrder_goto {mask : ChannelMask} {targets : List (Chan × Int)} (h : InOrder s)
    (nodup : (targets.map (·.1)).Nodup) (claims : ∀ p ∈ targets, claimCode .console true s p.1 = none) :
    InOrder (gotoOpened mask targets s) := by
  refine h.of_grants (sameBody_gotoOpened s mask targets).butWheels (p := (· ∈ targets.map (·.1))) (fun c hc => ?_)
    (fun c hc => ?_) fun c hc => chan_gotoOpened_other s mask hc
  all_goals
    obtain ⟨p, hp, rfl⟩ := List.mem_map.1 hc
  · exact h.of_claim (claims p hp)
  · exact ⟨_, _, _, _, chan_gotoOpened_mem s mask nodup hp⟩

theorem inOrder_armTake {t : Take} {set : PerChannel Bool} (h : InOrder s)
    (claims : ∀ c, set.get c = true → claimCode .take false s c = none) : InOrder (armTake t set s) := by
  refine h.of_grants (sameBody_armTake s t set).butWheels (p := fun c => set.get c = true)
    (fun c hc => h.of_claim (claims c hc)) (fun c hc => ⟨.take, .path, none, none, ?_⟩) fun c hc => ?_
  all_goals rw [chan_armTake]
  · rw [if_pos hc]
  · rw [if_neg hc]

/-- Channels released, the others as they were. -/
theorem InOrder.of_releases (h : InOrder s) (crane : t.crane = s.crane) (config : t.config = s.config)
    (chans : ∀ c, t.chan c = s.chan c ∨ t.chan c = releaseChannel (s.chan c)) : InOrder t := by
  refine h.of_same crane config (fun c => ?_) fun c ho => .inl ?_
  all_goals rcases chans c with hc | hc
  · rw [hc]; exact .refl _
  · rw [hc]; exact sameDrive_release _
  · exact hc ▸ ho
  · rw [hc] at ho; exact absurd (releaseChannel_owner _) ho

theorem inOrder_endTake (r : TakeResult) (h : InOrder s) : InOrder (endTake r s) := by
  have hs := sameBody_endTake s r
  refine h.of_same hs.crane hs.config (fun c => ?_) fun c ho => .inl ?_
  all_goals rw [chan_endTake] at *
  · split
    next hc =>
      have ha := h.crane.ownedActive c (by simp [hc.2.2])
      exact (sameDrive_takeWritten _ _ _ _ _ ha).trans (sameDrive_release _)
    next => exact .refl _
  · split at ho
    · exact absurd (releaseChannel_owner _) ho
    · exact ho

theorem inOrder_engine : EngineKeeps InOrder where
  engine _ _ h _ _ := h.of_channels rfl rfl rfl
  tells _ h := h.of_channels rfl rfl rfl
  ends _ r h := inOrder_endTake r h

theorem inOrder_handOver (i : Fin 4) (h : InOrder s) : InOrder (handOver i s) := by
  refine h.of_grants (handOver_body i s) (p := fun c => claimCode .wheel false s c = none ∧ (handOver i s).chan c =
      grantRecord .wheel .position none (some (wheelTarget (s.chan c) (s.wheels.get i))) (s.chan c))
    (fun c hc => h.of_claim hc.1) (fun c hc => ⟨_, _, _, _, hc.2⟩) fun c hc => ?_
  exact (chan_handOver s i c).resolve_right fun hn => hc ⟨hn.2.1, hn.2.2⟩

theorem inOrder_updated (h : InOrder s) : InOrder (updated s) := by
  have h1 : InOrder (handOverAll s) :=
    inOrder_handOver 3 (inOrder_handOver 2 (inOrder_handOver 1 (inOrder_handOver 0 h)))
  have h2 : InOrder (runProfiles (handOverAll s)) := by
    refine h1.of_same rfl rfl (fun c => ?_) fun c ho => .inl ?_
    · rw [chan_runProfiles]; exact sameDrive_profile ..
    · rw [chan_runProfiles, (profile_owner ..).1] at ho; exact ho
  have h3 : InOrder (reachMoves (runProfiles (handOverAll s))) := by
    refine foldl_keeps _ h2 fun u hu c _ => ?_
    split
    · have hb := sameBody_reachMove u c
      exact hu.of_channels hb.crane hb.config (by simp)
    · exact hu
  refine h3.of_releases rfl rfl fun c => ?_
  rw [updated, releaseIdle, chan_mapChannels]
  split
  · exact .inr rfl
  · exact .inl rfl

/-- R98: STOPPING is left for HALTED. -/
theorem inOrder_channelUpdate (h : InOrder s) : InOrder (channelUpdate s) := by
  have hu := inOrder_updated h
  rw [channelUpdate_eq]
  rcases checkStandstill_cases (updated s) with he | ⟨hs, _, he⟩
  · rw [he]; exact hu
  · rw [he]
    refine hu.moves (.inr (.inl hs)) (.inr (.inr (enterCrane_state ..))) (by rw [enterCrane_crane]; rfl)
      (by rw [enterCrane_crane]; rfl) (by rw [enterCrane_crane]; rfl)
      ((settled_eq_iff.1 (enterCrane_settled ..)).1.trans rfl) (fun c => ?_) fun c ha ho => ?_
    · rw [chan_enterCrane, chan_mapChannels]
      exact sameDrive_of_eq rfl rfl rfl rfl rfl rfl rfl rfl
    · rw [chan_enterCrane, chan_mapChannels] at ho
      exact absurd (hu.noOwner (by simp [hs]) ha) ho

/-! ## Slots -/

@[simp] theorem enterCrane_config (st : CraneState) (x : StateExtra) (s : State) : (enterCrane st x s).config = s.config :=
  (settled_eq_iff.1 (enterCrane_settled s st x)).1

theorem CraneConfigured.of_config (h : CraneConfigured s) (config : t.config = s.config) : CraneConfigured t :=
  craneConfigured_of_eq h fun c => by rw [cfg_eq_of_config config]; exact ⟨rfl, rfl⟩

theorem braked_of_brakes (h : t.crane.brakes = s.crane.brakes) (c : Chan) : braked t c = braked s c := by
  unfold braked
  rw [h]

/-- R40: what the end of a parking slot leaves of a channel. -/
structure ParkedChannel (n : Nat) (s : State) (c : Chan) : Prop where
  fits : DriveFits ((parkedOff n s).chan c)
  faultPresent : ((parkedOff n s).chan c).faultPresent = (s.chan c).faultPresent
  owner : (s.chan c).owner = .none → ((parkedOff n s).chan c).owner = .none
  idle : isArm c = true → n ≤ (s.cfg c).releaseSlot → ((parkedOff n s).chan c).commanded = false

theorem InOrder.parkedChannel (h : InOrder s) (hs : s.crane.state = .parking) {n : Nat} (hp : s.crane.slotPointer = some n)
    (c : Chan) : ParkedChannel n s c := by
  have hch := chan_parkedOff n s c
  cases ho : parksOff s n c
  · rw [ho, if_neg (by simp)] at hch
    refine ⟨hch ▸ h.crane.driveFits c, by rw [hch], fun hn => by rw [hch, hn], fun hc hn => ?_⟩
    rcases hn.lt_or_eq with hl | he
    · rw [hch]; exact (h.parking hs hp).above c hc hl
    · have := h.crane.armKeepActive c hc
      simp [parksOff, inSlot, this, he] at ho
  · rw [ho, if_pos rfl] at hch
    exact ⟨hch ▸ driveFits_off _, by rw [hch]; rfl, fun _ => by rw [hch]; rfl, fun _ _ => by rw [hch]; rfl⟩

theorem inOrder_slot (h : InOrder s) (hs : SlotStep s t) : InOrder t := by
  have hcc := h.crane.toCraneConfigured
  cases hs with
  | none => exact h
  | tick n pointer => exact h.of_drives rfl rfl rfl rfl (fun _ => ⟨rfl, rfl⟩) (fun _ => .refl _) fun _ ho => .inl ho
  | armFail n pointer up failed =>
    refine h.parksFrom (h.sequence.arming_of_up up) pointer ((settled_eq_iff.1 (enterCrane_settled ..)).1.trans rfl)
      (enterCrane_state ..) (by rw [enterCrane_crane]; rfl) (by rw [enterCrane_crane]; rfl) (fun c hc => ?_)
      (fun c => ?_) fun c ho => ?_
    · exact (braked_of_brakes (s := startParkingSlot n { s with crane := { s.crane with sequence := .down } })
        (by rw [enterCrane_crane]) c).trans (braked_startParkingSlot n _ hc)
    · rw [chan_enterCrane, chan_startParkingSlot]; exact .refl _
    · rw [chan_enterCrane, chan_startParkingSlot] at ho; exact ho
  | nextUp n k pointer up active next =>
    have hs := h.sequence.arming_of_up up
    have ha := h.arming hs pointer
    obtain ⟨hlt, hu, hbetween⟩ := nextHigherSlot_some hcc.slots next
    refine inOrder_armingSlot hcc h.crane.driveFits (h.noFault (by simp [hs])) (fun c => h.noOwner (by simp [hs])) hu
      (fun c hc => ?_) (fun c hc hk => ha.above c hc (by omega)) (fun c hc hk => ?_) (fun _ => rfl) rfl rfl hs up rfl
    · rcases (hbetween c).resolve_right (by omega) |>.lt_or_eq with hl | he
      · exact ha.below c hl
      · exact active c he
    · have hle := (hbetween c).resolve_right (by omega)
      refine ha.released c hc hle ?_
      rcases hle.lt_or_eq with hl | he
      · exact ha.below c hl
      · exact active c he
  | ready n pointer up active last =>
    have hs := h.sequence.arming_of_up up
    have ha := h.arming hs pointer
    have hact : ∀ c, (s.chan c).drive = .active := fun c => by
      rcases (nextHigherSlot_none hcc.slots last c).lt_or_eq with hl | he
      · exact ha.below c hl
      · exact active c he
    have hst : (enterCrane .ready .none (clearSequence s)).crane.state = .ready := enterCrane_state ..
    have hch : ∀ c, (enterCrane .ready .none (clearSequence s)).chan c = s.chan c := fun c => by simp
    refine inOrder_resting (hcc.of_config ((enterCrane_config ..).trans rfl)) (by simp) (by rw [enterCrane_crane]; rfl)
      (by rw [enterCrane_crane]; rfl) (fun c => hch c ▸ h.crane.driveFits c) (fun c hf => ?_) (fun _ _ _ => hst)
      (drives_resting (.inl hst) (fun c => ⟨hch c ▸ hact c, fun hc => ?_⟩) 0)
    · rw [hch, h.noFault (by simp [hs])] at hf; cases hf
    · rw [braked_of_brakes (s := s) (by rw [enterCrane_crane]; rfl)]
      exact ha.released c hc (nextHigherSlot_none hcc.slots last c) (hact c)
  | nextDown n k pointer down next =>
    have hs := h.sequence.parking_of_down down
    have hp := h.parking hs pointer
    have hc := h.parkedChannel hs pointer
    have hb := parkedOff_body n s
    have hcfg := cfg_eq_of_config hb.config
    obtain ⟨hlt, ⟨d, hd⟩, hbetween⟩ := nextLowerSlot_some hcc.slots next
    have hch := fun c => chan_startParkingSlot (parkedOff n s) k c
    have hcr : (parkedOff n s).crane = s.crane := hb.crane
    refine inOrder_parking (n := k) (hcc.of_config hb.config) (by simp [startParkingSlot, hcr, hs])
      (by simp [startParkingSlot, hcr, down]) rfl ⟨d, (congrArg _ (hcfg d)).trans hd⟩ (fun c => hch c ▸ (hc c).fits)
      (fun c => ?_) (fun c ha => ?_) ⟨fun c ha hk => ?_, fun c ha hk => ?_⟩
    · rw [hch, (hc c).faultPresent, h.noFault (by simp [hs])]
    · rw [hch]; exact (hc c).owner (h.noOwner (by simp [hs]) ha)
    · have hk : k < (s.cfg c).releaseSlot := hcfg c ▸ hk
      rw [hch]
      exact (hc c).idle ha ((hbetween c).resolve_right (by omega))
    · have hk : k ≤ (s.cfg c).releaseSlot := hcfg c ▸ hk
      rw [braked_startParkingSlot k _ ha, hcfg, braked_of_brakes (s := s) (t := parkedOff n s) (by rw [hcr])]
      rcases hk.lt_or_eq with hl | he
      · simp [hp.braked c ha ((hbetween c).resolve_right (by omega))]
      · simp [he]
  | parked n pointer down last =>
    have hs := h.sequence.parking_of_down down
    have hp := h.parking hs pointer
    have hc := h.parkedChannel hs pointer
    have hb := parkedOff_body n s
    have hcr : (parkedOff n s).crane = s.crane := hb.crane
    have hle := nextLowerSlot_none hcc.slots last
    have hst : (enterCrane .parked .none (clearSequence (parkedOff n s))).crane.state = .parked := enterCrane_state ..
    have hch : ∀ c, (enterCrane .parked .none (clearSequence (parkedOff n s))).chan c = (parkedOff n s).chan c :=
      fun c => by simp
    refine inOrder_resting (hcc.of_config ((enterCrane_config ..).trans hb.config)) (by simp) (by rw [enterCrane_crane]; rfl)
      (by rw [enterCrane_crane]; rfl) (fun c => hch c ▸ (hc c).fits) (fun c hf => ?_) (fun c ha ho => ?_) fun c => ?_
    · rw [hch, (hc c).faultPresent, h.noFault (by simp [hs])] at hf; cases hf
    · rw [hch] at ho
      exact absurd ((hc c).owner (h.noOwner (by simp [hs]) ha)) ho
    · unfold DriveAgrees
      rw [hst, hch, braked_of_brakes (s := s) (by rw [enterCrane_crane]; simp [clearSequence, hcr])]
      exact fun ha => ⟨(hc c).idle ha (hle c), hp.braked c ha (hle c)⟩

/-! ## Events -/

theorem inOrder_sample : SampleKeeps InOrder where
  input _ h := h.of_channels rfl rfl rfl
  stops _ _ h _ _ := h.of_channels rfl rfl rfl
  channels u h := by
    have hc := chan_clearInhibits u
    refine h.of_same (by rw [clearInhibits_frame]) (by rw [clearInhibits_frame]) (fun c => ?_) fun c ho => .inl ?_
    all_goals obtain ⟨p, m, he⟩ := hc c
    · rw [he]; exact sameDrive_of_eq rfl rfl rfl rfl rfl rfl rfl rfl
    · rw [he] at ho; exact ho
  rises d _ h _ := inOrder_rise d h

/-- R168: a target written for FOCUS, which TRACK owns. -/
theorem InOrder.of_focus (h : InOrder s) (crane : t.crane = s.crane) (config : t.config = s.config)
    (chans : ∀ c, t.chan c = s.chan c ∨
      (c = .focus ∧ (s.chan c).owner = .track ∧ ∃ n, t.chan c = { s.chan c with target := some n })) : InOrder t := by
  refine h.of_same crane config (fun c => ?_) fun c ho => .inl ?_
  all_goals rcases chans c with hc | ⟨-, ht, n, hc⟩
  · rw [hc]; exact .refl _
  · rw [hc]; exact sameDrive_of_active (h.crane.ownedActive c (by simp [ht])) rfl rfl rfl
  · exact hc ▸ ho
  · rw [ht]; decide

theorem inOrder_event (h : InOrder s) (he : Event s t) : InOrder t := by
  cases he with
  | channelUpdate => exact inOrder_channelUpdate h
  | driveExchange r => exact inOrder_exchange r h
  | slotEvent => exact inOrder_slot h (slotEvent_step s)
  | zoneEvaluation =>
    have he : InOrder (evaluated s) := h.of_drives rfl rfl rfl rfl (fun _ => ⟨rfl, rfl⟩) (fun _ => .refl _) fun _ ho => .inl ho
    refine zoneEvaluation_keeps he (fun n => inOrder_rise _ he) fun d u hu => ?_
    exact hu.of_channels (by simp) (settled_eq_iff.1 (raiseZone_settled u d)).1 (by simp)
  | inputSample x => exact inOrder_sample.inputSample x h
  | frameEdge =>
    obtain ⟨f, n, hf⟩ := renewFrame_frame s
    have hr : InOrder (renewFrame s) := by rw [hf]; exact h.of_channels rfl rfl rfl
    rcases frameEdge_cases s with he | ⟨hw, he⟩
    · rw [he]; exact hr
    · rw [he]; exact inOrder_engine.startPlay hr (by rw [hf]; simp [hw])
  | presenceSample v => rw [presenceSample_frame]; exact h.of_channels rfl rfl rfl
  | engineMillisecond => exact inOrder_engine.engineMillisecond h
  | lensUpdate => exact h.of_focus (sameBody_lensUpdate s).crane (sameBody_lensUpdate s).config (chan_lensUpdate s)
  | wheelEdge w up => exact h.of_channels rfl rfl rfl
  | geometryUpdate => exact h.of_channels rfl rfl rfl

/-! ## Requests -/

/-- Flags under new limits. -/
theorem InOrder.of_limits (h : InOrder s) (crane : t.crane = s.crane) (config : t.config = s.config)
    (chans : ∀ c, t.chan c = s.chan c ∨ ∃ lo hi, t.chan c = withLimits lo hi (s.chan c)) : InOrder t := by
  refine h.of_same crane config (fun c => ?_) fun c ho => .inl ?_
  all_goals rcases chans c with hc | ⟨lo, hi, hc⟩
  · rw [hc]; exact .refl _
  · rw [hc]; exact sameDrive_withLimits ..
  · exact hc ▸ ho
  · rw [hc] at ho; exact ho

/-- R190: the flag of an ARM channel is no item. -/
theorem not_arm_of_keepActive {b : Byte} {d : Chan} (h : configItem b = some (.keepActive d)) : isArm d = false := by
  unfold configItem at h
  dsimp only at h
  split at h
  case h_9 =>
    obtain ⟨c, -, hc⟩ := Option.bind_eq_some_iff.1 h
    unfold keepActiveItem at hc
    split at hc
    · cases hc
    next hn => cases hc; simpa using hn
  case h_1 => unfold singleItem at h; split at h <;> simp at h
  case h_10 => unfold lineItem at h; split at h <;> simp at h
  case h_11 => unfold lineItem at h; split at h <;> simp at h
  all_goals simp at h

/-- The configuration of the sequences by item. -/
theorem cfg_store (s : State) (k : ConfigKey) (w : Int) (c : Chan) :
    (({ s with config := storeItem s.config k w } : State).cfg c).releaseSlot =
        (if k = .releaseSlot c then w.toNat else (s.cfg c).releaseSlot) ∧
      (({ s with config := storeItem s.config k w } : State).cfg c).keepActive =
        (if k = .keepActive c then decide (w = 1) else (s.cfg c).keepActive) := by
  simp only [State.cfg]
  cases k <;> simp only [storeItem, setParameters, setLine, PerChannel.get_set, reduceCtorEq, if_false, and_self,
    ConfigKey.releaseSlot.injEq, ConfigKey.keepActive.injEq]
  all_goals split
  all_goals simp_all [eq_comm]

/-- R191: what a stored item does to the configuration of the sequences. -/
theorem craneConfigured_store {k : ConfigKey} {w : Int} (h : CraneConfigured s) (low : (itemRange k).1 ≤ w)
    (high : w ≤ (itemRange k).2) (item : ∃ b, configItem b = some k) :
    CraneConfigured { s with config := storeItem s.config k w } := by
  refine ⟨fun c => ?_, fun c hc => ?_⟩
  · rw [(cfg_store s k w c).1]
    split
    next hk => subst hk; simp only [itemRange] at low high; omega
    next => exact h.slots c
  · rw [(cfg_store s k w c).2]
    split
    next hk =>
      obtain ⟨b, hb⟩ := item
      rw [not_arm_of_keepActive (hk ▸ hb)] at hc
      cases hc
    next => exact h.armKeepActive c hc

theorem inOrder_configSet {k : ConfigKey} {w : Int} (h : InOrder s) (low : (itemRange k).1 ≤ w)
    (high : w ≤ (itemRange k).2) (parked : parkedItem k = true → s.crane.state = .parked)
    (item : ∃ b, configItem b = some k) : InOrder (actOnWrite k { s with config := storeItem s.config k w }) := by
  have hcc := craneConfigured_store h.crane.toCraneConfigured low high item
  have hs : InOrder { s with config := storeItem s.config k w } := by
    by_cases hk : (∃ c, k = .releaseSlot c) ∨ ∃ c, k = .keepActive c
    · have hp := parked (by rcases hk with ⟨c, rfl⟩ | ⟨c, rfl⟩ <;> rfl)
      obtain ⟨hseq, hptr⟩ := h.noSequence (by simp [hp])
      refine inOrder_resting hcc (by simp [hp]) hseq hptr h.crane.driveFits h.crane.faultTrips h.crane.armOwned fun c => ?_
      have := h.crane.drives c
      rw [hptr] at this
      unfold DriveAgrees at this ⊢
      rw [hp] at this ⊢
      exact this
    · refine h.of_drives rfl rfl rfl rfl (fun c => ?_) (fun _ => .refl _) fun _ ho => .inl ho
      obtain ⟨h1, h2⟩ := cfg_store s k w c
      rw [if_neg fun he => hk (.inl ⟨c, he⟩)] at h1
      rw [if_neg fun he => hk (.inr ⟨c, he⟩)] at h2
      exact ⟨h1, h2⟩
  refine hs.of_limits (by rw [actOnWrite_frame]) (by rw [actOnWrite_frame]) fun c => ?_
  rw [chan_actOnWrite]
  split
  · exact .inr ⟨_, _, rfl⟩
  · exact .inl rfl

theorem inOrder_inhibits (h : InOrder s) (crane : t.crane = s.crane) (config : t.config = s.config)
    (hc : SameButInhibits s t) : InOrder t := by
  refine h.of_same crane config (fun c => ?_) fun c ho => .inl ?_
  all_goals obtain ⟨p, m, he⟩ := hc c
  · rw [he]; exact sameDrive_of_eq rfl rfl rfl rfl rfl rfl rfl rfl
  · rw [he] at ho; exact ho

/-- R100: TRIPPED is left for PARKED, no drive in FAULT. -/
theorem inOrder_ackTripped (h : InOrder s) (hs : s.crane.state = .tripped) (free : ackBlocked s = false) :
    InOrder (enterCrane .parked .none (setInhibits (clearLatches s))) := by
  obtain ⟨hseq, hptr⟩ := h.noSequence (by simp [hs])
  have hnf : ∀ c, (s.chan c).faultPresent = false := fun c => by
    simp only [ackBlocked, Bool.or_eq_false_iff, List.any_eq_false, Bool.not_eq_true] at free
    exact free.2 c (mem_allChans c)
  have hch := chan_setInhibits (clearLatches s)
  have hcr : (setInhibits (clearLatches s)).crane = s.crane := by rw [setInhibits_frame]; rfl
  have hst : (enterCrane .parked .none (setInhibits (clearLatches s))).crane.state = .parked := enterCrane_state ..
  refine inOrder_resting (h.crane.toCraneConfigured.of_config ((enterCrane_config ..).trans (by rw [setInhibits_frame]; rfl)))
    (by simp) (by rw [enterCrane_crane, hcr]; exact hseq) (by rw [enterCrane_crane, hcr]; exact hptr) (fun c => ?_)
    (fun c hf => ?_) (fun c hc ho => ?_) fun c => ?_
  all_goals
    obtain ⟨p, m, he⟩ := hch c
    simp only [chan_enterCrane] at *
  · rw [he]
    exact (h.crane.driveFits c).of_same (sameDrive_of_eq rfl rfl rfl rfl rfl rfl rfl rfl)
  · rw [he] at hf
    exact absurd ((hnf c).symm.trans hf) (by decide)
  · rw [he] at ho
    exact absurd (h.crane.tripped hs c).2.1 ho
  · unfold DriveAgrees
    rw [hst, chan_enterCrane, he, braked_of_brakes (s := s) (by rw [enterCrane_crane, hcr])]
    exact fun _ => ⟨(h.crane.tripped hs c).1, (h.crane.tripped hs c).2.2⟩

/-- R39, R40: PARK starts the highest used slot, every drive ACTIVE and no ARM channel owned. -/
theorem inOrder_park (h : InOrder s) (hs : s.crane.state = .ready)
    (still : ∀ c, isLens c = false → (s.chan c).owner = .none ∧ (s.chan c).velocity = 0) :
    InOrder (enterCrane .parking .none
      (startParkingSlot ((highestSlot s).getD 8) { s with crane := { s.crane with sequence := .down } })) := by
  obtain ⟨n, hn, hu, hle⟩ := highestSlot_spec h.crane.slots
  rw [hn]
  have hch : ∀ c, (enterCrane .parking .none (startParkingSlot ((some n).getD 8)
      { s with crane := { s.crane with sequence := .down } })).chan c = s.chan c := fun c => by
    rw [chan_enterCrane, chan_startParkingSlot]; rfl
  have hcfg : ∀ c, (enterCrane .parking .none (startParkingSlot ((some n).getD 8)
      { s with crane := { s.crane with sequence := .down } })).cfg c = s.cfg c :=
    cfg_eq_of_config ((enterCrane_config ..).trans rfl)
  refine inOrder_parking (n := n) (h.crane.toCraneConfigured.of_config ((enterCrane_config ..).trans rfl)) (enterCrane_state ..)
    (by rw [enterCrane_crane]; rfl) (by rw [enterCrane_crane]; rfl) (by simpa only [hcfg] using hu)
    (fun c => hch c ▸ h.crane.driveFits c) (fun c => hch c ▸ h.noFault (by simp [hs]) c) (fun c hc => ?_)
    ⟨fun c hc hk => ?_, fun c hc hk => ?_⟩
  · rw [hch]
    exact (still c (by simpa [isBody] using isBody_of_arm hc)).1
  · rw [hcfg] at hk
    exact absurd (hle c) (by omega)
  · rw [hcfg] at hk
    refine (braked_of_brakes (s := startParkingSlot n { s with crane := { s.crane with sequence := .down } })
      (by rw [enterCrane_crane]; rfl) c).trans ((braked_startParkingSlot n _ hc).trans ?_)
    simp [show (({ s with crane := { s.crane with sequence := .down } } : State).cfg c).releaseSlot = n from
      le_antisymm (hle c) hk]

theorem inOrder_trackOff (h : InOrder s) : InOrder (trackingOff (releaseTracked s)) := by
  have hb := sameBody_trackOff s
  refine h.of_releases hb.crane hb.config fun c => ?_
  rw [chan_trackOff]
  split
  · exact .inr rfl
  · exact .inl rfl

theorem inOrder_taken {j : Instr} (h : InOrder s) (ht : Taken j s t) : InOrder t := by
  cases ht
  case notice k => rw [serveNoticeTimer_frame]; exact h.of_channels rfl rfl rfl
  case configSet k w low high order parked item => exact inOrder_configSet h low high parked item
  case arm parked _ _ _ => exact inOrder_arm h parked
  case park ready idle still => exact inOrder_park h ready still
  case jog c d claim => exact inOrder_grant h claim.choose_spec
  case goto mask targets some nodup claims => exact inOrder_goto h nodup claims
  case release hit console =>
    refine h.of_releases (by simp) (settled_eq_iff.1 (interruptMoves_settled ..)).1 fun c => ?_
    rw [chan_interruptMoves, chan_mapChannels]
    split
    · exact .inr rfl
    · exact .inl rfl
  case wheelAssign w c gain =>
    unfold releaseWheelChannel
    split
    next d _ =>
      split
      · refine h.of_releases rfl rfl fun e => ?_
        rw [chan_setChan]
        split
        next he => exact .inr (he ▸ rfl)
        next => exact .inl rfl
      · exact h.of_channels rfl rfl rfl
    next => exact h.of_channels rfl rfl rfl
  case stop o => exact inOrder_rise _ h
  case ackHalted halted =>
    refine h.moves (.inr (.inr halted)) (.inl (enterCrane_state ..)) (by rw [enterCrane_crane]; rfl)
      (by rw [enterCrane_crane]; rfl) (by rw [enterCrane_crane]; rfl) ((enterCrane_config ..).trans rfl)
      (fun c => ?_) fun _ _ _ => enterCrane_state ..
    rw [chan_enterCrane]
    exact .refl _
  case ackTripped tripped free => exact inOrder_ackTripped h tripped free
  case ackParked =>
    have h1 := inOrder_inhibits (t := setInhibits (clearLatches s)) h (by rw [setInhibits_frame]; rfl)
      (by rw [setInhibits_frame]; rfl) (chan_setInhibits (clearLatches s))
    exact h1.of_channels (by simp) (settled_eq_iff.1 (raiseState_settled ..)).1 (by simp)
  case takeArm n t found ready idle cues some claims => exact inOrder_armTake h claims
  case play armed => exact inOrder_engine.startPlay h (by simp [armed])
  case abort => exact inOrder_endTake _ h
  case mapSetSelected b m valid _ _ =>
    have hb := sameBody_applyChangedLimits (setBanks s (s.lens.banks.set b (some (storedMap m)))) s
    refine h.of_limits hb.crane hb.config fun c => ?_
    rw [chan_applyChangedLimits]
    split
    · exact .inr ⟨_, _, rfl⟩
    · exact .inl rfl
  case lensSelect b held free =>
    have hb := sameBody_selectBank s b
    refine h.of_limits hb.crane hb.config fun c => ?_
    rw [chan_selectBank]
    split
    · exact .inr ⟨_, _, rfl⟩
    · exact .inl rfl
  case trackOn n map found claim =>
    have h1 := inOrder_grant (m := .position) (d := none) (x := some (s.chan .focus).setpoint) h claim
    have h2 : InOrder (setTracking (grant .track .position none (some (s.chan .focus).setpoint) .focus s)
      { (grant .track .position none (some (s.chan .focus).setpoint) .focus s).lens.tracking with target := some n }) :=
      h1.of_channels rfl rfl rfl
    have hb := sameBody_evaluateTracking (setTracking (grant .track .position none (some (s.chan .focus).setpoint) .focus s)
      { (grant .track .position none (some (s.chan .focus).setpoint) .focus s).lens.tracking with target := some n })
    exact (h2.of_focus hb.crane hb.config (chan_evaluateTracking _)).of_channels rfl rfl rfl
  case trackOff => exact inOrder_trackOff h
  all_goals exact h.of_channels rfl rfl rfl

/-! ## Every command -/

theorem inOrder_reset (warm : Bool) (cause : ResetCause) (straps : Straps) (h : CraneConfigured s) :
    InOrder (performReset warm cause straps s) := by
  have hr : InOrder .reset := ⟨sequenceAgrees_reset, craneAgrees_reset⟩
  unfold performReset
  split
  · exact inOrder_resting (s := warmReset cause straps s) (h.of_config rfl) ⟨nofun, nofun⟩ rfl rfl hr.crane.driveFits
      hr.crane.faultTrips hr.crane.armOwned hr.crane.drives
  · exact hr.of_channels rfl rfl rfl

/-- What O5 speaks of: the sequences and their configuration always, drives and owners while the part runs. -/
structure CraneOrder (s : State) : Prop where
  sequence : SequenceAgrees s
  config : CraneConfigured s
  running : s.running = true → CraneAgrees s

theorem CraneOrder.inOrder (h : CraneOrder s) (hr : s.running = true) : InOrder s := ⟨h.sequence, h.running hr⟩

theorem InOrder.order (h : InOrder s) : CraneOrder s := ⟨h.sequence, h.crane.toCraneConfigured, fun _ => h.crane⟩

theorem craneOrder_effect {i : Instr} (h : CraneOrder s) (he : Effect i s t) : CraneOrder t := by
  cases he with
  | nothing => exact h
  | receiver l running => exact InOrder.order ((h.inOrder running).of_channels rfl rfl rfl)
  | request j l receives =>
    have h1 : InOrder (serveSupervision s) := (h.inOrder (running_of_canReceive s receives)).of_channels rfl rfl rfl
    exact InOrder.order ((inOrder_taken h1 (takeRequest_taken j _)).of_channels rfl rfl rfl)
  | timers running => exact InOrder.order ((h.inOrder running).of_channels rfl rfl rfl)
  | expiry k n running =>
    have ht : InOrder { tickLinkTimers s with freeCount := n } := (h.inOrder running).of_channels rfl rfl rfl
    rcases expireLink_cases k { tickLinkTimers s with freeCount := n } _ rfl with ⟨_, he⟩ | ⟨_, he⟩
    · rw [he]; exact InOrder.order (ht.of_channels rfl rfl rfl)
    · rw [he]; exact InOrder.order (inOrder_rise _ (ht.of_channels rfl rfl rfl))
  | event _ running event => exact (inOrder_event (h.inOrder running) event).order
  | held p off => exact ⟨h.sequence.of_eq rfl rfl rfl, h.config.of_config rfl, fun hr => absurd (hr.symm.trans off) (by decide)⟩
  | backup p main reset =>
    refine ⟨h.sequence.of_eq rfl rfl rfl, h.config.of_config rfl, fun hr => ?_⟩
    have hr : s.running = true := by
      rw [← hr]
      simp only [State.running, main, reset]
    exact InOrder.crane ((h.inOrder hr).of_channels rfl rfl rfl)
  | reset warm cause straps p => exact InOrder.order (inOrder_reset warm cause straps (h.config.of_config rfl))

/-- Settles O5: by what each command does to drives, brakes, owners and the sequence. -/
theorem stepsKeepTheCraneInOrder : Obligations.StepsKeepTheCraneInOrder := by
  intro s t h1 h2 h3 ht
  have hk : CraneOrder t := by
    refine step_keeps (P := CraneOrder) (fun u q h => ?_) (fun i u v h he => craneOrder_effect h he) ⟨h1, h2, h3⟩ ht
    refine ⟨h.sequence.of_eq rfl rfl rfl, h.config.of_config rfl, fun hr => ?_⟩
    exact InOrder.crane ((h.inOrder hr).of_channels rfl rfl rfl)
  exact ⟨hk.sequence, hk.config, hk.running⟩

end CraneOrder

end Sys2Proof.Machine

/-! What every command keeps of tracking (R159, R164), of ATTN (R187), and of the outputs of a held part (R46). -/

namespace Sys2Proof.Machine

section Tracking

variable {s t u : State}

/-! ## Tracking -/

theorem TrackAgrees.of_parts (h : TrackAgrees s) (tracking : t.lens.tracking = s.lens.tracking)
    (owners : ∀ c, (t.chan c).owner = .track ↔ (s.chan c).owner = .track)
    (target : ∀ n, s.lens.tracking.target = some n → s.findTarget n ≠ none → t.findTarget n ≠ none)
    (map : s.selectedMap ≠ none → t.selectedMap ≠ none)
    (held : ∀ b, t.lens.selected = some b → t.lens.banks.get b ≠ none) : TrackAgrees t := by
  refine ⟨fun c hc => h.focusOnly c ((owners c).1 hc), ?_, ?_, ?_, fun n hn => ?_, fun hs => ?_, held⟩
  · rw [owners, tracking]; exact h.owned
  · rw [tracking]; exact h.target
  · rw [tracking]; exact h.rangeClear
  · rw [tracking] at hn; exact target n hn (h.targetExists n hn)
  · rw [tracking] at hs; exact map (h.mapSelected hs)

theorem TrackAgrees.of_owners (h : TrackAgrees s) (lens : t.lens = s.lens)
    (owners : ∀ c, (t.chan c).owner = .track ↔ (s.chan c).owner = .track) : TrackAgrees t := by
  refine h.of_parts (by rw [lens]) owners (fun n _ => ?_) ?_ ?_
  · unfold State.findTarget; rw [lens]; exact id
  · unfold State.selectedMap; rw [lens]; exact id
  · rw [lens]; exact h.bankHeld

theorem TrackAgrees.of_channels (h : TrackAgrees s) (lens : t.lens = s.lens) (channels : t.channels = s.channels) :
    TrackAgrees t :=
  h.of_owners lens fun c => by rw [chan_eq_of_channels channels]

/-- R169: tracking is OFF, and TRACK owns nothing. -/
theorem TrackAgrees.goesOff (h : TrackAgrees s) (lens : t.lens = (trackingOff s).lens)
    (owners : ∀ c, (t.chan c).owner ≠ .track) : TrackAgrees t := by
  have hoff : (trackingOff s).lens.tracking.target = none ∧ (trackingOff s).lens.tracking.range = false := by
    unfold trackingOff
    split
    next ho => exact ⟨h.target.2 ho, h.rangeClear ho⟩
    next => exact ⟨rfl, rfl⟩
  have hst := trackingOff_state s
  rw [← lens] at hoff hst
  refine ⟨fun c hc => absurd hc (owners c), ⟨fun hc => absurd hc (owners _), fun hn => absurd hst hn⟩, ?_, fun _ => hoff.2,
    fun n hn => ?_, fun hn => absurd hst hn, ?_⟩
  · rw [hoff.1, hst]; simp
  · rw [hoff.1] at hn; cases hn
  · rw [lens]; simpa using h.bankHeld

/-- TRACK owns no channel but FOCUS. -/
theorem TrackAgrees.not_track (h : TrackAgrees s) {c : Chan} (hc : c ≠ .focus) : (s.chan c).owner ≠ .track :=
  fun ho => hc (h.focusOnly c ho)

theorem trackAgrees_restFor (d : CauseDetail) (h : TrackAgrees s) : TrackAgrees (restFor d s) := by
  refine h.of_owners ?_ fun c => by rw [(restFor_channel d s c).2]
  unfold restFor
  split
  · exact restLens_lens s
  · rfl

theorem liveHead_ne_focus {c : Chan} (h : liveHead s c = true) : c ≠ .focus := by
  rintro rfl
  simp [liveHead, isHead, groupOf] at h

theorem trackAgrees_stopLiveHead (h : TrackAgrees s) : TrackAgrees (stopLiveHead s) := by
  refine h.of_owners (by simp) fun c => ?_
  rw [chan_stopLiveHead]
  split
  next hl => rw [stopChannel_owner]; exact ⟨nofun, fun ho => absurd ho (h.not_track (liveHead_ne_focus hl))⟩
  next => rfl

theorem Noticed.lens (h : Noticed u t) : t.lens = u.lens := by
  rcases h with rfl | rfl
  · rfl
  · simp

theorem trackingOff_lens (h : t.lens = s.lens) : (trackingOff t).lens = (trackingOff s).lens := by
  unfold trackingOff
  rw [h]
  split <;> simp [h]

theorem entryA_lens (s : State) : (entryA s).lens = (trackingOff s).lens := by
  simp only [entryA, enterCrane_lens, clearSequence_lens]
  exact trackingOff_lens (by simp)

theorem trackAgrees_rise (d : CauseDetail) (h : TrackAgrees s) : TrackAgrees (rise d s) := by
  have hl : TrackAgrees (restFor d (latchCause d s)) :=
    trackAgrees_restFor d (h.of_channels (by simp) (by simp))
  have hr := rise_risen d (s := s)
  generalize rise d s = t at hr
  cases hr with
  | ignored => exact h
  | trips =>
    refine TrackAgrees.goesOff (s := latchCause d s) (h.of_channels (by simp) (by simp)) (entryA_lens _) fun c => ?_
    rw [chan_entryA]
    exact (by decide : Owner.none ≠ .track)
  | stops =>
    refine hl.of_owners (by simp) fun c => ?_
    rw [chan_entryBReady]
    split
    next hb =>
      rw [stopChannel_owner]
      exact ⟨nofun, fun ho => absurd ho (hl.not_track (by rintro rfl; exact absurd hb (by decide)))⟩
    next => split
            next ht => rw [releaseChannel_owner, ht]; simp
            next => rfl
  | parks =>
    refine (trackAgrees_stopLiveHead hl).of_owners (by simp) fun c => ?_
    rw [chan_entryBArming, chan_stopLiveHead]
  | stays _ _ _ told => exact (trackAgrees_stopLiveHead hl).of_channels told.lens told.channels.1
  | latched _ _ told => exact hl.of_channels told.lens told.channels.1

theorem trackAgrees_endTake (r : TakeResult) (h : TrackAgrees s) : TrackAgrees (endTake r s) := by
  refine h.of_owners (by simp) fun c => ?_
  rw [chan_endTake]
  split
  next hc => rw [releaseChannel_owner, hc.2.2]; simp
  next => rfl

theorem trackAgrees_engine : EngineKeeps TrackAgrees where
  engine _ _ h _ _ := h.of_channels rfl rfl
  tells _ h := h.of_channels rfl rfl
  ends _ r h := trackAgrees_endTake r h

/-- R18: what a grant does to the tracking record. -/
theorem grant_lens {p : Party} (hp : p ≠ .track) (m : Mode) (d x : Option Int) (c : Chan) (s : State) :
    (grant p m d x c s).lens = if (s.chan c).owner = .track then (trackingOff s).lens else s.lens := by
  unfold grant reportLoss
  cases (s.chan c).owner
  case take => by_cases hw : p = .wheel <;> simp [hw]
  case track =>
    rw [if_pos rfl]
    dsimp only
    rw [if_neg hp]
    exact trackingOff_lens rfl
  all_goals simp

theorem trackAgrees_grant {p : Party} (hp : p ≠ .track) (m : Mode) (d x : Option Int) (c : Chan) (h : TrackAgrees s) :
    TrackAgrees (grant p m d x c s) := by
  have hn : partyOwner p ≠ .track := by cases p <;> simp_all [partyOwner]
  by_cases ho : (s.chan c).owner = .track
  · refine h.goesOff (by rw [grant_lens hp, if_pos ho]) fun e => ?_
    rw [chan_grant]
    split
    · exact hn
    next he => exact h.not_track (h.focusOnly c ho ▸ he)
  · refine h.of_owners (by rw [grant_lens hp, if_neg ho]) fun e => ?_
    rw [chan_grant]
    split
    next he => rw [he]; exact ⟨fun h => absurd h hn, fun h => absurd h ho⟩
    next => rfl

/-- Channels that TRACK does not own are released. -/
theorem TrackAgrees.of_releases (h : TrackAgrees s) (lens : t.lens = s.lens)
    (chans : ∀ c, t.chan c = s.chan c ∨ ((s.chan c).owner ≠ .track ∧ t.chan c = releaseChannel (s.chan c))) :
    TrackAgrees t := by
  refine h.of_owners lens fun c => ?_
  rcases chans c with hc | ⟨ho, hc⟩
  · rw [hc]
  · rw [hc, releaseChannel_owner]; exact ⟨nofun, fun hn => absurd hn ho⟩

theorem trackAgrees_handOver (i : Fin 4) (h : TrackAgrees s) : TrackAgrees (handOver i s) := by
  unfold handOver
  dsimp only
  split
  · exact h.of_channels rfl rfl
  · split
    · exact h.of_channels rfl rfl
    · split
      · exact h.of_channels rfl rfl
      · refine trackAgrees_grant (by simp) _ _ _ _ (s := { s with wheels := _ }) (h.of_channels rfl rfl)

theorem trackAgrees_updated (h : TrackAgrees s) : TrackAgrees (updated s) := by
  have h1 : TrackAgrees (handOverAll s) :=
    trackAgrees_handOver 3 (trackAgrees_handOver 2 (trackAgrees_handOver 1 (trackAgrees_handOver 0 h)))
  have h2 : TrackAgrees (runProfiles (handOverAll s)) :=
    h1.of_owners rfl fun c => by rw [chan_runProfiles, (profile_owner ..).1]
  have h3 : TrackAgrees (reachMoves (runProfiles (handOverAll s))) := by
    refine foldl_keeps _ h2 fun u hu c _ => ?_
    split
    · exact hu.of_channels (by simp) (by simp)
    · exact hu
  refine h3.of_releases rfl fun c => ?_
  rw [updated, releaseIdle, chan_mapChannels]
  split
  next hc => exact .inr ⟨by rw [hc.1]; decide, rfl⟩
  next => exact .inl rfl

theorem trackAgrees_channelUpdate (h : TrackAgrees s) : TrackAgrees (channelUpdate s) := by
  have hu := trackAgrees_updated h
  rw [channelUpdate_eq]
  rcases checkStandstill_cases (updated s) with he | ⟨_, _, he⟩
  · rw [he]; exact hu
  · rw [he]
    refine hu.of_owners (by simp) fun c => ?_
    rw [chan_enterCrane, chan_mapChannels]
    rfl

theorem trackAgrees_parkedOff (n : Nat) (h : TrackAgrees s) : TrackAgrees (parkedOff n s) := by
  have hch := chan_parkedOff n s
  cases hf : parksOff s n .focus
  · refine h.of_owners (by simp [parkedOff, hf]) fun c => ?_
    rw [hch]
    split
    next hc =>
      have hne : c ≠ .focus := by rintro rfl; rw [hf] at hc; cases hc
      exact ⟨nofun, fun ho => absurd ho (h.not_track hne)⟩
    next => rfl
  · refine h.goesOff (by rw [parkedOff, hf, if_pos rfl]; exact trackingOff_lens (by simp)) fun c => ?_
    rw [hch]
    split
    · exact (by decide : Owner.none ≠ .track)
    next hc => exact h.not_track (by rintro rfl; exact hc hf)

theorem trackAgrees_startArmingSlot (n : Nat) (h : TrackAgrees s) : TrackAgrees (startArmingSlot n s) := by
  refine h.of_owners rfl fun c => ?_
  rw [chan_startArmingSlot]
  split <;> rfl

theorem trackAgrees_enterCrane (st : CraneState) (x : StateExtra) (h : TrackAgrees s) : TrackAgrees (enterCrane st x s) :=
  h.of_channels (by simp) (by simp)

theorem trackAgrees_slot (h : TrackAgrees s) (hs : SlotStep s t) : TrackAgrees t := by
  cases hs with
  | none => exact h
  | tick => exact h.of_channels rfl rfl
  | armFail => exact trackAgrees_enterCrane _ _ (h.of_channels rfl rfl)
  | nextUp n k => exact trackAgrees_startArmingSlot k h
  | ready => exact trackAgrees_enterCrane _ _ (h.of_channels rfl rfl)
  | nextDown n k => exact (trackAgrees_parkedOff n h).of_channels rfl rfl
  | parked n => exact trackAgrees_enterCrane _ _ ((trackAgrees_parkedOff n h).of_channels rfl rfl)

theorem trackAgrees_inhibits (h : TrackAgrees s) (lens : t.lens = s.lens) (hc : SameButInhibits s t) : TrackAgrees t := by
  refine h.of_owners lens fun c => ?_
  obtain ⟨p, m, he⟩ := hc c
  rw [he]

theorem trackAgrees_sample : SampleKeeps TrackAgrees where
  input _ h := h.of_channels rfl rfl
  stops _ _ h _ _ := h.of_channels rfl rfl
  channels u h := trackAgrees_inhibits h (by rw [clearInhibits_frame]) (chan_clearInhibits u)
  rises d _ h _ := trackAgrees_rise d h

/-- R168: what an evaluation leaves of the lens record. -/
theorem evaluateTracking_lens (s : State) : ∃ k, (evaluateTracking s).lens = { s.lens with tracking := k } ∧
    k.state ≠ .off ∧ k.target = s.lens.tracking.target := by
  have hw : ∀ (n : Int) (u : State), (writeFocus n u).lens = u.lens := fun n u => by
    unfold writeFocus
    split <;> rfl
  unfold evaluateTracking
  dsimp only
  split
  · split
    · exact ⟨_, hw _ _, nofun, rfl⟩
    · exact ⟨_, rfl, nofun, rfl⟩
  · exact ⟨_, rfl, nofun, rfl⟩

/-- What `TrackAgrees` says of a state in which TRACK owns FOCUS and the tracking record is about to be evaluated. -/
structure Tracks (s : State) : Prop where
  focusOnly : ∀ c, (s.chan c).owner = .track → c = .focus
  owned : (s.chan .focus).owner = .track
  target : ∃ n, s.lens.tracking.target = some n ∧ s.findTarget n ≠ none
  map : s.selectedMap ≠ none
  held : ∀ b, s.lens.selected = some b → s.lens.banks.get b ≠ none

theorem TrackAgrees.tracks (h : TrackAgrees s) (hs : s.lens.tracking.state ≠ .off) : Tracks s := by
  obtain ⟨n, hn⟩ := Option.ne_none_iff_exists'.1 fun ht => hs (h.target.1 ht)
  exact ⟨h.focusOnly, h.owned.2 hs, ⟨n, hn, h.targetExists n hn⟩, h.mapSelected hs, h.bankHeld⟩

theorem Tracks.evaluated (h : Tracks s) : TrackAgrees (evaluateTracking s) := by
  obtain ⟨k, hl, hs, ht⟩ := evaluateTracking_lens s
  have ho : ∀ c, ((evaluateTracking s).chan c).owner = (s.chan c).owner := fun c => by
    rcases chan_evaluateTracking s c with hc | ⟨-, -, n, hc⟩ <;> rw [hc]
  obtain ⟨n, hn, hf⟩ := h.target
  have hk : (evaluateTracking s).lens.tracking = k := by rw [hl]
  have hft : (evaluateTracking s).findTarget = s.findTarget := by unfold State.findTarget; rw [hl]
  have hsm : (evaluateTracking s).selectedMap = s.selectedMap := by unfold State.selectedMap; rw [hl]
  refine ⟨fun c hc => h.focusOnly c (ho c ▸ hc), ?_, ?_, fun ho => ?_, fun j hj => ?_, fun _ => hsm ▸ h.map, ?_⟩
  · rw [ho, hk]; exact ⟨fun _ => hs, fun _ => h.owned⟩
  · rw [hk, ht, hn]; exact ⟨nofun, fun ho => absurd ho hs⟩
  · rw [hk] at ho; exact absurd ho hs
  · rw [hk, ht, hn, Option.some.injEq] at hj
    rw [hft, ← hj]
    exact hf
  · rw [hl]; exact h.held

theorem findTarget_aged (s : State) (n : Nat) :
    (setTargets s (s.lens.targets.map ageTarget)).findTarget n = (s.findTarget n).map ageTarget := by
  unfold State.findTarget setTargets
  rw [List.find?_map]
  rfl

theorem trackAgrees_lensUpdate (h : TrackAgrees s) : TrackAgrees (lensUpdate s) := by
  have h1 : TrackAgrees (setTargets s (s.lens.targets.map ageTarget)) := by
    refine h.of_parts rfl (fun _ => Iff.rfl) (fun n _ hn => ?_) id h.bankHeld
    rw [findTarget_aged]
    simpa using hn
  unfold lensUpdate trackUpdate
  split
  · exact h1
  next hs =>
    have h2 := (h1.tracks hs).evaluated
    dsimp only
    split
    · exact h2.of_channels rfl rfl
    · exact h2

theorem trackAgrees_event (h : TrackAgrees s) (he : Event s t) : TrackAgrees t := by
  cases he with
  | channelUpdate => exact trackAgrees_channelUpdate h
  | driveExchange r =>
    have hx : TrackAgrees (exchanged r s) := h.of_owners rfl fun c => by
      rw [show (exchanged r s).chan c = exchangeRecord s r c from PerChannel.get_ofFn _ c, (exchangeRecord_kept r s c).2]
    exact driveExchange_keeps r hx fun c k u hu => trackAgrees_rise _ hu
  | slotEvent => exact trackAgrees_slot h (slotEvent_step s)
  | zoneEvaluation =>
    have he : TrackAgrees (evaluated s) := h.of_channels rfl rfl
    exact zoneEvaluation_keeps he (fun n => trackAgrees_rise _ he) fun d u hu => hu.of_channels (by simp) (by simp)
  | inputSample x => exact trackAgrees_sample.inputSample x h
  | frameEdge =>
    obtain ⟨f, n, hf⟩ := renewFrame_frame s
    have hr : TrackAgrees (renewFrame s) := by rw [hf]; exact h.of_channels rfl rfl
    rcases frameEdge_cases s with he | ⟨hw, he⟩
    · rw [he]; exact hr
    · rw [he]; exact trackAgrees_engine.startPlay hr (by rw [hf]; simp [hw])
  | presenceSample v => rw [presenceSample_frame]; exact h.of_channels rfl rfl
  | engineMillisecond => exact trackAgrees_engine.engineMillisecond h
  | lensUpdate => exact trackAgrees_lensUpdate h
  | wheelEdge w up => exact h.of_channels rfl rfl
  | geometryUpdate => exact h.of_channels rfl rfl

/-- R10: flags under new limits, and no other change of a channel. -/
theorem TrackAgrees.of_limits (h : TrackAgrees s) (lens : t.lens = s.lens) {lo hi : Chan → Int} {p : Chan → Prop}
    [DecidablePred p] (chans : ∀ c, t.chan c = if p c then withLimits (lo c) (hi c) (s.chan c) else s.chan c) :
    TrackAgrees t := by
  refine h.of_owners lens fun c => ?_
  rw [chans]
  split <;> rfl

/-- R157, R158: a bank written, the selected one with a map. -/
theorem trackAgrees_setBank (h : TrackAgrees s) {b : Fin 4} {m : Option LensMap}
    (hm : s.lens.selected = some b → m ≠ none) : TrackAgrees (setBanks s (s.lens.banks.set b m)) := by
  refine h.of_parts rfl (fun _ => Iff.rfl) (fun _ _ => id) (fun hs => ?_) fun k hk => ?_
  · obtain ⟨x, hx⟩ := Option.ne_none_iff_exists'.1 hs
    obtain ⟨k, hk, -⟩ := Option.bind_eq_some_iff.1 hx
    show (s.lens.selected.bind fun j => (s.lens.banks.set b m).get j) ≠ none
    rw [hk, Option.bind_some, PerFour.get_set]
    split
    next he => exact hm (he ▸ hk)
    next => exact h.bankHeld k hk
  · show (s.lens.banks.set b m).get k ≠ none
    rw [PerFour.get_set]
    split
    next he => exact hm (he ▸ hk)
    next => exact h.bankHeld k hk

/-- R160: a bank is selected while no lens channel is TRACK's. -/
theorem trackAgrees_selectBank (h : TrackAgrees s) {b : Option (Fin 4)} (held : ∀ k, b = some k → s.lens.banks.get k ≠ none)
    (free : lensClaimed s = false) : TrackAgrees (selectBank b s) := by
  have ho : (s.chan .focus).owner ≠ .track := fun ho => by
    simp [lensClaimed, lensInPlay, lensChans, ho] at free
  have hoff : s.lens.tracking.state = .off := by_contra fun hs => ho (h.owned.2 hs)
  have hl : (selectBank b s).lens = { s.lens with selected := b } := by
    unfold selectBank
    rfl
  have htr : (trackingOff s).lens = s.lens := by rw [trackingOff, if_pos hoff]
  have h1 : TrackAgrees ({ s with lens := { s.lens with selected := b } } : State) := by
    refine ⟨h.focusOnly, h.owned, h.target, h.rangeClear, h.targetExists, fun hs => absurd hoff hs, held⟩
  exact h1.of_limits hl (chan_selectBank s b)

theorem applyChangedLimits_lens (s before : State) : (applyChangedLimits before s).lens = s.lens :=
  foldl_keeps (P := fun u => u.lens = s.lens) lensChans rfl fun u hu c _ => by split <;> exact hu

theorem releaseTracked_lens (s : State) : (releaseTracked s).lens = s.lens := by
  unfold releaseTracked
  split <;> simp

/-- R165: FOCUS granted to TRACK, the record with its target. -/
theorem TrackAgrees.tracksOn (h : TrackAgrees s) {n : Nat} (map : s.lens.selected ≠ none) (found : s.findTarget n ≠ none) :
    let g := grant .track .position none (some (s.chan .focus).setpoint) .focus s
    Tracks (setTracking g { g.lens.tracking with target := some n }) := by
  intro g
  have hch : ∀ c, g.chan c = if c = .focus then grantRecord .track .position none (some (s.chan .focus).setpoint)
      (s.chan .focus) else s.chan c := chan_grant s _ _ _ _ _
  have hb : g.lens.banks = s.lens.banks := reportLoss_banks ..
  have hs : g.lens.selected = s.lens.selected := reportLoss_selected ..
  have ht : g.lens.targets = s.lens.targets := reportLoss_targets ..
  obtain ⟨b, hb'⟩ := Option.ne_none_iff_exists'.1 map
  refine ⟨fun c hc => ?_, ?_, ⟨n, rfl, ?_⟩, ?_, fun k hk => ?_⟩
  · by_contra hn
    have hc : (g.chan c).owner = .track := hc
    rw [hch, if_neg hn] at hc
    exact h.not_track hn hc
  · show (g.chan .focus).owner = .track
    rw [hch, if_pos rfl]
    rfl
  · show g.lens.targets.find? _ ≠ none
    rw [ht]
    exact found
  · show g.lens.selected.bind (fun k => g.lens.banks.get k) ≠ none
    rw [hs, hb, hb', Option.bind_some]
    exact h.bankHeld b hb'
  · show g.lens.banks.get k ≠ none
    rw [hb]
    exact h.bankHeld k (hs ▸ hk)

theorem trackAgrees_taken {j : Instr} (h : TrackAgrees s) (ht : Taken j s t) : TrackAgrees t := by
  cases ht
  case notice k => rw [serveNoticeTimer_frame]; exact h.of_channels rfl rfl
  case configSet k w low high order parked item =>
    exact TrackAgrees.of_limits (s := { s with config := storeItem s.config k w }) (h.of_channels rfl rfl)
      (by rw [actOnWrite_frame]) (chan_actOnWrite k _)
  case arm =>
    refine trackAgrees_enterCrane _ _ (trackAgrees_startArmingSlot _ (s := { s with crane := _ }) (h.of_channels rfl rfl))
  case park => exact trackAgrees_enterCrane _ _ (h.of_channels rfl rfl)
  case jog c d claim => exact trackAgrees_grant (by simp) _ _ _ _ h
  case goto mask targets some nodup claims =>
    have h1 : TrackAgrees (interruptMoves (fun c => (targets.map (·.1)).contains c) s) := h.of_channels (by simp) (by simp)
    exact (foldl_keeps targets h1 fun u hu p _ => trackAgrees_grant (by simp) _ _ _ _ hu).of_channels rfl rfl
  case release hit console =>
    refine h.of_releases (by simp) fun c => ?_
    rw [chan_interruptMoves, chan_mapChannels]
    split
    next hc => exact .inr ⟨by rw [console c hc]; decide, rfl⟩
    next => exact .inl rfl
  case wheelAssign w c gain =>
    unfold releaseWheelChannel
    split
    next d _ =>
      split
      next hw =>
        refine h.of_releases rfl fun e => ?_
        rw [chan_setChan]
        split
        next he => exact .inr ⟨by rw [he]; exact hw.symm ▸ (by decide : Owner.wheel ≠ .track), he ▸ rfl⟩
        next => exact .inl rfl
      · exact h.of_channels rfl rfl
    next => exact h.of_channels rfl rfl
  case stop o => exact trackAgrees_rise _ h
  case ackHalted => exact trackAgrees_enterCrane _ _ (h.of_channels rfl rfl)
  case ackTripped =>
    exact trackAgrees_enterCrane _ _ (trackAgrees_inhibits h (by rw [setInhibits_frame]; rfl) (chan_setInhibits (clearLatches s)))
  case ackParked =>
    have h1 := trackAgrees_inhibits (t := setInhibits (clearLatches s)) h (by rw [setInhibits_frame]; rfl)
      (chan_setInhibits (clearLatches s))
    exact h1.of_channels (by simp) (by simp)
  case takeArm n t found ready idle cues some claims =>
    have h1 : TrackAgrees (grantedTake (channelSet s t.cues) s) :=
      foldl_keeps _ (h.of_channels (by simp) (by simp)) fun u hu c _ => trackAgrees_grant (by simp) _ _ _ _ hu
    obtain ⟨e, he⟩ := startCue_frame (lockedTake t (channelSet s t.cues) s)
    rw [armTake_eq, he]
    exact h1.of_channels rfl rfl
  case play armed => exact trackAgrees_engine.startPlay h (by simp [armed])
  case abort => exact trackAgrees_endTake _ h
  case mapSet b m valid other => exact trackAgrees_setBank h fun hs => absurd hs other
  case mapSetSelected b m valid _ _ =>
    have h1 := trackAgrees_setBank (m := some (storedMap m)) (b := b) h fun _ => by simp
    exact h1.of_limits (applyChangedLimits_lens _ s) fun c => chan_applyChangedLimits _ s c
  case mapRetire b other => exact trackAgrees_setBank h fun hs => absurd hs other
  case lensSelect b held free => exact trackAgrees_selectBank h held free
  case targetSet g low high =>
    refine h.of_parts rfl (fun _ => Iff.rfl) (fun n _ hn => ?_) id h.bankHeld
    show (upsert (·.number) g s.lens.targets).find? (fun x => x.number == n) ≠ none
    by_cases hk : n = g.number
    · subst hk; rw [find_upsert_self]; simp
    · rw [find_upsert_other _ _ hk]; exact hn
  case targetRetire n free =>
    refine h.of_parts rfl (fun _ => Iff.rfl) (fun k hk hn => ?_) id h.bankHeld
    have hs : s.lens.tracking.state ≠ .off := fun ho => by rw [h.target.2 ho] at hk; cases hk
    have hne : k ≠ n := by rintro rfl; simp [tracked, hs, hk] at free
    show (eraseKey (·.number) n s.lens.targets).find? (fun x => x.number == k) ≠ none
    rw [find_eraseKey_other _ hne]
    exact hn
  case trackOn n map found claim =>
    exact (h.tracksOn map found).evaluated.of_channels rfl rfl
  case trackOff on =>
    have ho := h.owned.2 on
    refine h.goesOff (trackingOff_lens (releaseTracked_lens s)) fun c => ?_
    rw [chan_trackOff]
    split
    · rw [releaseChannel_owner]; decide
    next hc => exact h.not_track fun he => hc ⟨he, ho⟩
  all_goals exact h.of_channels rfl rfl

theorem trackAgrees_performReset (warm : Bool) (cause : ResetCause) (straps : Straps) (h : TrackAgrees s) :
    TrackAgrees (performReset warm cause straps s) := by
  have hr : TrackAgrees .reset := trackAgrees_reset
  unfold performReset
  split
  · exact ⟨hr.focusOnly, hr.owned, hr.target, hr.rangeClear, nofun, fun hs => absurd rfl hs, h.bankHeld⟩
  · exact hr.of_channels rfl rfl

theorem trackAgrees_effect {i : Instr} (h : TrackAgrees s) (he : Effect i s t) : TrackAgrees t := by
  cases he with
  | nothing => exact h
  | receiver => exact h.of_channels rfl rfl
  | request j l receives =>
    exact request_keeps (fun _ _ h => h.of_channels rfl rfl) (fun _ _ h => h.of_channels rfl rfl)
      (fun _ _ _ h ht => trackAgrees_taken h ht) j l receives h
  | timers => exact h.of_channels rfl rfl
  | expiry k n =>
    have ht : TrackAgrees { tickLinkTimers s with freeCount := n } := h.of_channels rfl rfl
    rcases expireLink_cases k { tickLinkTimers s with freeCount := n } _ rfl with ⟨_, he⟩ | ⟨_, he⟩
    · rw [he]; exact ht.of_channels rfl rfl
    · rw [he]; exact trackAgrees_rise _ (ht.of_channels rfl rfl)
  | event _ _ event => exact trackAgrees_event h event
  | held => exact h.of_channels rfl rfl
  | backup => exact h.of_channels rfl rfl
  | reset warm cause straps p => exact trackAgrees_performReset warm cause straps (h.of_channels rfl rfl)

/-! ## ATTN and the outputs of a held part -/

/-- R187: ATTN as the sources and the mask make it. -/
def AttnFits (s : State) : Prop := s.notices.attn = attnWanted s.notices

theorem attnFits_setNotices (n : NoticeUnit) (s : State) : AttnFits (setNotices s n) := rfl

theorem AttnFits.of_notices (h : AttnFits s) (notices : t.notices = s.notices) : AttnFits t := by
  unfold AttnFits
  rw [notices]
  exact h

theorem attnFits_raiseState (d : StateDetail) (s : State) : AttnFits (raiseState d s) := rfl

theorem attnFits_enterCrane (st : CraneState) (x : StateExtra) (s : State) : AttnFits (enterCrane st x s) := rfl

theorem attnFits_interruptMoves (hit : Chan → Bool) (h : AttnFits s) : AttnFits (interruptMoves hit s) :=
  foldl_keeps _ (s := { s with moves := _ }) (h.of_notices rfl) fun _ _ _ _ => rfl

theorem attnFits_trackingOff (h : AttnFits s) : AttnFits (trackingOff s) := by
  unfold trackingOff
  split
  · exact h
  · rfl

theorem attnFits_endTake (r : TakeResult) (h : AttnFits s) : AttnFits (endTake r s) := by
  unfold endTake
  split
  · exact h
  · rfl

theorem attnFits_restFor (d : CauseDetail) (h : AttnFits s) : AttnFits (restFor d s) := by
  unfold restFor
  split
  · exact attnFits_interruptMoves _ (h.of_notices rfl)
  · exact h

theorem attnFits_rise (d : CauseDetail) (h : AttnFits s) : AttnFits (rise d s) := by
  have hl : AttnFits (restFor d (latchCause d s)) := attnFits_restFor d (h.of_notices (by simp))
  have hn : ∀ {u t}, AttnFits u → Noticed u t → AttnFits t := fun {u t} hu ht => by
    rcases ht with rfl | rfl
    · exact hu
    · rfl
  have hr := rise_risen d (s := s)
  generalize rise d s = t at hr
  cases hr with
  | ignored => exact h
  | trips => rfl
  | stops => rfl
  | parks => rfl
  | stays _ _ _ told =>
    have hs : AttnFits (stopLiveHead (restFor d (latchCause d s))) := attnFits_interruptMoves _ (hl.of_notices rfl)
    exact hn hs told
  | latched _ _ told => exact hn hl told

theorem attnFits_grant (p : Party) (m : Mode) (d x : Option Int) (c : Chan) (h : AttnFits s) : AttnFits (grant p m d x c s) := by
  unfold grant reportLoss
  split
  · exact attnFits_interruptMoves _ (h.of_notices rfl)
  · split
    · rw [overtake_eq]
      split
      · exact attnFits_endTake _ (h.of_notices rfl)
      · rfl
    · exact h.of_notices rfl
  · split
    · exact h.of_notices rfl
    · exact attnFits_trackingOff (h.of_notices rfl)
  · exact h.of_notices rfl
  · exact h.of_notices rfl

theorem attnFits_engine : EngineKeeps AttnFits where
  engine _ _ h _ _ := h.of_notices rfl
  tells _ _ := rfl
  ends _ r h := attnFits_endTake r h

theorem attnFits_handOver (i : Fin 4) (h : AttnFits s) : AttnFits (handOver i s) := by
  unfold handOver
  dsimp only
  split
  · exact h.of_notices rfl
  · split
    · exact h.of_notices rfl
    · split
      · exact h.of_notices rfl
      · exact attnFits_grant _ _ _ _ _ (s := { s with wheels := _ }) (h.of_notices rfl)

theorem attnFits_reachMove (c : Chan) (h : AttnFits s) : AttnFits (reachMove c s) :=
  foldl_keeps _ (s := { s with moves := _ }) (h.of_notices rfl) fun _ _ _ _ => rfl

theorem attnFits_channelUpdate (h : AttnFits s) : AttnFits (channelUpdate s) := by
  have h1 : AttnFits (handOverAll s) :=
    attnFits_handOver 3 (attnFits_handOver 2 (attnFits_handOver 1 (attnFits_handOver 0 h)))
  have h3 : AttnFits (reachMoves (runProfiles (handOverAll s))) := by
    refine foldl_keeps _ (h1.of_notices rfl) fun u hu c _ => ?_
    split
    · exact attnFits_reachMove c hu
    · exact hu
  rw [channelUpdate_eq]
  rcases checkStandstill_cases (updated s) with he | ⟨_, _, he⟩
  · rw [he]; exact h3.of_notices rfl
  · rw [he]; rfl

theorem attnFits_parkedOff (n : Nat) (h : AttnFits s) : AttnFits (parkedOff n s) := by
  have h1 := attnFits_interruptMoves (parksOff s n) (s := mapChannels s fun c r =>
    if parksOff s n c then { commandOff r with owner := .none } else r) (h.of_notices rfl)
  unfold parkedOff
  dsimp only
  split
  · exact attnFits_trackingOff h1
  · exact h1

theorem attnFits_slot (h : AttnFits s) (hs : SlotStep s t) : AttnFits t := by
  cases hs with
  | none => exact h
  | tick => exact h.of_notices rfl
  | armFail => rfl
  | nextUp => exact h.of_notices rfl
  | ready => rfl
  | nextDown n k => exact (attnFits_parkedOff n h).of_notices rfl
  | parked n => rfl

theorem attnFits_sample : SampleKeeps AttnFits where
  input _ _ := rfl
  stops _ _ h _ _ := h.of_notices rfl
  channels u h := h.of_notices (by rw [clearInhibits_frame])
  rises d _ h _ := attnFits_rise d h

theorem attnFits_presenceSample (levels : BitVec 12) (h : AttnFits s) : AttnFits (presenceSample levels s) := by
  refine foldl_keeps _ h fun u hu i _ => ?_
  unfold samplePresenceLine
  dsimp only
  split
  · rfl
  · exact hu.of_notices rfl

theorem evaluateTracking_notices (s : State) : (evaluateTracking s).notices = s.notices := by
  obtain ⟨k, hk | ⟨n, hk⟩⟩ := evaluateTracking_frame s
  · rw [hk]; rfl
  · rw [hk]; unfold writeFocus; split <;> rfl

theorem attnFits_lensUpdate (h : AttnFits s) : AttnFits (lensUpdate s) := by
  unfold lensUpdate trackUpdate
  split
  · exact h.of_notices rfl
  · dsimp only
    split
    · rfl
    · exact h.of_notices (evaluateTracking_notices _)

theorem attnFits_renewFrame (h : AttnFits s) : AttnFits (renewFrame s) := by
  unfold renewFrame
  dsimp only
  split
  · exact h.of_notices rfl
  · rfl

theorem attnFits_event (h : AttnFits s) (he : Event s t) : AttnFits t := by
  cases he with
  | channelUpdate => exact attnFits_channelUpdate h
  | driveExchange r => exact driveExchange_keeps r (h.of_notices rfl) fun c k u hu => attnFits_rise _ hu
  | slotEvent => exact attnFits_slot h (slotEvent_step s)
  | zoneEvaluation =>
    have he : AttnFits (evaluated s) := h.of_notices rfl
    exact zoneEvaluation_keeps he (fun n => attnFits_rise _ he) fun _ _ _ => rfl
  | inputSample x => exact attnFits_sample.inputSample x h
  | frameEdge =>
    have hr := attnFits_renewFrame h
    rcases frameEdge_cases s with he | ⟨hw, he⟩
    · rw [he]; exact hr
    · obtain ⟨f, n, hf⟩ := renewFrame_frame s
      rw [he]; exact attnFits_engine.startPlay hr (by rw [hf]; simp [hw])
  | presenceSample v => exact attnFits_presenceSample v h
  | engineMillisecond => exact attnFits_engine.engineMillisecond h
  | lensUpdate => exact attnFits_lensUpdate h
  | wheelEdge w up => exact h.of_notices rfl
  | geometryUpdate => exact h.of_notices rfl

theorem attnFits_actOnWrite (k : ConfigKey) (h : AttnFits s) : AttnFits (actOnWrite k s) := by
  unfold actOnWrite
  split
  · split
    · exact h.of_notices rfl
    · exact h
  · split
    · exact h.of_notices rfl
    · exact h
  · unfold refillLine
    dsimp only
    split
    · rfl
    · exact h.of_notices rfl
  · exact h.of_notices rfl
  · exact h

theorem attnFits_taken {j : Instr} (h : AttnFits s) (ht : Taken j s t) : AttnFits t := by
  cases ht
  case notice k =>
    rw [serveNoticeTimer_frame]
    exact (attnFits_setNotices _ s).of_notices rfl
  case configSet => exact attnFits_actOnWrite _ (s := { s with config := _ }) (h.of_notices rfl)
  case jog => exact attnFits_grant _ _ _ _ _ h
  case goto mask targets some nodup claims =>
    have h1 := attnFits_interruptMoves (fun c => (targets.map (·.1)).contains c) h
    exact (foldl_keeps targets h1 fun u hu p _ => attnFits_grant _ _ _ _ _ hu).of_notices rfl
  case release => exact attnFits_interruptMoves _ (h.of_notices rfl)
  case wheelAssign => rw [releaseWheelChannel_frame]; exact h.of_notices rfl
  case stop => exact attnFits_rise _ h
  case play armed => exact attnFits_engine.startPlay h (by simp [armed])
  case abort => exact attnFits_endTake _ h
  case mapSetSelected b m valid _ _ =>
    refine h.of_notices (foldl_keeps (P := fun u => u.notices = s.notices) lensChans rfl fun u hu c _ => ?_)
    split <;> exact hu
  case trackOff =>
    refine attnFits_trackingOff ?_
    unfold releaseTracked
    split
    · exact attnFits_interruptMoves _ (h.of_notices rfl)
    · exact h
  case noticeMask | arm | park | ackHalted | ackTripped | ackParked | takeArm | frameWait | resumePaused | trackOn => rfl
  all_goals exact h.of_notices rfl

/-- R46, R187: ATTN and, while the part is held, its outputs. -/
structure OutputsAgree (s : State) : Prop where
  attn : AttnAgrees s
  held : HeldQuiet s

theorem OutputsAgree.fits (h : OutputsAgree s) (hr : s.running = true) : AttnFits s := by
  have := h.attn
  rwa [AttnAgrees, hr, Bool.true_and] at this

theorem AttnFits.outputs (h : AttnFits s) (hr : s.running = true) : OutputsAgree s :=
  ⟨by rw [AttnAgrees, hr, Bool.true_and]; exact h, fun hn => absurd (hr.symm.trans hn) (by decide)⟩

theorem SamePower.running (h : SamePower s t) (hr : s.running = true) : t.running = true :=
  (running_of_power h.power).trans hr

theorem outputsAgree_held (p : PowerRecord) (off : (p.mainOn && !p.resetLow) = false) :
    OutputsAgree { holdInReset s with power := p } := by
  have hr : ({ holdInReset s with power := p } : State).running = false := off
  refine ⟨by rw [AttnAgrees, hr]; rfl, fun _ => ⟨rfl, rfl, rfl, fun i => ?_⟩⟩
  exact PerFour.get_ofFn (fun _ => true) i

theorem outputsAgree_reset (warm : Bool) (cause : ResetCause) (straps : Straps) :
    OutputsAgree (performReset warm cause straps s) := by
  have hn : ∀ k, (resetNotices k).attn = attnWanted (resetNotices k) := by rintro ⟨⟩ <;> decide
  unfold performReset
  split
  · exact AttnFits.outputs (s := warmReset cause straps s) (hn .warm) rfl
  · exact AttnFits.outputs (s := coldResetOf cause straps s) (hn .cold) rfl

theorem outputsAgree_effect {i : Instr} (h : OutputsAgree s) (he : Effect i s t) : OutputsAgree t := by
  cases he with
  | nothing => exact h
  | receiver l running => exact AttnFits.outputs ((h.fits running).of_notices rfl) running
  | request j l receives =>
    have hr := running_of_canReceive s receives
    have ht := takeRequest_taken j (serveSupervision s)
    have h1 : AttnFits (serveSupervision s) := (h.fits hr).of_notices rfl
    exact AttnFits.outputs ((attnFits_taken h1 ht).of_notices rfl) (ht.samePower.running hr)
  | timers running => exact AttnFits.outputs ((h.fits running).of_notices rfl) running
  | expiry k n running =>
    have ht : AttnFits { tickLinkTimers s with freeCount := n } := (h.fits running).of_notices rfl
    rcases expireLink_cases k { tickLinkTimers s with freeCount := n } _ rfl with ⟨_, he⟩ | ⟨_, he⟩
    · rw [he]; exact AttnFits.outputs (ht.of_notices rfl) running
    · rw [he]
      exact AttnFits.outputs (attnFits_rise _ (ht.of_notices rfl)) ((samePower_rise _ _).running running)
  | event _ running event => exact AttnFits.outputs (attnFits_event (h.fits running) event) (event.samePower.running running)
  | held p off => exact outputsAgree_held p off
  | backup p main reset =>
    have hr : ({ s with power := p } : State).running = s.running := by simp only [State.running, main, reset]
    exact ⟨by rw [AttnAgrees, hr]; exact h.attn, fun hn => h.held (hr ▸ hn)⟩
  | reset warm cause straps p => exact outputsAgree_reset warm cause straps

/-- Settles O10: by what each command does to TRACK's channel and the lens record, and to the Notice Unit. -/
theorem stepsKeepTrackingAndOutputs : Obligations.StepsKeepTrackingAndOutputs := by
  refine ⟨fun s t h ht => ?_, fun s t h1 h2 ht => ?_⟩
  · exact step_keeps (P := TrackAgrees) (fun u q h => h.of_channels rfl rfl) (fun i u v h he => trackAgrees_effect h he) h ht
  · obtain ⟨k1, k2⟩ := step_keeps (P := OutputsAgree) (fun u q h => ⟨h.attn, h.held⟩)
      (fun i u v h he => outputsAgree_effect h he) ⟨h1, h2⟩ ht
    exact ⟨k1, k2⟩

end Tracking

end Sys2Proof.Machine

/-! The ordered tables of the Record Store, and what every command keeps of engine, active take, locks and TAKE channels
(R109, R124, R134, R135, R145, R151). -/

namespace Sys2Proof.Machine

/-! ## Tables in order of their numbers -/

section Tables

variable {α : Type} {key : α → Nat} {xs : List α}

theorem Ascending.of_cons {n : Nat} {ns : List Nat} (h : Ascending (n :: ns)) : Ascending ns := (List.pairwise_cons.1 h).2

theorem Ascending.lt_of_cons {x y : α} (h : Ascending ((x :: xs).map key)) (hy : y ∈ xs) : key x < key y :=
  (List.pairwise_cons.1 h).1 _ (List.mem_map_of_mem hy)

/-- In a table in order a record is the one found under its number. -/
theorem find_of_mem (h : Ascending (xs.map key)) {x : α} (hx : x ∈ xs) : xs.find? (fun y => key y == key x) = some x := by
  induction xs with
  | nil => cases hx
  | cons y ys ih =>
    rcases List.mem_cons.1 hx with rfl | hx
    · simp
    · have := h.lt_of_cons hx
      rw [List.find?_cons_of_neg (by simp; omega), ih h.of_cons hx]

theorem eq_of_key_eq (h : Ascending (xs.map key)) {x y : α} (hx : x ∈ xs) (hy : y ∈ xs) (he : key x = key y) : x = y := by
  have := find_of_mem h hx
  rw [he, find_of_mem h hy] at this
  exact (Option.some.inj this).symm

theorem mem_eraseKey {n : Nat} {y : α} : y ∈ eraseKey key n xs ↔ y ∈ xs ∧ key y ≠ n := by simp [eraseKey]

theorem ascending_eraseKey (n : Nat) (h : Ascending (xs.map key)) : Ascending ((eraseKey key n xs).map key) :=
  List.Pairwise.sublist (List.filter_sublist.map key) h

theorem mem_upsert (h : Ascending (xs.map key)) (x y : α) : y ∈ upsert key x xs ↔ y = x ∨ (y ∈ xs ∧ key y ≠ key x) := by
  induction xs with
  | nil => simp [upsert]
  | cons z zs ih =>
    have hz : ∀ y ∈ zs, key z < key y := fun y hy => h.lt_of_cons hy
    simp only [upsert]
    split
    next hlt =>
      have hne : ∀ y ∈ z :: zs, key y ≠ key x := fun y hy => by
        rcases List.mem_cons.1 hy with rfl | hy
        · omega
        · have := hz y hy; omega
      exact List.mem_cons.trans (or_congr_right ⟨fun hy => ⟨hy, hne y hy⟩, And.left⟩)
    · split
      next heq =>
        refine List.mem_cons.trans (or_congr_right ⟨fun hy => ⟨List.mem_cons_of_mem _ hy, ?_⟩, fun hy => ?_⟩)
        · have := hz y hy; omega
        · rcases List.mem_cons.1 hy.1 with rfl | h
          · exact absurd heq.symm hy.2
          · exact h
      next hne =>
        rw [List.mem_cons, ih h.of_cons, List.mem_cons]
        constructor
        · rintro (rfl | rfl | hy)
          · exact .inr ⟨.inl rfl, fun he => hne he.symm⟩
          · exact .inl rfl
          · exact .inr ⟨.inr hy.1, hy.2⟩
        · rintro (rfl | ⟨rfl | hy, hk⟩)
          · exact .inr (.inl rfl)
          · exact .inl rfl
          · exact .inr (.inr ⟨hy, hk⟩)

theorem ascending_upsert (x : α) (h : Ascending (xs.map key)) : Ascending ((upsert key x xs).map key) := by
  induction xs with
  | nil => simp [upsert, Ascending]
  | cons z zs ih =>
    have hz : ∀ n ∈ zs.map key, key z < n := (List.pairwise_cons.1 h).1
    simp only [upsert]
    split
    next hlt =>
      refine List.pairwise_cons.2 ⟨fun n hn => ?_, h⟩
      rcases List.mem_cons.1 hn with rfl | hn
      · exact hlt
      · exact hlt.trans (hz n hn)
    · split
      next heq => exact List.pairwise_cons.2 ⟨fun n hn => heq ▸ hz n hn, h.of_cons⟩
      next hne =>
        refine List.pairwise_cons.2 ⟨fun n hn => ?_, ih h.of_cons⟩
        obtain ⟨y, hy, rfl⟩ := List.mem_map.1 hn
        rcases (mem_upsert h.of_cons x y).1 hy with rfl | hy
        · omega
        · exact hz _ (List.mem_map_of_mem hy.1)

/-- A change of records that keeps their numbers keeps their order, and what is found changes with it. -/
theorem map_key_map {f : α → α} (hf : ∀ x, key (f x) = key x) : (xs.map f).map key = xs.map key := by
  rw [List.map_map]
  exact List.map_congr_left fun x _ => hf x

theorem find_map_key {f : α → α} (hf : ∀ x, key (f x) = key x) (n : Nat) :
    (xs.map f).find? (fun x => key x == n) = (xs.find? fun x => key x == n).map f := by
  rw [List.find?_map]
  congr 1
  exact congrArg (fun p => xs.find? p) (funext fun x => by simp [hf])

end Tables

/-! ## What the play speaks of -/

/-- Engine, takes and marks as far as `PlayAgrees` speaks of them are the same. -/
structure SamePlay (s t : State) : Prop where
  state : t.engine.state = s.engine.state
  take : t.engine.take = s.engine.take
  cueIndex : t.engine.cueIndex = s.engine.cueIndex
  set : t.engine.set = s.engine.set
  path : t.engine.path = s.engine.path
  spans : t.engine.spans = s.engine.spans
  takes : t.takes = s.takes
  marks : t.marks = s.marks

/-- R109, R119, R124, R134, R135, R145: the play agrees, and take numbers are unique. -/
structure Plays (s : State) : Prop where
  agrees : PlayAgrees s
  order : Ascending (s.takes.map (·.number))

section Play

variable {s t u : State}

theorem SamePlay.trans (h : SamePlay s t) (k : SamePlay t u) : SamePlay s u :=
  ⟨k.1.trans h.1, k.2.trans h.2, k.3.trans h.3, k.4.trans h.4, k.5.trans h.5, k.6.trans h.6, k.7.trans h.7, k.8.trans h.8⟩

theorem samePlay_of_eq (engine : t.engine = s.engine) (takes : t.takes = s.takes) (marks : t.marks = s.marks) :
    SamePlay s t := by
  constructor <;> simp [engine, takes, marks]

theorem Plays.findTake_of_mem (h : Plays s) {k : Take} (hk : k ∈ s.takes) : s.findTake k.number = some k :=
  find_of_mem h.order hk

theorem findTake_some {n : Nat} {k : Take} (h : s.findTake n = some k) : k ∈ s.takes ∧ k.number = n :=
  ⟨List.mem_of_find?_eq_some h, by simpa using List.find?_some h⟩

theorem findMark_some {n : Nat} {m : Mark} (h : s.findMark n = some m) : m ∈ s.marks ∧ m.number = n :=
  ⟨List.mem_of_find?_eq_some h, by simpa using List.find?_some h⟩

/-- No channel is TAKE's while no take is active. -/
theorem Plays.no_take (h : Plays s) (ht : s.engine.take = none) (c : Chan) : (s.chan c).owner ≠ .take := fun ho => by
  have := h.agrees.someChannel.1 ht c
  rw [(h.agrees.owners c).2 ho] at this
  cases this

/-- Outside READY no take is active. -/
theorem Plays.no_active (h : Plays s) (hs : s.crane.state ≠ .ready) : s.engine.take = none :=
  by_contra fun ht => hs (h.agrees.ready ht)

/-- The play stays as it is: what matters of owners and crane state matters only while a take is active. -/
theorem Plays.of_parts (h : Plays s) (play : SamePlay s t)
    (taken : ∀ c, (t.chan c).owner = .take → (s.chan c).owner = .take)
    (kept : s.engine.take ≠ none → t.crane.state = .ready ∧ ∀ c, (s.chan c).owner = .take → (t.chan c).owner = .take) :
    Plays t := by
  obtain ⟨hstate, htake, hcue, hset, hpath, hspans, htakes, hmarks⟩ := play
  obtain ⟨h1, h2, h3, h4, h5, h6, h7, h8, h9⟩ := h.agrees
  refine ⟨⟨?_, ?_, ?_, ?_, fun c => ?_, ?_, ?_, ?_, ?_⟩, ?_⟩
  · rwa [hstate, htake]
  · rwa [htake, htakes]
  · unfold State.findTake
    rwa [htake, htakes, hcue]
  · rwa [hmarks, htakes]
  · rw [hset]
    refine ⟨fun hc => ?_, fun hc => (h5 c).2 (taken c hc)⟩
    have hne : s.engine.take ≠ none := fun hn => by rw [h8.1 hn c] at hc; cases hc
    exact (kept hne).2 c ((h5 c).1 hc)
  · rwa [hpath, hset]
  · rwa [hspans, hset]
  · rwa [htake, hset]
  · rw [htake]; exact fun hn => (kept hn).1
  · rw [htakes]; exact h.order

theorem Plays.of_owners (h : Plays s) (play : SamePlay s t) (crane : t.crane.state = s.crane.state)
    (owners : ∀ c, (t.chan c).owner = .take ↔ (s.chan c).owner = .take) : Plays t :=
  h.of_parts play (fun c => (owners c).1) fun hn => ⟨crane.trans (h.agrees.ready hn), fun c => (owners c).2⟩

theorem Plays.of_eq (h : Plays s) (play : SamePlay s t) (crane : t.crane.state = s.crane.state)
    (channels : t.channels = s.channels) : Plays t :=
  h.of_owners play crane fun c => by rw [chan_eq_of_channels channels]

/-- While no take is active, all that matters is that TAKE gains no channel. -/
theorem Plays.of_none (h : Plays s) (none : s.engine.take = none) (play : SamePlay s t)
    (taken : ∀ c, (t.chan c).owner = .take → (s.chan c).owner = .take) : Plays t :=
  h.of_parts play taken fun hn => absurd none hn

/-- A channel released or taken away that is not TAKE's. -/
theorem Plays.of_channels (h : Plays s) (play : SamePlay s t) (crane : t.crane.state = s.crane.state)
    (chans : ∀ c, (t.chan c).owner = (s.chan c).owner ∨ ((s.chan c).owner ≠ .take ∧ (t.chan c).owner ≠ .take)) : Plays t :=
  h.of_owners play crane fun c => by
    rcases chans c with hc | ⟨hs, ht⟩
    · rw [hc]
    · exact ⟨fun ho => absurd ho ht, fun ho => absurd ho hs⟩

/-! ## The engine's record -/

theorem activeCues_eq {n : Nat} {k : Take} (hn : s.engine.take = some n) (hk : s.findTake n = some k) :
    activeCues s = k.cues := by
  simp [activeCues, hn, hk]

/-- What the engine changes of its record while a take is active. -/
theorem Plays.stepped (h : Plays s) (hs : s.engine.state ≠ .idle) {e : Engine} (he : Stepped s e) :
    Plays { s with engine := e } := by
  obtain ⟨h1, h2, h3, h4, h5, h6, h7, h8, h9⟩ := h.agrees
  refine ⟨⟨?_, ?_, fun n hn => ?_, h4, fun c => ?_, fun c => ?_, fun c hc => ?_, ?_, ?_⟩, h.order⟩
  · show e.state = .idle ↔ e.take = none
    rw [he.take, ← h1]
    exact ⟨fun hi => absurd hi he.idle, fun hi => absurd hi hs⟩
  · show ∀ k ∈ s.takes, k.active = true ↔ e.take = some k.number
    rwa [he.take]
  · have hn : s.engine.take = some n := he.take ▸ hn
    obtain ⟨k, hk, hlo, hhi⟩ := h3 n hn
    refine ⟨k, hk, ?_⟩
    have hl : (activeCues s).length = k.cues.length := by rw [activeCues_eq hn hk]
    have hc := he.cueIndex
    show 1 ≤ e.cueIndex ∧ e.cueIndex ≤ k.cues.length
    omega
  · show e.set.get c = true ↔ _
    rw [he.set]
    exact h5 c
  · show (e.path.get c).isSome = true ↔ e.set.get c = true
    rw [he.set, ← h6]
    refine ⟨fun hp => ?_, he.kept c⟩
    exact (he.path c hp).elim id fun hsp => (h6 c).2 (h7 c hsp)
  · show e.set.get c = true
    rw [he.set]
    exact (he.spans c hc).elim (h7 c) id
  · show e.take = none ↔ ∀ c, e.set.get c = false
    rwa [he.take, he.set]
  · show e.take ≠ none → _
    rwa [he.take]

/-- R109, R123: takes and marks after the end of a play. -/
theorem endTake_store (r : TakeResult) {n : Nat} (h : s.engine.take = some n) :
    (endTake r s).takes = s.takes.map (fun k => if k.number = n then storePlay r s.engine.lag k else k) ∧
      (endTake r s).marks = s.marks.map (fun m =>
        if (s.findTake n).any (fun k => namesMark k m.number) then { m with locked := false } else m) := by
  rw [endTake_some s r h]
  exact ⟨rfl, rfl⟩

theorem number_endTake (r : TakeResult) (n lag : Nat) (k : Take) :
    (if k.number = n then storePlay r lag k else k).number = k.number := by split <;> rfl

/-- R153: the play is over: no take is active, no mark locked, no channel TAKE's. `u` is the state in which the end step is
taken. -/
theorem Plays.ends (h : Plays s) (r : TakeResult) (play : s.engine.take = none → SamePlay s u)
    (take : u.engine.take = s.engine.take) (takes : u.takes = s.takes) (marks : u.marks = s.marks)
    (ended : SamePlay (endTake r u) t) (owners : ∀ c, (t.chan c).owner ≠ .take) : Plays t := by
  cases hn : s.engine.take with
  | none =>
    rw [endTake_idle u r (take.trans hn)] at ended
    exact h.of_none hn ((play hn).trans ended) fun c hc => absurd hc (owners c)
  | some n =>
    have hun : u.engine.take = some n := take.trans hn
    have he := endTake_engine u r n hun
    obtain ⟨hts, hms⟩ := endTake_store r hun
    have hfind : u.findTake n = s.findTake n := by unfold State.findTake; rw [takes]
    rw [takes] at hts
    rw [marks, hfind] at hms
    obtain ⟨o1, o2, o3, o4, o5, o6, o7, o8⟩ := ended
    rw [he] at o1 o2 o4 o5 o6
    rw [hts] at o7
    rw [hms] at o8
    have hset : ∀ c, t.engine.set.get c = false := fun c => by rw [o4]; exact PerChannel.get_ofFn _ c
    have hinactive : ∀ k ∈ t.takes, k.active = false := by
      rw [o7]
      intro k hk
      obtain ⟨j, hj, rfl⟩ := List.mem_map.1 hk
      split
      next => rfl
      next hne =>
        by_contra ha
        have := (h.agrees.active j hj).1 (by simpa using ha)
        rw [hn, Option.some.injEq] at this
        exact hne this.symm
    have htake : t.engine.take = none := o2
    refine ⟨⟨?_, fun k hk => ?_, fun k hk => ?_, fun m hm => ?_, fun c => ?_, fun c => ?_, fun c hc => ?_, ?_, ?_⟩, ?_⟩
    · exact ⟨fun _ => htake, fun _ => o1⟩
    · rw [hinactive k hk, htake]; simp
    · rw [htake] at hk; cases hk
    · have hno : ¬ ∃ k ∈ t.takes, k.active = true ∧ namesMark k m.number = true := fun ⟨k, hk, ha, _⟩ => by
        rw [hinactive k hk] at ha; cases ha
      refine iff_of_false (fun hl => ?_) hno
      rw [o8] at hm
      obtain ⟨j, hj, rfl⟩ := List.mem_map.1 hm
      split at hl
      next => cases hl
      next hne =>
        obtain ⟨k, hk, ha, hnm⟩ := (h.agrees.locked j hj).1 hl
        have hkn := (h.agrees.active k hk).1 ha
        rw [hn, Option.some.injEq] at hkn
        rw [hkn, h.findTake_of_mem hk] at hne
        exact hne hnm
    · rw [hset]; exact ⟨nofun, fun ho => absurd ho (owners c)⟩
    · rw [hset, o5]; simp [engineIdle]
    · rw [o6] at hc; simp [engineIdle] at hc
    · exact ⟨fun _ => hset, fun _ => htake⟩
    · exact fun hne => absurd htake hne
    · rw [o7, map_key_map fun k => number_endTake ..]; exact h.order

theorem SamePlay.refl (s : State) : SamePlay s s := samePlay_of_eq rfl rfl rfl

theorem plays_endTake (r : TakeResult) (h : Plays s) : Plays (endTake r s) := by
  refine h.ends r (fun _ => .refl s) rfl rfl rfl (.refl _) fun c => ?_
  rw [chan_endTake]
  split
  next => rw [releaseChannel_owner]; exact nofun
  next hn =>
    intro ho
    have hset := (h.agrees.owners c).2 ho
    refine hn ⟨fun ht => ?_, hset, ho⟩
    rw [h.agrees.someChannel.1 ht c] at hset
    cases hset

theorem plays_engine : EngineKeeps Plays where
  engine _ _ h hs he := h.stepped hs he
  tells _ h := h.of_eq (samePlay_of_eq rfl rfl rfl) rfl rfl
  ends _ r h := plays_endTake r h

/-! ## Rises -/

theorem samePlay_endTake (r : TakeResult) (engine : t.engine = (endTake r u).engine) (takes : t.takes = (endTake r u).takes)
    (marks : t.marks = (endTake r u).marks) : SamePlay (endTake r u) t := samePlay_of_eq engine takes marks

theorem plays_entryA (h : Plays s) : Plays (entryA s) := by
  refine h.ends (u := interruptMoves (fun _ => true) (dropChannels s)) .stopped (fun _ => ?_) ?_ ?_ ?_ ?_ fun c => ?_
  · exact samePlay_of_eq (by simp) (by simp) (by simp)
  · simp
  · simp
  · simp
  · exact samePlay_of_eq (by simp [entryA, clearSequence]) (by simp [entryA, clearSequence])
      (by simp [entryA, clearSequence])
  · rw [chan_entryA]
    exact (by decide : Owner.none ≠ .take)

theorem isLens_of_not_body {c : Chan} (h : ¬ isBody c = true) : isLens c = true := by simpa [isBody] using h

theorem plays_entryBReady (h : Plays s) : Plays (entryBReady s) := by
  refine h.ends (u := interruptMoves isBody (mapChannels s fun c r => if isBody c = true then stopChannel r
    else if (isLens c && ((s.chan c).owner == .take)) = true then releaseChannel r else r)) .stopped (fun _ => ?_) ?_ ?_ ?_
    ?_ fun c => ?_
  · exact samePlay_of_eq (by simp) (by simp) (by simp)
  · simp
  · simp
  · simp
  · exact samePlay_of_eq (by simp [entryBReady]) (by simp [entryBReady]) (by simp [entryBReady])
  · rw [chan_entryBReady]
    split
    · rw [stopChannel_owner]; exact nofun
    · split
      · rw [releaseChannel_owner]; exact nofun
      · assumption

theorem plays_restFor (d : CauseDetail) (h : Plays s) : Plays (restFor d s) := by
  refine h.of_owners ?_ (by simp) fun c => by rw [(restFor_channel d s c).2]
  unfold restFor
  split
  · exact samePlay_of_eq (by simp) (by simp) (by simp)
  · exact .refl s

theorem plays_stopLiveHead (h : Plays s) (hn : s.engine.take = none) : Plays (stopLiveHead s) := by
  refine h.of_none hn (samePlay_of_eq (by simp) (by simp) (by simp)) fun c => ?_
  rw [chan_stopLiveHead]
  split
  · rw [stopChannel_owner]; exact nofun
  · exact id

theorem Plays.noticed (h : Plays u) (ht : Noticed u t) : Plays t := by
  rcases ht with rfl | rfl
  · exact h
  · exact h.of_eq (samePlay_of_eq (by simp) (by simp) (by simp)) (by simp) (by simp)

theorem plays_rise (d : CauseDetail) (h : Plays s) : Plays (rise d s) := by
  have hl : Plays (latchCause d s) := h.of_eq (samePlay_of_eq (by simp) (by simp) (by simp)) (by simp) (by simp)
  have hv : Plays (restFor d (latchCause d s)) := plays_restFor d hl
  have none_of : s.crane.state ≠ .ready → (restFor d (latchCause d s)).engine.take = none := fun hs =>
    hv.no_active (by simpa using hs)
  have hr := rise_risen d (s := s)
  generalize rise d s = t at hr
  cases hr with
  | ignored => exact h
  | trips => exact plays_entryA hl
  | stops => exact plays_entryBReady hv
  | parks _ arming =>
    have hp := plays_stopLiveHead hv (none_of (by simp [arming]))
    refine hp.of_none (hp.no_active (by simp [arming])) ?_ fun c => ?_
    · exact samePlay_of_eq (by simp [entryBArming, startParkingSlot]) (by simp [entryBArming, startParkingSlot])
        (by simp [entryBArming, startParkingSlot])
    · rw [chan_entryBArming, chan_stopLiveHead]; exact id
  | stays _ state _ told =>
    refine (plays_stopLiveHead hv (none_of ?_)).noticed told
    rcases state with hs | hs <;> simp [hs]
  | latched _ _ told => exact hv.noticed told

/-! ## Grants -/

/-- R18: a grant leaves engine, takes and marks as they are, unless a wheel overtakes. -/
theorem grant_store {p : Party} {m : Mode} {d x : Option Int} {c : Chan} (ho : p ≠ .wheel ∨ (s.chan c).owner ≠ .take) :
    SamePlay s (grant p m d x c s) := by
  unfold grant reportLoss
  cases hc : (s.chan c).owner
  case take =>
    dsimp only
    rw [if_neg (ho.resolve_right fun hn => hn hc)]
    exact samePlay_of_eq rfl rfl rfl
  case track => dsimp only; split <;> exact samePlay_of_eq (by simp) (by simp) (by simp)
  all_goals exact samePlay_of_eq (by simp) (by simp) (by simp)

theorem plays_grant {p : Party} {m : Mode} {d x : Option Int} {c : Chan} (h : Plays s) (hp : p ≠ .take)
    (ho : (s.chan c).owner ≠ .take) : Plays (grant p m d x c s) := by
  have hn : partyOwner p ≠ .take := by cases p <;> simp_all [partyOwner]
  refine h.of_channels (grant_store (.inr ho)) (by rw [grant_crane]) fun e => ?_
  rw [chan_grant]
  split
  next he => exact .inr ⟨he ▸ ho, hn⟩
  next => exact .inl rfl

/-- R151: the channel that a wheel takes from TAKE leaves the set; with the last one the play ends. -/
theorem plays_overtaken {m : Mode} {d x : Option Int} {c : Chan} (h : Plays s) (ho : (s.chan c).owner = .take) :
    Plays (grant .wheel m d x c s) := by
  have hg : grant .wheel m d x c s = overtake c (s.setChan c (grantRecord .wheel m d x (s.chan c))) := by
    unfold grant reportLoss
    rw [ho]
    simp
  have howner : ∀ e, ((grant .wheel m d x c s).chan e).owner = .take ↔ e ≠ c ∧ (s.chan e).owner = .take := fun e => by
    rw [chan_grant]
    split
    next he => exact ⟨nofun, fun hn => absurd he hn.1⟩
    next he => exact ⟨fun hn => ⟨he, hn⟩, And.right⟩
  have hset := (h.agrees.owners c).2 ho
  have hne : s.engine.take ≠ none := fun hn => by rw [h.agrees.someChannel.1 hn c] at hset; cases hset
  have hget : ∀ e, (overtakenEngine c s.engine).set.get e = true ↔ e ≠ c ∧ s.engine.set.get e = true := fun e => by
    simp only [overtakenEngine, PerChannel.get_set]
    split
    next he => simp [he]
    next he => simp [he]
  rw [hg, overtake_eq] at howner ⊢
  split at howner <;> rename_i hempty
  · rw [if_pos hempty]
    refine h.ends (u := { s.setChan c (grantRecord .wheel m d x (s.chan c)) with engine := overtakenEngine c s.engine })
      .partial_ (fun hn => absurd hn hne) rfl rfl rfl (.refl _) fun e he => ?_
    obtain ⟨h1, h2⟩ := (howner e).1 he
    have := (hget e).2 ⟨h1, (h.agrees.owners e).2 h2⟩
    exact absurd ((setEmpty_iff.1 hempty e).symm.trans this) nofun
  · rw [if_neg hempty]
    obtain ⟨h1, h2, h3, h4, h5, h6, h7, h8, h9⟩ := h.agrees
    obtain ⟨e, he⟩ := setEmpty_false_iff.1 (eq_false_of_ne_true hempty)
    refine ⟨⟨h1, h2, h3, h4, fun e => ?_, fun e => ?_, fun e hs => ?_, ?_, h9⟩, h.order⟩
    · exact (hget e).trans ((and_congr_right fun _ => h5 e).trans (howner e).symm)
    · refine Iff.trans ?_ (hget e).symm
      show ((s.engine.path.set c none).get e).isSome = true ↔ _
      rw [PerChannel.get_set]
      split
      next he => simp [he]
      next he => simpa [he] using h6 e
    · refine (hget e).2 ?_
      change ((s.engine.spans.set c none).get e).isSome = true at hs
      rw [PerChannel.get_set] at hs
      split at hs
      next => cases hs
      next hne => exact ⟨hne, h7 e hs⟩
    · refine iff_of_false hne fun hn => ?_
      exact absurd ((hn e).symm.trans he) nofun

/-! ## Events -/

theorem plays_handOver (i : Fin 4) (h : Plays s) : Plays (handOver i s) := by
  have hw : ∀ w, Plays { s with wheels := w } := fun w => h.of_eq (samePlay_of_eq rfl rfl rfl) rfl rfl
  unfold handOver
  dsimp only
  split
  · exact hw _
  next c _ =>
    split
    · exact hw _
    · split
      · exact hw _
      · by_cases ho : (s.chan c).owner = .take
        · exact plays_overtaken (hw _) ho
        · exact plays_grant (hw _) (by simp) ho

theorem plays_updated (h : Plays s) : Plays (updated s) := by
  have h1 : Plays (handOverAll s) := plays_handOver 3 (plays_handOver 2 (plays_handOver 1 (plays_handOver 0 h)))
  have h2 : Plays (runProfiles (handOverAll s)) := by
    refine h1.of_owners ?_ rfl fun c => by rw [chan_runProfiles, (profile_owner ..).1]
    rw [runProfiles_frame]
    constructor <;> rfl
  have h3 : Plays (reachMoves (runProfiles (handOverAll s))) := by
    refine foldl_keeps _ h2 fun u hu c _ => ?_
    split
    · exact hu.of_eq (samePlay_of_eq (by simp) (by simp) (by simp)) (by simp) (by simp)
    · exact hu
  refine h3.of_channels (samePlay_of_eq rfl rfl rfl) rfl fun c => ?_
  rw [updated, releaseIdle, chan_mapChannels]
  split
  next hc => exact .inr ⟨by rw [hc.1]; decide, by rw [releaseChannel_owner]; decide⟩
  next => exact .inl rfl

theorem plays_channelUpdate (h : Plays s) : Plays (channelUpdate s) := by
  have hu := plays_updated h
  rw [channelUpdate_eq]
  rcases checkStandstill_cases (updated s) with he | ⟨hst, _, he⟩
  · rw [he]; exact hu
  · rw [he]
    refine hu.of_none (hu.no_active (by simp [hst])) (samePlay_of_eq (by simp) (by simp) (by simp)) fun c => ?_
    rw [chan_enterCrane, chan_mapChannels]
    exact id

/-- A slot event finds no take active (R30, R135). -/
theorem plays_slot (hq : SequenceAgrees s) (h : Plays s) (hs : SlotStep s t) : Plays t := by
  have none_of : ∀ {n}, s.crane.slotPointer = some n → s.engine.take = none := fun {n} hp => h.no_active fun hr => by
    unfold SequenceAgrees at hq
    rw [hr] at hq
    rw [hq.2] at hp
    cases hp
  have parked_of : ∀ n, s.engine.take = none → Plays (parkedOff n s) := fun n hn => by
    refine h.of_none hn ?_ fun c => ?_
    · unfold parkedOff
      dsimp only
      split <;> exact samePlay_of_eq (by simp) (by simp) (by simp)
    · rw [chan_parkedOff]
      split
      · exact nofun
      · exact id
  have off_of : ∀ n, s.engine.take = none → (parkedOff n s).engine.take = none := fun n hn => by
    unfold parkedOff
    dsimp only
    split <;> simpa using hn
  cases hs with
  | none => exact h
  | tick => exact h.of_eq (samePlay_of_eq rfl rfl rfl) rfl rfl
  | armFail n pointer =>
    exact h.of_none (none_of pointer) (samePlay_of_eq (by simp [startParkingSlot]) (by simp [startParkingSlot])
      (by simp [startParkingSlot])) fun c => by rw [chan_enterCrane]; exact id
  | nextUp n k pointer =>
    refine h.of_none (none_of pointer) (samePlay_of_eq rfl rfl rfl) fun c => ?_
    rw [chan_startArmingSlot]
    split <;> exact id
  | ready n pointer =>
    exact h.of_none (none_of pointer) (samePlay_of_eq (by simp [clearSequence]) (by simp [clearSequence])
      (by simp [clearSequence])) fun c => by rw [chan_enterCrane]; exact id
  | nextDown n k pointer =>
    exact (parked_of n (none_of pointer)).of_eq (samePlay_of_eq rfl rfl rfl) rfl rfl
  | parked n pointer =>
    have hn := none_of pointer
    exact (parked_of n hn).of_none (off_of n hn) (samePlay_of_eq (by simp [clearSequence]) (by simp [clearSequence])
      (by simp [clearSequence])) fun c => by rw [chan_enterCrane]; exact id

theorem plays_inhibits (h : Plays s) (play : SamePlay s t) (crane : t.crane.state = s.crane.state)
    (hc : SameButInhibits s t) : Plays t := by
  refine h.of_owners play crane fun c => ?_
  obtain ⟨p, m, he⟩ := hc c
  rw [he]

theorem plays_sample : SampleKeeps Plays where
  input _ h := h.of_eq (samePlay_of_eq rfl rfl rfl) rfl rfl
  stops _ _ h _ _ := h.of_eq (samePlay_of_eq rfl rfl rfl) rfl rfl
  channels u h := plays_inhibits h (samePlay_of_eq (by rw [clearInhibits_frame]) (by rw [clearInhibits_frame])
    (by rw [clearInhibits_frame])) (by rw [clearInhibits_frame]) (chan_clearInhibits u)
  rises d _ h _ := plays_rise d h

theorem evaluateTracking_store (s : State) : SamePlay s (evaluateTracking s) := by
  obtain ⟨k, h | ⟨n, h⟩⟩ := evaluateTracking_frame s
  · rw [h]; exact samePlay_of_eq rfl rfl rfl
  · rw [h]; unfold writeFocus; split <;> exact samePlay_of_eq rfl rfl rfl

theorem plays_evaluateTracking (h : Plays s) : Plays (evaluateTracking s) := by
  refine h.of_owners (evaluateTracking_store s) (by rw [(sameBody_evaluateTracking s).crane]) fun c => ?_
  rcases chan_evaluateTracking s c with hc | ⟨-, -, n, hc⟩ <;> rw [hc]

theorem plays_raiseTracking (h : Plays s) : Plays (raiseTracking s) := h.of_eq (samePlay_of_eq rfl rfl rfl) rfl rfl

theorem plays_lensUpdate (h : Plays s) : Plays (lensUpdate s) := by
  have h1 : Plays (setTargets s (s.lens.targets.map ageTarget)) := h.of_eq (samePlay_of_eq rfl rfl rfl) rfl rfl
  have h2 := plays_evaluateTracking h1
  unfold lensUpdate trackUpdate
  split
  · exact h1
  · dsimp only
    split
    · exact h2.of_eq (samePlay_of_eq rfl rfl rfl) rfl rfl
    · exact h2

theorem plays_event (hq : SequenceAgrees s) (h : Plays s) (he : Event s t) : Plays t := by
  cases he with
  | channelUpdate => exact plays_channelUpdate h
  | driveExchange r =>
    have hx : Plays (exchanged r s) := h.of_owners (samePlay_of_eq rfl rfl rfl) rfl fun c => by
      rw [show (exchanged r s).chan c = exchangeRecord s r c from PerChannel.get_ofFn _ c, (exchangeRecord_kept r s c).2]
    exact driveExchange_keeps r hx fun c k u hu => plays_rise _ hu
  | slotEvent => exact plays_slot hq h (slotEvent_step s)
  | zoneEvaluation =>
    have he : Plays (evaluated s) := h.of_eq (samePlay_of_eq rfl rfl rfl) rfl rfl
    exact zoneEvaluation_keeps he (fun n => plays_rise _ he) fun d u hu =>
      hu.of_eq (samePlay_of_eq (by simp) (by simp) (by simp)) (by simp) (by simp)
  | inputSample x => exact plays_sample.inputSample x h
  | frameEdge =>
    obtain ⟨f, n, hf⟩ := renewFrame_frame s
    have hr : Plays (renewFrame s) := by rw [hf]; exact h.of_eq (samePlay_of_eq rfl rfl rfl) rfl rfl
    rcases frameEdge_cases s with he | ⟨hw, he⟩
    · rw [he]; exact hr
    · rw [he]; exact plays_engine.startPlay hr (by rw [hf]; simp [hw])
  | presenceSample v => rw [presenceSample_frame]; exact h.of_eq (samePlay_of_eq rfl rfl rfl) rfl rfl
  | engineMillisecond => exact plays_engine.engineMillisecond h
  | lensUpdate => exact plays_lensUpdate h
  | wheelEdge w up => exact h.of_eq (samePlay_of_eq rfl rfl rfl) rfl rfl
  | geometryUpdate => exact h.of_eq (samePlay_of_eq rfl rfl rfl) rfl rfl

/-! ## Requests -/

/-- Takes or marks are stored, and the records of active takes are not among those that change. -/
theorem Plays.of_store (h : Plays s) (engine : t.engine = s.engine) (crane : t.crane = s.crane)
    (channels : t.channels = s.channels) (order : Ascending (t.takes.map (·.number)))
    (actives : ∀ k : Take, k.active = true → (k ∈ t.takes ↔ k ∈ s.takes))
    (idles : ∀ k ∈ t.takes, k.active = false → s.engine.take ≠ some k.number)
    (locked : ∀ m ∈ t.marks, m.locked = true ↔ ∃ k ∈ s.takes, k.active = true ∧ namesMark k m.number = true) : Plays t := by
  obtain ⟨h1, h2, h3, h4, h5, h6, h7, h8, h9⟩ := h.agrees
  refine ⟨⟨?_, fun k hk => ?_, fun n hn => ?_, fun m hm => ?_, ?_, ?_, ?_, ?_, ?_⟩, order⟩
  · rwa [engine]
  · rw [engine]
    cases ha : k.active
    · exact iff_of_false nofun (idles k hk ha)
    · exact iff_of_true rfl ((h2 k ((actives k ha).1 hk)).1 ha)
  · rw [engine] at hn ⊢
    obtain ⟨k, hk, hc⟩ := h3 n hn
    obtain ⟨hmem, hnum⟩ := findTake_some hk
    have ha : k.active = true := (h2 k hmem).2 (hn.trans (congrArg some hnum.symm))
    refine ⟨k, ?_, hc⟩
    rw [← hnum]
    exact find_of_mem order ((actives k ha).2 hmem)
  · rw [locked m hm]
    exact exists_congr fun k => ⟨fun ⟨hk, ha, hn⟩ => ⟨(actives k ha).2 hk, ha, hn⟩,
      fun ⟨hk, ha, hn⟩ => ⟨(actives k ha).1 hk, ha, hn⟩⟩
  · intro c
    rw [engine, chan_eq_of_channels channels]
    exact h5 c
  · rwa [engine]
  · rwa [engine]
  · rwa [engine]
  · rw [engine, crane]; exact h9

/-- R135: an active take is the engine's. -/
theorem Plays.not_active (h : Plays s) {n : Nat} {k : Take} (found : s.findTake n = some k) (idle : k.active = false) :
    s.engine.take ≠ some k.number := fun ht => by
  rw [(h.agrees.active k (findTake_some found).1).2 ht] at idle
  cases idle

theorem Plays.idles (h : Plays s) {k : Take} (hk : k ∈ s.takes) (idle : k.active = false) :
    s.engine.take ≠ some k.number := fun ht => by
  rw [(h.agrees.active k hk).2 ht] at idle
  cases idle

/-- R124: the cues of a take that is not active are replaced. -/
theorem plays_setCues (h : Plays s) {n : Nat} {k : Take} (found : s.findTake n = some k) (idle : k.active = false)
    (cues added removed : List Cue) : Plays (setCues k cues added removed s) := by
  obtain ⟨hmem, -⟩ := findTake_some found
  have hkey : ∀ u : Take, (if u.number = k.number then { u with cues := cues } else u).number = u.number := fun u => by
    split <;> rfl
  have heq : ∀ u ∈ s.takes, u.number = k.number → u = k := fun u hu he => eq_of_key_eq h.order hu hmem he
  refine h.of_store rfl rfl rfl ?_ (fun u ha => ?_) (fun u hu ha => ?_) fun m hm => ?_
  · show Ascending ((List.map _ _).map _)
    rw [map_key_map hkey]
    exact h.order
  · show u ∈ s.takes.map _ ↔ _
    refine List.mem_map.trans ⟨fun ⟨v, hv, he⟩ => ?_, fun hu => ⟨u, hu, ?_⟩⟩
    · split at he
      next hvn =>
        rw [← he, heq v hv hvn] at ha
        exact absurd (idle.symm.trans ha) nofun
      next => exact he ▸ hv
    · split
      next hun =>
        rw [heq u hu hun] at ha
        exact absurd (idle.symm.trans ha) nofun
      next => rfl
  · obtain ⟨v, hv, rfl⟩ := List.mem_map.1 hu
    rw [hkey]
    refine h.idles hv ?_
    split at ha <;> exact ha
  · obtain ⟨v, hv, rfl⟩ := List.mem_map.1 hm
    exact h.agrees.locked v hv

theorem samePlay_grantedTake (set : PerChannel Bool) (s : State) : SamePlay s (grantedTake set s) :=
  foldl_keeps (P := SamePlay s) _ (samePlay_of_eq (by simp) (by simp) (by simp)) fun _ hu _ _ =>
    hu.trans (grant_store (.inl (by decide)))

/-- R109, R124, R135: the take of an accepted TAKE_ARM is active and its marks are locked, before cue 1 starts. -/
theorem plays_lockedTake (h : Plays s) {n : Nat} {k : Take} {set : PerChannel Bool} (found : s.findTake n = some k)
    (ready : s.crane.state = .ready) (idle : s.engine.state = .idle) (cues : k.cues ≠ []) (some : setEmpty set = false) :
    Plays (lockedTake k set s) := by
  have hnone : s.engine.take = .none := h.agrees.idle.1 idle
  have hoff : ∀ u ∈ s.takes, u.active = false := fun u hu => by
    by_contra ha
    rw [(h.agrees.active u hu).1 (eq_true_of_ne_false ha)] at hnone
    cases hnone
  obtain ⟨hmem, -⟩ := findTake_some found
  have hsame := samePlay_grantedTake set s
  have htakes : (lockedTake k set s).takes =
      s.takes.map fun u => if u.number = k.number then { u with active := true } else u := congrArg _ hsame.takes
  have hmarks : (lockedTake k set s).marks =
      s.marks.map fun m => if namesMark k m.number then { m with locked := true } else m := congrArg _ hsame.marks
  have hkey : ∀ u : Take, (if u.number = k.number then { u with active := true } else u).number = u.number := fun u => by
    split <;> rfl
  have hnumber : ∀ m : Mark, (if namesMark k m.number then { m with locked := true } else m).number = m.number := fun m => by
    split <;> rfl
  have hchan : ∀ c, (lockedTake k set s).chan c =
      if set.get c = true then grantRecord .take .path none none (s.chan c) else s.chan c := chan_grantedTake s set
  refine ⟨⟨⟨nofun, nofun⟩, fun u hu => ?_, fun j hj => ?_, fun m hm => ?_, fun c => ?_, fun c => ?_, fun c hc => ?_, ?_, fun _ => ?_⟩, ?_⟩
  · show u.active = true ↔ Option.some k.number = Option.some u.number
    rw [htakes] at hu
    obtain ⟨v, hv, rfl⟩ := List.mem_map.1 hu
    rw [hkey]
    split
    next he => simp [he]
    next hne => rw [hoff v hv]; simpa using fun he => hne he.symm
  · cases hj
    refine ⟨{ k with active := true }, ?_, le_rfl, List.length_pos_iff.2 cues⟩
    show (lockedTake k set s).takes.find? _ = _
    rw [htakes, find_map_key hkey, find_of_mem h.order hmem]
    simp
  · rw [hmarks] at hm
    rw [htakes]
    obtain ⟨v, hv, rfl⟩ := List.mem_map.1 hm
    rw [hnumber]
    have hlocked : v.locked = false := by
      by_contra hl
      obtain ⟨u, hu, ha, -⟩ := (h.agrees.locked v hv).1 (eq_true_of_ne_false hl)
      rw [hoff u hu] at ha
      cases ha
    constructor
    · split
      next hn => exact fun _ => ⟨{ k with active := true }, List.mem_map.2 ⟨k, hmem, by simp⟩, rfl, hn⟩
      next => exact fun hl => absurd (hlocked.symm.trans hl) nofun
    · rintro ⟨w, hw, ha, hn⟩
      obtain ⟨u, hu, rfl⟩ := List.mem_map.1 hw
      split at ha
      next he =>
        rw [if_pos he, eq_of_key_eq h.order hu hmem he] at hn
        rw [if_pos (show namesMark k v.number = true from hn)]
      next => exact absurd ((hoff u hu).symm.trans ha) nofun
  · show set.get c = true ↔ _
    rw [hchan]
    split
    next hc => exact iff_of_true hc rfl
    next hc => exact iff_of_false hc (h.no_take hnone c)
  · show ((armedEngine k.number set s).path.get c).isSome = true ↔ set.get c = true
    simp only [armedEngine, PerChannel.get_ofFn]
    split <;> simp_all
  · simp [lockedTake, lockTake, armedEngine] at hc
  · refine iff_of_false nofun fun hn => ?_
    obtain ⟨c, hc⟩ := setEmpty_false_iff.1 some
    exact absurd ((hn c).symm.trans hc) nofun
  · rw [(sameBody_lockedTake s k set).crane]
    exact ready
  · rw [htakes, map_key_map hkey]
    exact h.order

/-- R138: the arming of a take. -/
theorem plays_armTake (h : Plays s) {n : Nat} {k : Take} {set : PerChannel Bool} (found : s.findTake n = some k)
    (ready : s.crane.state = .ready) (idle : s.engine.state = .idle) (cues : k.cues ≠ []) (some : setEmpty set = false) :
    Plays (armTake k set s) := by
  have hl := plays_lockedTake h found ready idle cues some
  have hs : (lockedTake k set s).engine.state ≠ .idle := nofun
  have hc := plays_engine.startCue hl hs
  rw [← EngineKeeps.startCue_state] at hs
  rw [armTake_eq]
  exact plays_engine.tells _ (plays_engine.engine _ _ hc hs ((Stepped.refl _ hs).of_eq _ rfl rfl hs rfl rfl rfl))

theorem not_take_of_console {moves : Bool} {c : Chan} (h : claimCode .console moves s c = none) :
    (s.chan c).owner ≠ .take := fun ho => by
  unfold claimCode at h
  repeat' split at h
  all_goals simp [ownerTest, ho] at h

theorem not_take_of_track {c : Chan} (h : claimCode .track false s c = none) : (s.chan c).owner ≠ .take := fun ho => by
  unfold claimCode at h
  split at h <;> simp [ownerTest, ho] at h

/-- R109: no cue of an active take names an unlocked mark, nor one that does not exist. -/
theorem Plays.not_named (h : Plays s) (cues : ∀ k ∈ s.takes, ∀ q ∈ k.cues, ∃ m ∈ s.marks, m.number = q.mark)
    (marks : Ascending (s.marks.map (·.number))) {n : Nat} (free : ∀ m, s.findMark n = some m → m.locked = false) :
    ¬ ∃ k ∈ s.takes, k.active = true ∧ namesMark k n = true := by
  rintro ⟨k, hk, ha, hn⟩
  obtain ⟨q, hq, he⟩ := List.any_eq_true.1 hn
  obtain ⟨m, hm, hmn⟩ := cues k hk q hq
  have hmn : m.number = n := hmn.trans (by simpa using he)
  have hfind : s.findMark n = some m := hmn ▸ find_of_mem marks hm
  have := (h.agrees.locked m hm).2 ⟨k, hk, ha, hmn ▸ hn⟩
  rw [free m hfind] at this
  cases this

theorem samePlay_applyChangedLimits (before : State) : SamePlay s (applyChangedLimits before s) :=
  foldl_keeps (P := SamePlay s) lensChans (.refl s) fun u hu c _ => by
    split
    · exact hu
    · exact hu.trans (samePlay_of_eq rfl rfl rfl)

theorem samePlay_gotoOpened (mask : ChannelMask) (targets : List (Chan × Int)) (s : State) :
    SamePlay s (gotoOpened mask targets s) := by
  have hi : SamePlay s (interruptMoves (fun c => (targets.map (·.1)).contains c) s) :=
    samePlay_of_eq (by simp) (by simp) (by simp)
  have hg := foldl_keeps (P := SamePlay s) targets hi
    (f := fun t p => grant .console .position none (some (clampInt (s.lo p.1) (s.hi p.1) p.2)) p.1 t)
    fun _ hu _ _ => hu.trans (grant_store (.inl (by decide)))
  exact hg.trans (samePlay_of_eq rfl rfl rfl)

theorem samePlay_selectBank (b : Option (Fin 4)) (s : State) : SamePlay s (selectBank b s) :=
  foldl_keeps (P := SamePlay s) lensChans (samePlay_of_eq rfl rfl rfl) fun _ hu _ _ => hu.trans (samePlay_of_eq rfl rfl rfl)

theorem samePlay_trackOff (s : State) : SamePlay s (trackingOff (releaseTracked s)) := by
  unfold releaseTracked
  split <;> exact samePlay_of_eq (by simp) (by simp) (by simp)

theorem Plays.of_limits (h : Plays s) (play : SamePlay s t) (crane : t.crane = s.crane) {lo hi : Chan → Int}
    {p : Chan → Prop} [DecidablePred p]
    (chans : ∀ c, t.chan c = if p c then withLimits (lo c) (hi c) (s.chan c) else s.chan c) : Plays t := by
  refine h.of_owners play (by rw [crane]) fun c => ?_
  rw [chans]
  split <;> rfl

theorem plays_taken {j : Instr} (h : Plays s) (hr : RecordsAgree s) (ht : Taken j s t) : Plays t := by
  have same : ∀ {t}, t.engine = s.engine → t.takes = s.takes → t.marks = s.marks → t.crane.state = s.crane.state →
      t.channels = s.channels → Plays t := fun h1 h2 h3 h4 h5 => h.of_eq (samePlay_of_eq h1 h2 h3) h4 h5
  cases ht
  case notice k => rw [serveNoticeTimer_frame]; exact same rfl rfl rfl rfl rfl
  case configSet k w low high order parked item =>
    refine h.of_limits ?_ ?_ (chan_actOnWrite k { s with config := storeItem s.config k w })
    · rw [actOnWrite_frame]; exact samePlay_of_eq rfl rfl rfl
    · rw [actOnWrite_frame]
  case arm parked _ _ _ =>
    have hn := h.no_active (by simp [parked])
    refine h.of_none hn (samePlay_of_eq (by simp [startArmingSlot]) (by simp [startArmingSlot]) (by simp [startArmingSlot]))
      fun c => ?_
    rw [chan_enterCrane, chan_startArmingSlot]
    split <;> exact id
  case park ready idle still =>
    exact h.of_none idle (samePlay_of_eq (by simp [startParkingSlot]) (by simp [startParkingSlot])
      (by simp [startParkingSlot])) fun c => by rw [chan_enterCrane]; exact id
  case jog c d claim =>
    obtain ⟨moves, hc⟩ := claim
    exact plays_grant h (by decide) (not_take_of_console hc)
  case goto mask targets some nodup claims =>
    refine h.of_channels (samePlay_gotoOpened mask targets s) (by rw [(sameBody_gotoOpened s mask targets).crane]) fun c => ?_
    by_cases hc : c ∈ targets.map (·.1)
    · obtain ⟨p, hp, rfl⟩ := List.mem_map.1 hc
      exact .inr ⟨not_take_of_console (claims p hp), by rw [chan_gotoOpened_mem s mask nodup hp]; exact nofun⟩
    · exact .inl (by rw [chan_gotoOpened_other s mask hc])
  case release hit console =>
    refine h.of_channels (samePlay_of_eq (by simp) (by simp) (by simp)) (by simp) fun c => ?_
    rw [chan_interruptMoves, chan_mapChannels]
    split
    next hc => exact .inr ⟨by rw [console c hc]; decide, by rw [releaseChannel_owner]; decide⟩
    next => exact .inl rfl
  case wheelAssign w c gain =>
    unfold releaseWheelChannel
    split
    next d _ =>
      split
      next hw =>
        refine h.of_channels (samePlay_of_eq rfl rfl rfl) rfl fun e => ?_
        rw [chan_setChan]
        split
        next he => exact .inr ⟨by rw [he]; exact hw.symm ▸ (by decide : Owner.wheel ≠ .take), by
          rw [releaseChannel_owner]; decide⟩
        next => exact .inl rfl
      · exact same rfl rfl rfl rfl rfl
    next => exact same rfl rfl rfl rfl rfl
  case stop o => exact plays_rise _ h
  case ackHalted halted =>
    refine h.of_none (h.no_active (by simp [halted])) (samePlay_of_eq (by simp [clearLatches]) (by simp [clearLatches])
      (by simp [clearLatches])) fun c => ?_
    rw [chan_enterCrane]
    exact id
  case ackTripped tripped free =>
    have hn := h.no_active (by simp [tripped])
    refine h.of_none hn (samePlay_of_eq ?_ ?_ ?_) fun c => ?_
    · rw [setInhibits_frame]; simp [clearLatches]
    · rw [setInhibits_frame]; simp [clearLatches]
    · rw [setInhibits_frame]; simp [clearLatches]
    · obtain ⟨p, m, he⟩ := chan_setInhibits (clearLatches s) c
      rw [chan_enterCrane, he]
      exact id
  case ackParked parked =>
    have hn := h.no_active (by simp [parked])
    refine h.of_none hn (samePlay_of_eq ?_ ?_ ?_) fun c => ?_
    · rw [setInhibits_frame]; simp [clearLatches]
    · rw [setInhibits_frame]; simp [clearLatches]
    · rw [setInhibits_frame]; simp [clearLatches]
    · obtain ⟨p, m, he⟩ := chan_setInhibits (clearLatches s) c
      rw [chan_raiseState, he]
      exact id
  case markStore n tag values low high free =>
    refine h.of_store rfl rfl rfl h.order (fun _ _ => Iff.rfl) (fun k hk => h.idles hk) fun m hm => ?_
    rcases (mem_upsert hr.markOrder _ _).1 hm with rfl | ⟨hm, -⟩
    · refine iff_of_false ?_ (h.not_named hr.cuesNameMarks hr.markOrder free)
      unfold storedMark
      cases hf : s.findMark n with
      | none => exact nofun
      | some m => simp [free m hf]
    · exact h.agrees.locked m hm
  case markRetire n m found free unused =>
    exact h.of_store rfl rfl rfl h.order (fun _ _ => Iff.rfl) (fun k hk => h.idles hk) fun m hm =>
      h.agrees.locked m (mem_eraseKey.1 hm).1
  case takeCreate n tag low high fresh =>
    have hm : ∀ k, k ∈ upsert (·.number) (newTake n tag) s.takes ↔ k = newTake n tag ∨ k ∈ s.takes := fun k => by
      refine (mem_upsert h.order _ _).trans (or_congr_right ⟨And.left, fun hk => ⟨hk, fun he => ?_⟩⟩)
      have hk' := h.findTake_of_mem hk
      rw [show k.number = n from he, fresh] at hk'
      cases hk'
    refine h.of_store rfl rfl rfl (ascending_upsert _ h.order) (fun k ha => ?_) (fun k hk ha => ?_) h.agrees.locked
    · exact (hm k).trans (or_iff_right fun he => by rw [he] at ha; cases ha)
    · rcases (hm k).1 hk with rfl | hk
      · intro he
        obtain ⟨j, hj, -⟩ := h.agrees.cueIndex _ he
        rw [show (newTake n tag).number = n from rfl, fresh] at hj
        cases hj
      · exact h.idles hk ha
  case cueInsert n k pos q found idle _ _ _ _ => exact plays_setCues h found idle _ _ _
  case cueReplace n k pos q found idle _ _ => exact plays_setCues h found idle _ _ _
  case cueDelete n k pos found idle _ => exact plays_setCues h found idle _ _ _
  case takeRetire n k found idle =>
    obtain ⟨hmem, hnum⟩ := findTake_some found
    refine h.of_store rfl rfl rfl (ascending_eraseKey n h.order) (fun u ha => ?_) (fun u hu => ?_) fun m hm => ?_
    · refine mem_eraseKey.trans (and_iff_left_of_imp fun hu he => ?_)
      rw [eq_of_key_eq h.order hu hmem (he.trans hnum.symm), idle] at ha
      cases ha
    · exact h.idles (mem_eraseKey.1 hu).1
    · obtain ⟨v, hv, rfl⟩ := List.mem_map.1 hm
      exact h.agrees.locked v hv
  case takeArm n k found ready idle cues some claims => exact plays_armTake h found ready idle cues some
  case frameWait armed =>
    have hn : s.engine.state ≠ .idle := by simp [armed]
    exact plays_engine.tells _ (plays_engine.engine s _ h hn ((Stepped.refl s hn).of_eq s rfl rfl nofun rfl rfl rfl))
  case play armed => exact plays_engine.startPlay h (by simp [armed])
  case pause playing =>
    have hn : s.engine.state ≠ .idle := by simp [playing]
    exact plays_engine.engine s _ h hn ((Stepped.refl s hn).of_eq s rfl rfl hn rfl rfl rfl)
  case resume on =>
    have hn : s.engine.state ≠ .idle := fun hi => by simp [pausing, hi] at on
    exact plays_engine.engine s _ h hn ((Stepped.refl s hn).of_eq s rfl rfl nofun rfl rfl rfl)
  case resumePaused paused =>
    have hn : s.engine.state ≠ .idle := by simp [paused]
    exact plays_engine.tells _ (plays_engine.engine s _ h hn ((Stepped.refl s hn).of_eq s rfl rfl nofun rfl rfl rfl))
  case abort => exact plays_endTake _ h
  case mapSetSelected b m valid selected free =>
    have h1 : Plays (setBanks s (s.lens.banks.set b (Option.some (storedMap m)))) := same rfl rfl rfl rfl rfl
    exact h1.of_limits (samePlay_applyChangedLimits s) (sameBody_applyChangedLimits _ s).crane
      fun c => chan_applyChangedLimits _ s c
  case lensSelect b held free => exact h.of_limits (samePlay_selectBank b s) (sameBody_selectBank s b).crane (chan_selectBank s b)
  case trackOn n map found claim =>
    have hg := plays_grant (p := .track) (m := .position) (d := none) (x := some (s.chan .focus).setpoint) h (by decide)
      (not_take_of_track claim)
    have hk : ∀ k, Plays (setTracking (grant .track .position none (some (s.chan .focus).setpoint) .focus s) k) :=
      fun k => hg.of_eq (samePlay_of_eq rfl rfl rfl) rfl rfl
    exact plays_raiseTracking (plays_evaluateTracking (hk _))
  case trackOff on =>
    refine h.of_channels (samePlay_trackOff s) (by rw [(sameBody_trackOff s).crane]) fun c => ?_
    rw [chan_trackOff]
    split
    next hc => exact .inr ⟨by rw [hc.1, hc.2]; decide, by rw [releaseChannel_owner]; decide⟩
    next => exact .inl rfl
  all_goals exact same rfl rfl rfl rfl rfl

theorem plays_reset (warm : Bool) (cause : ResetCause) (straps : Straps) (h : Plays s) :
    Plays (performReset warm cause straps s) := by
  have hr : PlayAgrees .reset := playAgrees_reset
  unfold performReset
  split
  · refine ⟨⟨hr.idle, fun k hk => ?_, nofun, fun m hm => ?_, hr.owners, hr.paths, hr.spans, hr.someChannel, nofun⟩, ?_⟩
    · obtain ⟨v, -, rfl⟩ := List.mem_map.1 hk
      exact ⟨nofun, nofun⟩
    · obtain ⟨v, -, rfl⟩ := List.mem_map.1 hm
      refine iff_of_false nofun fun ⟨k, hk, ha, _⟩ => ?_
      obtain ⟨w, -, rfl⟩ := List.mem_map.1 hk
      cases ha
    · show Ascending ((s.takes.map warmTake).map _)
      rw [map_key_map (f := warmTake) fun _ => rfl]
      exact h.order
  · exact (⟨hr, recordsAgree_reset.takeOrder⟩ : Plays .reset).of_eq (samePlay_of_eq rfl rfl rfl) rfl rfl

theorem plays_effect {i : Instr} (hq : SequenceAgrees s) (hr : RecordsAgree s) (h : Plays s) (he : Effect i s t) :
    Plays t := by
  cases he with
  | nothing => exact h
  | receiver => exact h.of_eq (samePlay_of_eq rfl rfl rfl) rfl rfl
  | request j l receives =>
    have hs : Plays (serveSupervision s) := h.of_eq (samePlay_of_eq rfl rfl rfl) rfl rfl
    have hrs : RecordsAgree (serveSupervision s) := ⟨hr.1, hr.2, hr.3, hr.4, hr.5, hr.6, hr.7, hr.8⟩
    exact (plays_taken hs hrs (takeRequest_taken j _)).of_eq (samePlay_of_eq rfl rfl rfl) rfl rfl
  | timers => exact h.of_eq (samePlay_of_eq rfl rfl rfl) rfl rfl
  | expiry k n =>
    have ht : Plays { tickLinkTimers s with freeCount := n } := h.of_eq (samePlay_of_eq rfl rfl rfl) rfl rfl
    rcases expireLink_cases k { tickLinkTimers s with freeCount := n } _ rfl with ⟨_, he⟩ | ⟨_, he⟩
    · rw [he]; exact ht.of_eq (samePlay_of_eq rfl rfl rfl) rfl rfl
    · rw [he]; exact plays_rise _ (ht.of_eq (samePlay_of_eq rfl rfl rfl) rfl rfl)
  | event _ _ event => exact plays_event hq h event
  | held => exact h.of_eq (samePlay_of_eq rfl rfl rfl) rfl rfl
  | backup => exact h.of_eq (samePlay_of_eq rfl rfl rfl) rfl rfl
  | reset warm cause straps p => exact plays_reset warm cause straps (h.of_eq (samePlay_of_eq rfl rfl rfl) rfl rfl)

/-- Settles O9: every command keeps engine, active take, locks and TAKE channels in agreement; that take numbers are unique
is part of the invariant carried through a command. -/
theorem stepsKeepThePlay : Obligations.StepsKeepThePlay := by
  intro s t hq hr hp ht
  obtain rfl | ⟨i, q, he⟩ := step_cases ht
  · exact hp
  · have h : Plays { s with pending := q } :=
      (⟨hp, hr.takeOrder⟩ : Plays s).of_eq (samePlay_of_eq rfl rfl rfl) rfl rfl
    exact (plays_effect (s := { s with pending := q }) hq ⟨hr.1, hr.2, hr.3, hr.4, hr.5, hr.6, hr.7, hr.8⟩ h
      (exec_effect he)).agrees

end Play

end Sys2Proof.Machine

/-! What every command keeps of marks, takes, cues and reference counts (R106, R108, R119, R121, R122, R133), and of the order
of zones and targets (R66, R161). -/

namespace Sys2Proof.Machine

/-! ## Cues and their counts -/

section Cues

variable {n k : Nat} {q : Cue} {cs ds : List Cue}

theorem countCues_append (n : Nat) (cs ds : List Cue) : countCues n (cs ++ ds) = countCues n cs + countCues n ds := by
  simp [countCues]

theorem countCues_cons (n : Nat) (q : Cue) (cs : List Cue) : countCues n (q :: cs) = countCues n [q] + countCues n cs :=
  countCues_append n [q] cs

/-- A cue list is cut at position k, 1 for the first. -/
theorem cues_split (h : 1 ≤ k) (cs : List Cue) : cs.take (k - 1) ++ (cueAt k cs ++ cs.drop k) = cs := by
  have hd : cs.drop k = (cs.drop (k - 1)).drop 1 := by rw [List.drop_drop, Nat.sub_add_cancel h]
  rw [cueAt, hd, List.take_append_drop, List.take_append_drop]

theorem length_cueAt (h : 1 ≤ k) (hk : k ≤ cs.length) : (cueAt k cs).length = 1 := by
  simp [cueAt]; omega

theorem countCues_insert (n k : Nat) (q : Cue) (cs : List Cue) :
    countCues n (insertCue k q cs) + countCues n [] = countCues n cs + countCues n [q] := by
  have h : countCues n cs = countCues n (cs.take (k - 1)) + countCues n (cs.drop (k - 1)) := by
    rw [← countCues_append, List.take_append_drop]
  rw [h, insertCue, countCues_append, countCues_cons]
  simp only [countCues, List.filter_nil, List.length_nil]
  omega

theorem countCues_replace (h : 1 ≤ k) (n : Nat) (q : Cue) (cs : List Cue) :
    countCues n (replaceCue k q cs) + countCues n (cueAt k cs) = countCues n cs + countCues n [q] := by
  have hs := congrArg (countCues n) (cues_split h cs)
  rw [countCues_append, countCues_append] at hs
  rw [replaceCue, countCues_append, countCues_cons]
  omega

theorem countCues_delete (h : 1 ≤ k) (n : Nat) (cs : List Cue) :
    countCues n (deleteCue k cs) + countCues n (cueAt k cs) = countCues n cs + countCues n [] := by
  have hs := congrArg (countCues n) (cues_split h cs)
  rw [countCues_append, countCues_append] at hs
  rw [deleteCue, countCues_append]
  simp only [countCues, List.filter_nil, List.length_nil] at hs ⊢
  omega

theorem length_insertCue (k : Nat) (q : Cue) (cs : List Cue) : (insertCue k q cs).length = cs.length + 1 := by
  simp [insertCue]; omega

theorem length_replaceCue (h : 1 ≤ k) (hk : k ≤ cs.length) (q : Cue) : (replaceCue k q cs).length = cs.length := by
  simp [replaceCue]; omega

theorem length_deleteCue (h : 1 ≤ k) (hk : k ≤ cs.length) : (deleteCue k cs).length + 1 = cs.length := by
  simp [deleteCue]; omega

theorem mem_insertCue {x : Cue} (hx : x ∈ insertCue k q cs) : x = q ∨ x ∈ cs := by
  rw [insertCue, List.mem_append, List.mem_cons] at hx
  rcases hx with hx | rfl | hx
  · exact .inr (List.mem_of_mem_take hx)
  · exact .inl rfl
  · exact .inr (List.mem_of_mem_drop hx)

theorem mem_replaceCue {x : Cue} (hx : x ∈ replaceCue k q cs) : x = q ∨ x ∈ cs := by
  rw [replaceCue, List.mem_append, List.mem_cons] at hx
  rcases hx with hx | rfl | hx
  · exact .inr (List.mem_of_mem_take hx)
  · exact .inl rfl
  · exact .inr (List.mem_of_mem_drop hx)

theorem mem_deleteCue {x : Cue} (hx : x ∈ deleteCue k cs) : x ∈ cs := by
  rw [deleteCue, List.mem_append] at hx
  exact hx.elim List.mem_of_mem_take List.mem_of_mem_drop

theorem countCues_eq_zero : countCues n cs = 0 ↔ ∀ q ∈ cs, q.mark ≠ n := by
  simp [countCues, List.filter_eq_nil_iff]

end Cues

/-! ## Sums over a table -/

section Sums

variable {takes : List Take} {k : Take}

/-- One record of a table replaced: the sum over the table changes by that record. -/
theorem sum_replace (order : Ascending (takes.map (·.number))) (hk : k ∈ takes) (f : Take → Nat) (g : Take → Take) :
    ((takes.map fun u => if u.number = k.number then g u else u).map f).sum + f k = (takes.map f).sum + f (g k) := by
  induction takes with
  | nil => cases hk
  | cons u us ih =>
    rcases List.mem_cons.1 hk with rfl | hk
    · have hrest : (us.map fun u => if u.number = k.number then g u else u) = us := by
        refine (List.map_congr_left fun u hu => ?_).trans (List.map_id' us)
        have := order.lt_of_cons hu
        rw [if_neg (by omega)]
      simp only [List.map_cons, List.sum_cons, hrest, if_true]
      omega
    · have := order.lt_of_cons hk
      have := ih order.of_cons hk
      simp only [List.map_cons, List.sum_cons]
      rw [if_neg (by omega)]
      omega

/-- One record of a table removed. -/
theorem sum_erase (order : Ascending (takes.map (·.number))) (hk : k ∈ takes) (f : Take → Nat) :
    ((eraseKey (·.number) k.number takes).map f).sum + f k = (takes.map f).sum := by
  induction takes with
  | nil => cases hk
  | cons u us ih =>
    rcases List.mem_cons.1 hk with rfl | hk
    · have hrest : eraseKey (·.number) k.number us = us := List.filter_eq_self.2 fun u hu => by
        have := order.lt_of_cons hu
        simp only [bne_iff_ne]
        omega
      have hcons : eraseKey (·.number) k.number (k :: us) = eraseKey (·.number) k.number us := by simp [eraseKey]
      rw [hcons, hrest, List.map_cons, List.sum_cons]
      omega
    · have hlt := order.lt_of_cons hk
      have hcons : eraseKey (·.number) k.number (u :: us) = u :: eraseKey (·.number) k.number us := by
        rw [eraseKey, List.filter_cons_of_pos (by simp only [bne_iff_ne]; omega)]
        rfl
      have := ih order.of_cons hk
      rw [hcons, List.map_cons, List.sum_cons, List.map_cons, List.sum_cons]
      omega

/-- A record of the table bears its share of the sum. -/
theorem le_sum (hk : k ∈ takes) (f : Take → Nat) : f k ≤ (takes.map f).sum :=
  List.single_le_sum (fun _ _ => Nat.zero_le _) _ (List.mem_map_of_mem hk)

/-- A new record adds its share. -/
theorem sum_upsert (f : Take → Nat) (new : ∀ u ∈ takes, u.number ≠ k.number) :
    ((upsert (·.number) k takes).map f).sum = (takes.map f).sum + f k := by
  induction takes with
  | nil => simp [upsert]
  | cons u us ih =>
    have := new u List.mem_cons_self
    have := ih fun v hv => new v (List.mem_cons_of_mem _ hv)
    simp only [upsert]
    split
    · simp only [List.map_cons, List.sum_cons]; omega
    · rw [if_neg (by omega)]
      simp only [List.map_cons, List.sum_cons]
      omega

end Sums

/-! ## The records -/

/-- Marks have the same numbers and reference counts, takes the same numbers and cues. -/
structure SameRecords (s t : State) : Prop where
  marks : t.marks.map (fun m => (m.number, m.refCount)) = s.marks.map fun m => (m.number, m.refCount)
  takes : t.takes.map (fun k => (k.number, k.cues)) = s.takes.map fun k => (k.number, k.cues)

section Records

variable {s t u : State}

theorem SameRecords.refl (s : State) : SameRecords s s := ⟨rfl, rfl⟩

theorem SameRecords.trans (h : SameRecords s t) (k : SameRecords t u) : SameRecords s u :=
  ⟨k.marks.trans h.marks, k.takes.trans h.takes⟩

theorem sameRecords_of_eq (takes : t.takes = s.takes) (marks : t.marks = s.marks) : SameRecords s t :=
  ⟨by rw [marks], by rw [takes]⟩

theorem SamePlay.records (h : SamePlay s t) : SameRecords s t := sameRecords_of_eq h.takes h.marks

theorem SameRecords.symm (h : SameRecords s t) : SameRecords t s := ⟨h.marks.symm, h.takes.symm⟩

theorem SameRecords.mark (h : SameRecords s t) {m : Mark} (hm : m ∈ t.marks) :
    ∃ j ∈ s.marks, j.number = m.number ∧ j.refCount = m.refCount := by
  obtain ⟨j, hj, he⟩ := List.mem_map.1 (h.marks ▸ List.mem_map_of_mem (f := fun m : Mark => (m.number, m.refCount)) hm)
  exact ⟨j, hj, congrArg Prod.fst he, congrArg Prod.snd he⟩

theorem SameRecords.take (h : SameRecords s t) {k : Take} (hk : k ∈ t.takes) :
    ∃ j ∈ s.takes, j.number = k.number ∧ j.cues = k.cues := by
  obtain ⟨j, hj, he⟩ := List.mem_map.1 (h.takes ▸ List.mem_map_of_mem (f := fun k : Take => (k.number, k.cues)) hk)
  exact ⟨j, hj, congrArg Prod.fst he, congrArg Prod.snd he⟩

/-- Whatever depends on the compared parts alone is the same. -/
theorem map_of_map_eq {α β γ : Type} {f : α → β} {xs ys : List α} (h : ys.map f = xs.map f) (g : β → γ) :
    (ys.map fun y => g (f y)) = xs.map fun x => g (f x) := by
  simpa [Function.comp_def] using congrArg (List.map g) h

theorem RecordsAgree.of_same (h : RecordsAgree s) (same : SameRecords s t) : RecordsAgree t := by
  obtain ⟨h1, h2, h3, h4, h5, h6, h7, h8⟩ := h
  have ht := same.takes
  have hrefs : ∀ n, references t.takes n = references s.takes n := fun n =>
    congrArg List.sum (map_of_map_eq ht fun p => countCues n p.2)
  refine ⟨?_, fun m hmem => ?_, ?_, fun k hk => ?_, fun m hmem => ?_, fun k hk q hq => ?_, fun k hk => ?_, ?_⟩
  · rw [map_of_map_eq same.marks Prod.fst]; exact h1
  · obtain ⟨j, hj, hn, -⟩ := same.mark hmem
    exact hn ▸ h2 j hj
  · rw [map_of_map_eq ht Prod.fst]; exact h3
  · obtain ⟨j, hj, hn, -⟩ := same.take hk
    exact hn ▸ h4 j hj
  · obtain ⟨j, hj, hn, hr⟩ := same.mark hmem
    rw [hrefs, ← hn, ← hr]
    exact h5 j hj
  · obtain ⟨j, hj, -, hc⟩ := same.take hk
    obtain ⟨m, hm, hmn⟩ := h6 j hj q (hc ▸ hq)
    obtain ⟨m', hm', he, -⟩ := same.symm.mark hm
    exact ⟨m', hm', he.trans hmn⟩
  · obtain ⟨j, hj, -, hc⟩ := same.take hk
    exact hc ▸ h7 j hj
  · have hl : cuesStored t.takes = cuesStored s.takes := congrArg List.sum (map_of_map_eq ht fun p => p.2.length)
    rwa [hl]

/-! ### What leaves the records as they are -/

theorem sameRecords_endTake (r : TakeResult) (s : State) : SameRecords s (endTake r s) := by
  cases hn : s.engine.take with
  | none => rw [endTake_idle s r hn]; exact .refl s
  | some n =>
    obtain ⟨hk, hm⟩ := endTake_store r hn
    constructor
    · rw [hm, List.map_map]
      exact List.map_congr_left fun m _ => by dsimp only [Function.comp_apply]; split <;> rfl
    · rw [hk, List.map_map]
      exact List.map_congr_left fun k _ => by dsimp only [Function.comp_apply]; split <;> rfl

theorem sameRecords_overtake (c : Chan) (s : State) : SameRecords s (overtake c s) := by
  rw [overtake_eq]
  split
  · refine SameRecords.trans ?_ (sameRecords_endTake _ _)
    exact sameRecords_of_eq rfl rfl
  · exact sameRecords_of_eq rfl rfl

theorem sameRecords_grant (p : Party) (m : Mode) (d x : Option Int) (c : Chan) (s : State) :
    SameRecords s (grant p m d x c s) := by
  unfold grant reportLoss
  cases (s.chan c).owner
  case take =>
    dsimp only
    split
    · refine SameRecords.trans ?_ (sameRecords_overtake c _)
      exact sameRecords_of_eq rfl rfl
    · exact sameRecords_of_eq rfl rfl
  case track => dsimp only; split <;> exact sameRecords_of_eq (by simp) (by simp)
  all_goals exact sameRecords_of_eq (by simp) (by simp)

theorem sameRecords_entryA (s : State) : SameRecords s (entryA s) := by
  have h := sameRecords_endTake .stopped (interruptMoves (fun _ => true) (dropChannels s))
  refine (SameRecords.trans (sameRecords_of_eq ?_ ?_) h).trans (sameRecords_of_eq ?_ ?_)
  · simp
  · simp
  · simp [entryA, clearSequence]
  · simp [entryA, clearSequence]

theorem sameRecords_entryBReady (s : State) : SameRecords s (entryBReady s) := by
  have h := sameRecords_endTake .stopped (interruptMoves isBody (mapChannels s fun c r => if isBody c then stopChannel r
    else if isLens c && ((s.chan c).owner == .take) then releaseChannel r else r))
  refine (SameRecords.trans (sameRecords_of_eq ?_ ?_) h).trans (sameRecords_of_eq ?_ ?_)
  · simp
  · simp
  · simp [entryBReady]
  · simp [entryBReady]

theorem Noticed.records (h : Noticed u t) : SameRecords u t := by
  rcases h with rfl | rfl
  · exact .refl _
  · exact sameRecords_of_eq (by simp) (by simp)

theorem sameRecords_restFor (d : CauseDetail) (s : State) : SameRecords s (restFor d s) := by
  unfold restFor
  split
  · exact sameRecords_of_eq (by simp) (by simp)
  · exact .refl s

theorem sameRecords_rise (d : CauseDetail) (s : State) : SameRecords s (rise d s) := by
  have hl : SameRecords s (latchCause d s) := sameRecords_of_eq (by simp) (by simp)
  have hv := hl.trans (sameRecords_restFor d (latchCause d s))
  have hr := rise_risen d (s := s)
  generalize rise d s = t at hr
  cases hr with
  | ignored => exact .refl s
  | trips => exact hl.trans (sameRecords_entryA _)
  | stops => exact hv.trans (sameRecords_entryBReady _)
  | parks => exact hv.trans (sameRecords_of_eq (by simp [entryBArming, startParkingSlot]) (by simp [entryBArming, startParkingSlot]))
  | stays _ _ _ told => exact (hv.trans (sameRecords_of_eq (by simp) (by simp))).trans told.records
  | latched _ _ told => exact hv.trans told.records

theorem sameRecords_engine (s : State) : EngineKeeps (SameRecords s) where
  engine _ _ h _ _ := h.trans (sameRecords_of_eq rfl rfl)
  tells _ h := h.trans (sameRecords_of_eq rfl rfl)
  ends _ r h := h.trans (sameRecords_endTake r _)

theorem sameRecords_sample (s : State) : SampleKeeps (SameRecords s) where
  input _ h := h.trans (sameRecords_of_eq rfl rfl)
  stops _ _ h _ _ := h.trans (sameRecords_of_eq rfl rfl)
  channels _ h := h.trans (sameRecords_of_eq (by rw [clearInhibits_frame]) (by rw [clearInhibits_frame]))
  rises d _ h _ := h.trans (sameRecords_rise d _)

theorem sameRecords_handOver (i : Fin 4) (s : State) : SameRecords s (handOver i s) := by
  have hw : ∀ w, SameRecords s { s with wheels := w } := fun w => sameRecords_of_eq rfl rfl
  unfold handOver
  dsimp only
  split
  · exact hw _
  · split
    · exact hw _
    · split
      · exact hw _
      · exact (hw _).trans (sameRecords_grant ..)

theorem sameRecords_channelUpdate (s : State) : SameRecords s (channelUpdate s) := by
  have h1 : SameRecords s (handOverAll s) := (((sameRecords_handOver 0 s).trans (sameRecords_handOver 1 _)).trans
    (sameRecords_handOver 2 _)).trans (sameRecords_handOver 3 _)
  have h2 : SameRecords s (reachMoves (runProfiles (handOverAll s))) :=
    foldl_keeps (P := SameRecords s) allChans (h1.trans (sameRecords_of_eq rfl rfl)) fun u hu c _ => by
      split
      · exact hu.trans (sameRecords_of_eq (by simp) (by simp))
      · exact hu
  have h3 : SameRecords s (updated s) := h2.trans (sameRecords_of_eq rfl rfl)
  rw [channelUpdate_eq]
  rcases checkStandstill_cases (updated s) with he | ⟨_, _, he⟩
  · rw [he]; exact h3
  · rw [he]; exact h3.trans (sameRecords_of_eq (by simp) (by simp))

theorem sameRecords_slot (h : SlotStep s t) : SameRecords s t := by
  have hp : ∀ n, SameRecords s (parkedOff n s) := fun n => by
    unfold parkedOff
    dsimp only
    split <;> exact sameRecords_of_eq (by simp) (by simp)
  cases h with
  | none => exact .refl s
  | tick => exact sameRecords_of_eq rfl rfl
  | armFail => exact sameRecords_of_eq (by simp [startParkingSlot]) (by simp [startParkingSlot])
  | nextUp => exact sameRecords_of_eq rfl rfl
  | ready => exact sameRecords_of_eq (by simp [clearSequence]) (by simp [clearSequence])
  | nextDown n => exact (hp n).trans (sameRecords_of_eq rfl rfl)
  | parked n => exact (hp n).trans (sameRecords_of_eq (by simp [clearSequence]) (by simp [clearSequence]))

theorem sameRecords_lensUpdate (s : State) : SameRecords s (lensUpdate s) := by
  unfold lensUpdate trackUpdate
  split
  · exact sameRecords_of_eq rfl rfl
  · have h : SameRecords s (evaluateTracking (setTargets s (s.lens.targets.map ageTarget))) := by
      refine SameRecords.trans ?_ (evaluateTracking_store _).records
      exact sameRecords_of_eq rfl rfl
    dsimp only
    split
    · exact h.trans (sameRecords_of_eq rfl rfl)
    · exact h

theorem sameRecords_event (h : Event s t) : SameRecords s t := by
  cases h with
  | channelUpdate => exact sameRecords_channelUpdate s
  | driveExchange r =>
    exact driveExchange_keeps (P := SameRecords s) r (sameRecords_of_eq rfl rfl) fun c k u hu =>
      hu.trans (sameRecords_rise _ u)
  | slotEvent => exact sameRecords_slot (slotEvent_step s)
  | zoneEvaluation =>
    have he : SameRecords s (evaluated s) := sameRecords_of_eq rfl rfl
    exact zoneEvaluation_keeps he (fun n => he.trans (sameRecords_rise _ _)) fun d u hu =>
      hu.trans (sameRecords_of_eq (by simp) (by simp))
  | inputSample x => exact (sameRecords_sample s).inputSample x (.refl s)
  | frameEdge =>
    obtain ⟨f, n, hf⟩ := renewFrame_frame s
    have hr : SameRecords s (renewFrame s) := by rw [hf]; exact sameRecords_of_eq rfl rfl
    rcases frameEdge_cases s with he | ⟨hw, he⟩
    · rw [he]; exact hr
    · rw [he]; exact (sameRecords_engine s).startPlay hr (by rw [hf]; simp [hw])
  | presenceSample v => rw [presenceSample_frame]; exact sameRecords_of_eq rfl rfl
  | engineMillisecond => exact (sameRecords_engine s).engineMillisecond (.refl s)
  | lensUpdate => exact sameRecords_lensUpdate s
  | wheelEdge w up => exact sameRecords_of_eq rfl rfl
  | geometryUpdate => exact sameRecords_of_eq rfl rfl

/-! ### The requests that change them -/

/-- R108: the marks after references have moved. -/
theorem mem_moveReferences {added removed : List Cue} {marks : List Mark} {m : Mark} (h : m ∈ moveReferences added removed marks) :
    ∃ j ∈ marks, m = { j with refCount := j.refCount + countCues j.number added - countCues j.number removed } := by
  obtain ⟨j, hj, rfl⟩ := List.mem_map.1 h
  exact ⟨j, hj, rfl⟩

theorem moveReferences_numbers (added removed : List Cue) (marks : List Mark) :
    (moveReferences added removed marks).map (·.number) = marks.map (·.number) := map_key_map fun _ => rfl

theorem exists_number {marks other : List Mark} (h : other.map (·.number) = marks.map (·.number)) {n : Nat}
    (hm : ∃ m ∈ marks, m.number = n) : ∃ m ∈ other, m.number = n := by
  have : n ∈ other.map (·.number) := h ▸ List.mem_map.2 hm
  exact List.mem_map.1 this

/-- R108, R122: the cue list of one take is replaced. -/
theorem recordsAgree_setCues (h : RecordsAgree s) {k : Take} (hk : k ∈ s.takes) {cues added removed : List Cue}
    (count : ∀ n, countCues n cues + countCues n removed = countCues n k.cues + countCues n added)
    (marks : ∀ q ∈ cues, ∃ m ∈ s.marks, m.number = q.mark) (length : cues.length ≤ 64)
    (pool : cuesStored s.takes + cues.length ≤ 256 + k.cues.length) : RecordsAgree (setCues k cues added removed s) := by
  have hkey : ∀ u : Take, (if u.number = k.number then { u with cues := cues } else u).number = u.number := fun u => by
    split <;> rfl
  have hnum := moveReferences_numbers added removed s.marks
  have htake : ∀ u ∈ (setCues k cues added removed s).takes, (∃ v ∈ s.takes, v.number = u.number) ∧
      (u.cues = cues ∨ u ∈ s.takes) := fun u hu => by
    obtain ⟨v, hv, rfl⟩ := List.mem_map.1 hu
    refine ⟨⟨v, hv, (hkey v).symm⟩, ?_⟩
    split
    · exact .inl rfl
    · exact .inr hv
  refine ⟨?_, fun m hm => ?_, ?_, fun u hu => ?_, fun m hm => ?_, fun u hu q hq => ?_, fun u hu => ?_, ?_⟩
  · exact hnum ▸ h.markOrder
  · obtain ⟨j, hj, rfl⟩ := mem_moveReferences hm
    exact h.markNumbers j hj
  · show Ascending ((List.map _ _).map _)
    rw [map_key_map hkey]
    exact h.takeOrder
  · obtain ⟨⟨v, hv, he⟩, -⟩ := htake u hu
    exact he ▸ h.takeNumbers v hv
  · obtain ⟨j, hj, rfl⟩ := mem_moveReferences hm
    have hsum := sum_replace h.takeOrder hk (fun u => countCues j.number u.cues) fun u => { u with cues := cues }
    have hc := count j.number
    have hle := le_sum hk fun u => countCues j.number u.cues
    have hr := h.refCounts j hj
    unfold references at hr ⊢
    dsimp only [setCues] at hsum ⊢
    omega
  · refine exists_number hnum ?_
    rcases (htake u hu).2 with he | hu
    · exact marks q (he ▸ hq)
    · exact h.cuesNameMarks u hu q hq
  · rcases (htake u hu).2 with he | hu
    · rwa [he]
    · exact h.takeLengths u hu
  · have hsum := sum_replace h.takeOrder hk (fun u => u.cues.length) fun u => { u with cues := cues }
    have hp := h.poolSize
    unfold cuesStored at hp pool ⊢
    dsimp only [setCues] at hsum ⊢
    omega

theorem freeCues_pos (h : s.freeCues ≠ 0) : cuesStored s.takes < 256 := by
  unfold State.freeCues Config.poolCapacity at h
  omega

theorem findMark_exists {n : Nat} (h : s.findMark n ≠ none) : ∃ m ∈ s.marks, m.number = n := by
  obtain ⟨m, hm⟩ := Option.ne_none_iff_exists'.1 h
  exact ⟨m, findMark_some hm⟩

/-- R122, R130: a take is retired. -/
theorem recordsAgree_retire (h : RecordsAgree s) {k : Take} (hk : k ∈ s.takes) :
    RecordsAgree { s with takes := eraseKey (·.number) k.number s.takes, marks := moveReferences [] k.cues s.marks } := by
  have hnum := moveReferences_numbers [] k.cues s.marks
  have htake : ∀ u ∈ eraseKey (·.number) k.number s.takes, u ∈ s.takes := fun u hu => (mem_eraseKey.1 hu).1
  refine ⟨?_, fun m hm => ?_, ascending_eraseKey _ h.takeOrder, fun u hu => h.takeNumbers u (htake u hu), fun m hm => ?_,
    fun u hu q hq => exists_number hnum (h.cuesNameMarks u (htake u hu) q hq), fun u hu => h.takeLengths u (htake u hu), ?_⟩
  · exact hnum ▸ h.markOrder
  · obtain ⟨j, hj, rfl⟩ := mem_moveReferences hm
    exact h.markNumbers j hj
  · obtain ⟨j, hj, rfl⟩ := mem_moveReferences hm
    have hsum := sum_erase h.takeOrder hk fun u => countCues j.number u.cues
    have hr := h.refCounts j hj
    unfold references at hr ⊢
    simp only [countCues, List.filter_nil, List.length_nil] at hsum hr ⊢
    omega
  · have hsum := sum_erase h.takeOrder hk fun u => u.cues.length
    have hp := h.poolSize
    unfold cuesStored at hp ⊢
    dsimp only at hsum ⊢
    omega

/-- R108: no cue names a mark that does not exist, or whose reference count is 0. -/
theorem references_eq_zero {takes : List Take} {n : Nat} : references takes n = 0 ↔ ∀ k ∈ takes, ∀ q ∈ k.cues, q.mark ≠ n := by
  simp [references, List.sum_eq_zero_iff, countCues_eq_zero]

theorem RecordsAgree.unreferenced (h : RecordsAgree s) {n : Nat} (hn : s.findMark n = none) : references s.takes n = 0 :=
  references_eq_zero.2 fun k hk q hq he => by
    obtain ⟨m, hm, hmn⟩ := h.cuesNameMarks k hk q hq
    have := find_of_mem h.markOrder hm
    rw [hmn, he] at this
    exact absurd (hn.symm.trans this) nofun

theorem recordsAgree_markStore (h : RecordsAgree s) {n : Nat} (tag : BitVec 16) (values : List (Chan × Int)) (low : 1 ≤ n)
    (high : n ≤ 128) :
    RecordsAgree { s with marks := upsert (·.number) (storedMark (s.findMark n) n tag values) s.marks } := by
  have hmem := mem_upsert (key := Mark.number) h.markOrder (storedMark (s.findMark n) n tag values)
  refine ⟨ascending_upsert _ h.markOrder, fun m hm => ?_, h.takeOrder, h.takeNumbers, fun m hm => ?_, fun k hk q hq => ?_,
    h.takeLengths, h.poolSize⟩
  · rcases (hmem m).1 hm with rfl | ⟨hm, -⟩
    · exact ⟨low, high⟩
    · exact h.markNumbers m hm
  · rcases (hmem m).1 hm with rfl | ⟨hm, -⟩
    · show (((s.findMark n).map (·.refCount)).getD 0) = references s.takes n
      cases hf : s.findMark n with
      | none => exact (h.unreferenced hf).symm
      | some j =>
        obtain ⟨hj, hn⟩ := findMark_some hf
        exact hn ▸ h.refCounts j hj
    · exact h.refCounts m hm
  · obtain ⟨m, hm, he⟩ := h.cuesNameMarks k hk q hq
    by_cases hn : m.number = n
    · exact ⟨_, (hmem _).2 (.inl rfl), hn.symm.trans he⟩
    · exact ⟨m, (hmem m).2 (.inr ⟨hm, hn⟩), he⟩

theorem recordsAgree_takeCreate (h : RecordsAgree s) {n : Nat} (tag : BitVec 16) (low : 1 ≤ n) (high : n ≤ 16)
    (fresh : s.findTake n = none) : RecordsAgree { s with takes := upsert (·.number) (newTake n tag) s.takes } := by
  have hnew : ∀ u ∈ s.takes, u.number ≠ (newTake n tag).number := fun u hu he => by
    have := find_of_mem h.takeOrder hu
    rw [show u.number = n from he] at this
    exact absurd (fresh.symm.trans this) nofun
  have hmem := fun k => (mem_upsert (key := Take.number) h.takeOrder (newTake n tag) k).1
  refine ⟨h.markOrder, h.markNumbers, ascending_upsert _ h.takeOrder, fun k hk => ?_, fun m hm => ?_, fun k hk q hq => ?_,
    fun k hk => ?_, ?_⟩
  · rcases hmem k hk with rfl | ⟨hk, -⟩
    · exact ⟨low, high⟩
    · exact h.takeNumbers k hk
  · refine (h.refCounts m hm).trans ?_
    unfold references
    rw [sum_upsert _ hnew]
    rfl
  · rcases hmem k hk with rfl | ⟨hk, -⟩
    · cases hq
    · exact h.cuesNameMarks k hk q hq
  · rcases hmem k hk with rfl | ⟨hk, -⟩
    · exact Nat.zero_le _
    · exact h.takeLengths k hk
  · unfold cuesStored
    rw [sum_upsert _ hnew]
    exact h.poolSize

theorem sameRecords_raiseTracking (h : SameRecords s t) : SameRecords s (raiseTracking t) :=
  h.trans (sameRecords_of_eq rfl rfl)

theorem recordsAgree_taken {j : Instr} (h : RecordsAgree s) (ht : Taken j s t) : RecordsAgree t := by
  have same : ∀ {t}, SameRecords s t → RecordsAgree t := fun k => h.of_same k
  have eq : ∀ {t}, t.takes = s.takes → t.marks = s.marks → RecordsAgree t := fun h1 h2 => same (sameRecords_of_eq h1 h2)
  cases ht
  case markStore n tag values low high _ => exact recordsAgree_markStore h tag values low high
  case markRetire n m found _ unused =>
    obtain ⟨hm, rfl⟩ := findMark_some found
    have hmem : ∀ j ∈ eraseKey (·.number) m.number s.marks, j ∈ s.marks := fun j hj => (mem_eraseKey.1 hj).1
    refine ⟨ascending_eraseKey _ h.markOrder, fun j hj => h.markNumbers j (hmem j hj), h.takeOrder, h.takeNumbers,
      fun j hj => h.refCounts j (hmem j hj), fun k hk q hq => ?_, h.takeLengths, h.poolSize⟩
    obtain ⟨j, hj, he⟩ := h.cuesNameMarks k hk q hq
    refine ⟨j, mem_eraseKey.2 ⟨hj, fun hn => ?_⟩, he⟩
    exact references_eq_zero.1 ((h.refCounts m hm).symm.trans unused) k hk q hq (he.symm.trans hn)
  case takeCreate n tag low high fresh => exact recordsAgree_takeCreate h tag low high fresh
  case cueInsert n k pos q found _ place room pool mark =>
    obtain ⟨hk, -⟩ := findTake_some found
    have hp := freeCues_pos pool
    refine recordsAgree_setCues h hk (fun n => countCues_insert n pos _ _) (fun x hx => ?_) ?_ ?_
    · rcases mem_insertCue hx with rfl | hx
      · exact findMark_exists mark
      · exact h.cuesNameMarks k hk x hx
    · rw [length_insertCue]; omega
    · rw [length_insertCue]; omega
  case cueReplace n k pos q found _ place mark =>
    obtain ⟨hk, -⟩ := findTake_some found
    refine recordsAgree_setCues h hk (fun n => countCues_replace place.1 n _ _) (fun x hx => ?_) ?_ ?_
    · rcases mem_replaceCue hx with rfl | hx
      · exact findMark_exists mark
      · exact h.cuesNameMarks k hk x hx
    · rw [length_replaceCue place.1 place.2]
      exact h.takeLengths k hk
    · rw [length_replaceCue place.1 place.2]
      exact Nat.add_le_add_right h.poolSize _
  case cueDelete n k pos found _ place =>
    obtain ⟨hk, -⟩ := findTake_some found
    have hl := length_deleteCue place.1 place.2
    have hk64 := h.takeLengths k hk
    have hp := h.poolSize
    refine recordsAgree_setCues h hk (fun n => countCues_delete place.1 n _) (fun x hx => ?_) ?_ ?_
    · exact h.cuesNameMarks k hk x (mem_deleteCue hx)
    · omega
    · omega
  case takeRetire n k found _ =>
    obtain ⟨hk, rfl⟩ := findTake_some found
    exact recordsAgree_retire h hk
  case notice k => rw [serveNoticeTimer_frame]; exact eq rfl rfl
  case configSet => rw [actOnWrite_frame]; exact eq rfl rfl
  case arm => exact eq (by simp [startArmingSlot]) (by simp [startArmingSlot])
  case park => exact eq (by simp [startParkingSlot]) (by simp [startParkingSlot])
  case jog => exact same (sameRecords_grant ..)
  case goto mask targets _ _ _ => exact same (samePlay_gotoOpened mask targets s).records
  case release => exact eq (by simp) (by simp)
  case wheelAssign => rw [releaseWheelChannel_frame]; exact eq rfl rfl
  case stop o => exact same (sameRecords_rise _ s)
  case ackHalted => exact eq (by simp [clearLatches]) (by simp [clearLatches])
  case ackTripped => rw [setInhibits_frame]; exact eq (by simp [clearLatches]) (by simp [clearLatches])
  case ackParked => rw [setInhibits_frame]; exact eq (by simp [clearLatches]) (by simp [clearLatches])
  case takeArm n k found _ _ _ _ _ =>
    have hg := (samePlay_grantedTake (channelSet s k.cues) s).records
    have hl : SameRecords (grantedTake (channelSet s k.cues) s) (lockedTake k (channelSet s k.cues) s) := by
      constructor
      · exact List.map_map.trans (List.map_congr_left fun m _ => by dsimp only [Function.comp_apply]; split <;> rfl)
      · exact List.map_map.trans (List.map_congr_left fun m _ => by dsimp only [Function.comp_apply]; split <;> rfl)
    obtain ⟨e, he⟩ := startCue_frame (lockedTake k (channelSet s k.cues) s)
    rw [armTake_eq, he]
    exact same ((hg.trans hl).trans (sameRecords_of_eq rfl rfl))
  case play armed => exact same ((sameRecords_engine s).startPlay (.refl s) (by simp [armed]))
  case abort => exact same (sameRecords_endTake _ s)
  case mapSetSelected => exact eq (samePlay_applyChangedLimits s).takes (samePlay_applyChangedLimits s).marks
  case lensSelect b _ _ => exact same (samePlay_selectBank b s).records
  case trackOn n _ _ _ =>
    refine same (SameRecords.trans (sameRecords_grant .track .position none (some (s.chan .focus).setpoint) .focus s) ?_)
    refine sameRecords_raiseTracking (SameRecords.trans ?_ (evaluateTracking_store (setTracking _ _)).records)
    exact sameRecords_of_eq rfl rfl
  case trackOff => exact same (samePlay_trackOff s).records
  all_goals exact eq rfl rfl

theorem recordsAgree_effect {i : Instr} (h : RecordsAgree s) (he : Effect i s t) : RecordsAgree t := by
  have eq : ∀ {u v}, RecordsAgree u → v.takes = u.takes → v.marks = u.marks → RecordsAgree v :=
    fun h h1 h2 => h.of_same (sameRecords_of_eq h1 h2)
  cases he with
  | nothing => exact h
  | receiver => exact eq h rfl rfl
  | request j l receives =>
    exact request_keeps (fun _ _ h => eq h rfl rfl) (fun _ _ h => eq h rfl rfl) (fun _ _ _ h ht => recordsAgree_taken h ht)
      j l receives h
  | timers => exact eq h rfl rfl
  | expiry k n =>
    have ht : RecordsAgree { tickLinkTimers s with freeCount := n } := eq h rfl rfl
    rcases expireLink_cases k { tickLinkTimers s with freeCount := n } _ rfl with ⟨_, he⟩ | ⟨_, he⟩
    · rw [he]; exact eq ht rfl rfl
    · rw [he]
      refine RecordsAgree.of_same ?_ (sameRecords_rise _ _)
      exact eq ht rfl rfl
  | event _ _ event => exact h.of_same (sameRecords_event event)
  | held => exact eq h rfl rfl
  | backup => exact eq h rfl rfl
  | reset warm cause straps p =>
    unfold performReset
    split
    · refine h.of_same ⟨?_, ?_⟩
      · exact List.map_map
      · exact List.map_map
    · exact eq recordsAgree_reset rfl rfl

/-! ## Zones and targets -/

/-- Zones and targets have the same numbers. -/
structure SameTables (s t : State) : Prop where
  zones : t.zoneMonitor.zones.map (·.number) = s.zoneMonitor.zones.map (·.number)
  targets : t.lens.targets.map (·.number) = s.lens.targets.map (·.number)

theorem SameTables.refl (s : State) : SameTables s s := ⟨rfl, rfl⟩

theorem SameTables.trans (h : SameTables s t) (k : SameTables t u) : SameTables s u :=
  ⟨k.zones.trans h.zones, k.targets.trans h.targets⟩

theorem sameTables_of_eq (zones : t.zoneMonitor = s.zoneMonitor) (targets : t.lens.targets = s.lens.targets) :
    SameTables s t := ⟨by rw [zones], by rw [targets]⟩

theorem SameBody.tables (h : SameBody s t) (targets : t.lens.targets = s.lens.targets) : SameTables s t :=
  sameTables_of_eq h.zoneMonitor targets

/-- A record of one table has its counterpart in a table of the same numbers. -/
theorem exists_mem_of_numbers {α : Type} {key : α → Nat} {xs ys : List α} (h : ys.map key = xs.map key) {y : α}
    (hy : y ∈ ys) : ∃ x ∈ xs, key x = key y := List.mem_map.1 (h ▸ List.mem_map_of_mem hy)

theorem TablesAgree.of_same (h : TablesAgree s) (same : SameTables s t) : TablesAgree t := by
  obtain ⟨hz, ht⟩ := same
  refine ⟨hz ▸ h.zoneOrder, fun z hm => ?_, ht ▸ h.targetOrder, fun g hm => ?_⟩
  · obtain ⟨y, hy, he⟩ := exists_mem_of_numbers hz hm
    exact he ▸ h.zoneNumbers y hy
  · obtain ⟨y, hy, he⟩ := exists_mem_of_numbers ht hm
    exact he ▸ h.targetNumbers y hy

theorem grant_targets (p : Party) (m : Mode) (d x : Option Int) (c : Chan) (s : State) :
    (grant p m d x c s).lens.targets = s.lens.targets := reportLoss_targets ..

theorem sameTables_rise (d : CauseDetail) (s : State) : SameTables s (rise d s) :=
  sameTables_of_eq (zoneMonitor_of_settled (rise_settled s d)) (rise_targets s d)

theorem sameTables_endTake (r : TakeResult) (s : State) : SameTables s (endTake r s) :=
  (sameBody_endTake s r).tables (by simp)

theorem sameTables_engine (s : State) : EngineKeeps (SameTables s) where
  engine _ _ h _ _ := h.trans (sameTables_of_eq rfl rfl)
  tells _ h := h.trans (sameTables_of_eq rfl rfl)
  ends _ r h := h.trans (sameTables_endTake r _)

theorem sameTables_sample (s : State) : SampleKeeps (SameTables s) where
  input _ h := h.trans (sameTables_of_eq rfl rfl)
  stops _ _ h _ _ := h.trans (sameTables_of_eq rfl rfl)
  channels _ h := h.trans (sameTables_of_eq (by rw [clearInhibits_frame]) (by rw [clearInhibits_frame]))
  rises d _ h _ := h.trans (sameTables_rise d _)

theorem handOver_targets (i : Fin 4) (s : State) : (handOver i s).lens.targets = s.lens.targets := by
  unfold handOver
  dsimp only
  split
  · rfl
  · split
    · rfl
    · split
      · rfl
      · exact grant_targets ..

theorem sameTables_channelUpdate (s : State) : SameTables s (channelUpdate s) := by
  have h1 : (handOverAll s).lens.targets = s.lens.targets := (((handOver_targets 3 _).trans (handOver_targets 2 _)).trans
    (handOver_targets 1 _)).trans (handOver_targets 0 s)
  have h2 : (reachMoves (runProfiles (handOverAll s))).lens.targets = s.lens.targets :=
    foldl_keeps (P := fun u => u.lens.targets = s.lens.targets) allChans h1 fun u hu c _ => by
      split
      · simpa using hu
      · exact hu
  have h3 : SameTables s (updated s) := sameTables_of_eq (updated_body s).zoneMonitor h2
  rw [channelUpdate_eq]
  rcases checkStandstill_cases (updated s) with he | ⟨_, _, he⟩
  · rw [he]; exact h3
  · rw [he]
    refine h3.trans (sameTables_of_eq ?_ (by simp))
    exact (zoneMonitor_of_settled (enterCrane_settled _ _ _))

theorem enterCrane_zoneMonitor (st : CraneState) (x : StateExtra) (s : State) :
    (enterCrane st x s).zoneMonitor = s.zoneMonitor := (zoneMonitor_of_settled (enterCrane_settled s st x))

theorem sameTables_slot (h : SlotStep s t) : SameTables s t := by
  have hp : ∀ n, SameTables s (parkedOff n s) := fun n => (parkedOff_body n s).tables (by
    unfold parkedOff
    dsimp only
    split <;> simp)
  have enter : ∀ {u} st x, SameTables s u → SameTables s (enterCrane st x u) := fun st x h =>
    h.trans (sameTables_of_eq (enterCrane_zoneMonitor st x _) (by simp))
  cases h with
  | none => exact .refl s
  | tick => exact sameTables_of_eq rfl rfl
  | armFail => exact enter _ _ (sameTables_of_eq rfl rfl)
  | nextUp => exact sameTables_of_eq rfl rfl
  | ready => exact enter _ _ (sameTables_of_eq rfl rfl)
  | nextDown n => exact (hp n).trans (sameTables_of_eq rfl rfl)
  | parked n => exact enter _ _ ((hp n).trans (sameTables_of_eq rfl rfl))

theorem sameTables_evaluateTracking (s : State) : SameTables s (evaluateTracking s) := by
  obtain ⟨k, hl, -, -⟩ := evaluateTracking_lens s
  exact (sameBody_evaluateTracking s).tables (by rw [hl])

theorem sameTables_lensUpdate (s : State) : SameTables s (lensUpdate s) := by
  have h1 : SameTables s (setTargets s (s.lens.targets.map ageTarget)) := ⟨rfl, map_key_map fun _ => rfl⟩
  unfold lensUpdate trackUpdate
  split
  · exact h1
  · have h := h1.trans (sameTables_evaluateTracking _)
    dsimp only
    split
    · exact h.trans (sameTables_of_eq rfl rfl)
    · exact h

/-- R72: an evaluation writes the derived fields of the zones. -/
theorem sameTables_evaluated (s : State) : SameTables s (evaluated s) := by
  refine ⟨?_, rfl⟩
  exact (map_key_map (f := contribute s (evaluatedRetreat s)) fun _ => rfl).trans (map_key_map (f := measureZone s) fun _ => rfl)

theorem sameTables_event (h : Event s t) : SameTables s t := by
  cases h with
  | channelUpdate => exact sameTables_channelUpdate s
  | driveExchange r =>
    exact driveExchange_keeps (P := SameTables s) r (sameTables_of_eq rfl rfl) fun c k u hu => hu.trans (sameTables_rise _ u)
  | slotEvent => exact sameTables_slot (slotEvent_step s)
  | zoneEvaluation =>
    have he := sameTables_evaluated s
    exact zoneEvaluation_keeps he (fun n => he.trans (sameTables_rise _ _)) fun d u hu =>
      hu.trans (sameTables_of_eq (zoneMonitor_of_settled (raiseZone_settled u d)) (by simp))
  | inputSample x => exact (sameTables_sample s).inputSample x (.refl s)
  | frameEdge =>
    obtain ⟨f, n, hf⟩ := renewFrame_frame s
    have hr : SameTables s (renewFrame s) := by rw [hf]; exact sameTables_of_eq rfl rfl
    rcases frameEdge_cases s with he | ⟨hw, he⟩
    · rw [he]; exact hr
    · rw [he]; exact (sameTables_engine s).startPlay hr (by rw [hf]; simp [hw])
  | presenceSample v => rw [presenceSample_frame]; exact sameTables_of_eq rfl rfl
  | engineMillisecond => exact (sameTables_engine s).engineMillisecond (.refl s)
  | lensUpdate => exact sameTables_lensUpdate s
  | wheelEdge w up => exact sameTables_of_eq rfl rfl
  | geometryUpdate => exact sameTables_of_eq rfl rfl

/-- R66, R68: a zone stored. -/
theorem tablesAgree_zoneSet (h : TablesAgree s) {z : ZoneOperands} (valid : zoneOperandsValid z = true) :
    TablesAgree { s with zoneMonitor := { s.zoneMonitor with
      zones := upsert (·.number) (zoneRecord (s.findZone z.number.toNat) z) s.zoneMonitor.zones } } := by
  refine ⟨ascending_upsert _ h.zoneOrder, fun x hx => ?_, h.targetOrder, h.targetNumbers⟩
  rcases (mem_upsert (key := Zone.number) h.zoneOrder _ x).1 hx with rfl | ⟨hx, -⟩
  · simp only [zoneOperandsValid, Bool.and_eq_true, and_assoc] at valid
    exact natRange_iff.1 valid.1
  · exact h.zoneNumbers x hx

theorem sameTables_raiseTracking (h : SameTables s t) : SameTables s (raiseTracking t) :=
  h.trans (sameTables_of_eq rfl rfl)

theorem tablesAgree_taken {j : Instr} (h : TablesAgree s) (ht : Taken j s t) : TablesAgree t := by
  have same : ∀ {t}, SameTables s t → TablesAgree t := fun k => h.of_same k
  have eq : ∀ {t}, t.zoneMonitor = s.zoneMonitor → t.lens.targets = s.lens.targets → TablesAgree t :=
    fun h1 h2 => same (sameTables_of_eq h1 h2)
  cases ht
  case zoneSet z valid => exact tablesAgree_zoneSet h valid
  case zoneRetire n =>
    exact ⟨ascending_eraseKey n h.zoneOrder, fun z hz => h.zoneNumbers z (mem_eraseKey.1 hz).1, h.targetOrder,
      h.targetNumbers⟩
  case targetSet g low high =>
    refine ⟨h.zoneOrder, h.zoneNumbers, ascending_upsert _ h.targetOrder, fun x hx => ?_⟩
    rcases (mem_upsert (key := Target.number) h.targetOrder g x).1 hx with rfl | ⟨hx, -⟩
    · exact ⟨low, high⟩
    · exact h.targetNumbers x hx
  case targetRetire n _ =>
    exact ⟨h.zoneOrder, h.zoneNumbers, ascending_eraseKey n h.targetOrder,
      fun g hg => h.targetNumbers g (mem_eraseKey.1 hg).1⟩
  case notice k => rw [serveNoticeTimer_frame]; exact eq rfl rfl
  case configSet => rw [actOnWrite_frame]; exact eq rfl rfl
  case arm => exact eq (enterCrane_zoneMonitor ..) (by simp [startArmingSlot])
  case park => exact eq (enterCrane_zoneMonitor ..) (by simp [startParkingSlot])
  case jog => exact same ((sameBody_grant ..).tables (grant_targets ..))
  case goto mask targets _ _ _ =>
    refine same ((sameBody_gotoOpened s mask targets).tables ?_)
    exact foldl_keeps (P := fun u => u.lens.targets = s.lens.targets) targets
      (f := fun t p => grant .console .position none (some (clampInt (s.lo p.1) (s.hi p.1) p.2)) p.1 t)
      (s := interruptMoves (fun c => (targets.map (·.1)).contains c) s) (by simp)
      fun u hu p _ => (grant_targets ..).trans hu
  case release => exact eq (zoneMonitor_of_settled (interruptMoves_settled _ _)) (by simp)
  case wheelAssign => rw [releaseWheelChannel_frame]; exact eq rfl rfl
  case stop o => exact same (sameTables_rise _ s)
  case ackHalted => exact eq (enterCrane_zoneMonitor ..) (by simp [clearLatches])
  case ackTripped => rw [setInhibits_frame]; exact eq (enterCrane_zoneMonitor ..) (by simp [clearLatches])
  case ackParked =>
    rw [setInhibits_frame]
    exact eq (zoneMonitor_of_settled (raiseState_settled _ _)) (by simp [clearLatches])
  case takeArm n k _ _ _ _ _ _ =>
    refine same ((sameBody_armTake s k (channelSet s k.cues)).tables ?_)
    obtain ⟨e, he⟩ := startCue_frame (lockedTake k (channelSet s k.cues) s)
    rw [armTake_eq, he]
    exact foldl_keeps (P := fun u => u.lens.targets = s.lens.targets) (setChans (channelSet s k.cues))
      (f := fun s c => grant .take .path none none c s)
      (s := interruptMoves (fun c => (channelSet s k.cues).get c && ((s.chan c).owner == .console)) s)
      (by simp) fun u hu p _ => (grant_targets ..).trans hu
  case play armed => exact same ((sameTables_engine s).startPlay (.refl s) (by simp [armed]))
  case abort => exact same (sameTables_endTake _ s)
  case mapSetSelected =>
    exact eq (sameBody_applyChangedLimits _ s).zoneMonitor (by rw [applyChangedLimits_lens]; rfl)
  case lensSelect b _ _ => exact same ((sameBody_selectBank s b).tables rfl)
  case trackOn n _ _ _ =>
    refine same (SameTables.trans (t := grant .track .position none (some (s.chan .focus).setpoint) .focus s)
      ((sameBody_grant ..).tables (grant_targets ..)) ?_)
    refine sameTables_raiseTracking (SameTables.trans ?_ (sameTables_evaluateTracking (setTracking _ _)))
    exact sameTables_of_eq rfl rfl
  case trackOff => exact same ((sameBody_trackOff s).tables (by simp [releaseTracked_lens]))
  all_goals exact eq rfl rfl

theorem tablesAgree_effect {i : Instr} (h : TablesAgree s) (he : Effect i s t) : TablesAgree t := by
  have eq : ∀ {u v}, TablesAgree u → v.zoneMonitor = u.zoneMonitor → v.lens = u.lens → TablesAgree v :=
    fun h h1 h2 => h.of_same (sameTables_of_eq h1 (by rw [h2]))
  cases he with
  | nothing => exact h
  | receiver => exact eq h rfl rfl
  | request j l receives =>
    exact request_keeps (fun _ _ h => eq h rfl rfl) (fun _ _ h => eq h rfl rfl) (fun _ _ _ h ht => tablesAgree_taken h ht)
      j l receives h
  | timers => exact eq h rfl rfl
  | expiry k n =>
    have ht : TablesAgree { tickLinkTimers s with freeCount := n } := eq h rfl rfl
    rcases expireLink_cases k { tickLinkTimers s with freeCount := n } _ rfl with ⟨_, he⟩ | ⟨_, he⟩
    · rw [he]; exact eq ht rfl rfl
    · rw [he]
      refine TablesAgree.of_same ?_ (sameTables_rise _ _)
      exact eq ht rfl rfl
  | event _ _ event => exact h.of_same (sameTables_event event)
  | held => exact eq h rfl rfl
  | backup => exact eq h rfl rfl
  | reset warm cause straps p =>
    unfold performReset
    split
    · exact h.of_same ⟨map_key_map fun _ => rfl, map_key_map fun _ => rfl⟩
    · exact eq tablesAgree_reset rfl rfl

/-- Settles O4: the records by what each command makes of numbers, cues and reference counts, the tables by what it makes of
their numbers. -/
theorem stepsKeepTheRecords : Obligations.StepsKeepTheRecords := by
  constructor
  · intro s t h ht
    obtain rfl | ⟨i, q, he⟩ := step_cases ht
    · exact h
    · exact recordsAgree_effect (s := { s with pending := q }) (h.of_same (sameRecords_of_eq rfl rfl)) (exec_effect he)
  · intro s t h ht
    obtain rfl | ⟨i, q, he⟩ := step_cases ht
    · exact h
    · exact tablesAgree_effect (s := { s with pending := q }) (h.of_same (sameTables_of_eq rfl rfl)) (exec_effect he)

end Records

end Sys2Proof.Machine

/-! The link: what every event and every request makes of the notice timer (R183), which commands answer (R178), and the
statements about accepted, refused and ignored frames and about the supervision timers. -/

namespace Sys2Proof.Machine

/-! ## The notice timer through operations -/

/-- From `s` to `u` the link is as it was, but that a raise of STATE or ZONE that finds neither pending starts the notice timer
while the timers are armed and LINK is absent (R183). -/
structure TimerStarts (s u : State) : Prop where
  starts : startsTimer s u → armed s.link = true → s.stops.conditions.link = none →
    u.link = { s.link with noticeTimer := .running 0 s.config.supervisionPeriod }
  stays : ¬(startsTimer s u ∧ armed s.link = true ∧ s.stops.conditions.link = none) → u.link = s.link

/-- `TimerStarts`, and what the start depends on is as it was; a pending source stays pending. -/
structure Timed (s u : State) : Prop extends TimerStarts s u where
  mode : u.config.supervisionMode = s.config.supervisionMode
  period : u.config.supervisionPeriod = s.config.supervisionPeriod
  condition : u.stops.conditions.link = s.stops.conditions.link
  watched : watchedPending s.notices = true → watchedPending u.notices = true

/-- STATE and ZONE are as they were. -/
structure SameWatch (s u : State) : Prop where
  state : u.notices.state = s.notices.state
  zone : u.notices.zone = s.notices.zone

section Timer

variable {s t u v : State}

theorem SameWatch.refl (s : State) : SameWatch s s := ⟨rfl, rfl⟩
theorem SameWatch.trans (h : SameWatch s u) (k : SameWatch u v) : SameWatch s v :=
  ⟨k.state.trans h.state, k.zone.trans h.zone⟩
theorem sameWatch_of_notices (h : u.notices = s.notices) : SameWatch s u := ⟨by rw [h], by rw [h]⟩

theorem SameWatch.pending (h : SameWatch s u) : watchedPending u.notices = watchedPending s.notices := by
  simp only [watchedPending, h.state, h.zone]

/-- Where neither source is raised the link must be as it was. -/
theorem SameWatch.timerStarts (h : SameWatch s u) (link : u.link = s.link) : TimerStarts s u := by
  refine ⟨fun hs => ?_, fun _ => link⟩
  obtain ⟨-, h0, h1⟩ := hs
  rw [h.pending, h0] at h1
  cases h1

theorem SameWatch.timed (h : SameWatch s u) (config : u.config = s.config) (link : u.link = s.link)
    (condition : u.stops.conditions.link = s.stops.conditions.link) : Timed s u :=
  ⟨h.timerStarts link, by rw [config], by rw [config], condition, fun hw => h.pending.trans hw⟩

theorem SameBody.timed (h : SameBody s u) (w : SameWatch s u) : Timed s u := w.timed h.config h.link (by rw [h.stops])

theorem timed_of_eq (notices : u.notices = s.notices) (config : u.config = s.config) (link : u.link = s.link)
    (condition : u.stops.conditions.link = s.stops.conditions.link) : Timed s u :=
  (sameWatch_of_notices notices).timed config link condition

theorem Timed.refl (s : State) : Timed s s := timed_of_eq rfl rfl rfl rfl

/-- A start in the first part finds a source pending in the second, and so is the only one. -/
theorem Timed.then (h : Timed s u) (k : TimerStarts u v) (watched : watchedPending u.notices = true → watchedPending v.notices = true) :
    TimerStarts s v := by
  have hk : watchedPending u.notices = true → v.link = u.link := fun hu => k.stays fun ⟨hs, _⟩ => by
    rw [hs.2.1] at hu
    cases hu
  constructor
  · rintro ⟨hm, h0, h1⟩ ha hc
    by_cases hu : watchedPending u.notices = true
    · rw [hk hu, h.starts ⟨hm, h0, hu⟩ ha hc]
    · have hl : u.link = s.link := h.stays fun ⟨hs, _⟩ => hu hs.2.2
      rw [k.starts ⟨h.mode.trans hm, by simpa using hu, h1⟩ (by rwa [hl]) (h.condition.trans hc), hl, h.period]
  · intro hn
    by_cases hu : watchedPending u.notices = true
    · rw [hk hu]
      exact h.stays fun ⟨hs, hr⟩ => hn ⟨⟨hs.1, hs.2.1, watched hu⟩, hr⟩
    · have hl : u.link = s.link := h.stays fun ⟨hs, _⟩ => hu hs.2.2
      have hs0 : watchedPending s.notices = false := by
        by_contra h1
        exact hu (h.watched (by simpa using h1))
      rw [← hl]
      refine k.stays fun ⟨hs, ha, hc⟩ => hn ⟨⟨h.mode ▸ hs.1, hs0, hs.2.2⟩, by rwa [hl] at ha, h.condition ▸ hc⟩

theorem Timed.trans (h : Timed s u) (k : Timed u v) : Timed s v :=
  ⟨h.then k.toTimerStarts k.watched, k.mode.trans h.mode, k.period.trans h.period, k.condition.trans h.condition,
    fun hw => k.watched (h.watched hw)⟩

/-- R183: a raise of STATE or ZONE. -/
theorem timed_raised (hn : watchedPending u.notices = true) (config : u.config = s.config)
    (link : u.link = (startNoticeTimer s).link) (condition : u.stops.conditions.link = s.stops.conditions.link) : Timed s u := by
  rw [startNoticeTimer_link] at link
  refine ⟨⟨fun hs ha hc => ?_, fun h => ?_⟩, by rw [config], by rw [config], condition, fun _ => hn⟩
  · rw [link, if_pos ⟨hs.1, ha, hs.2.1, hc⟩]
  · rw [link, if_neg fun ⟨hm, ha, h0, hc⟩ => h ⟨⟨hm, h0, hn⟩, ha, hc⟩]

theorem timed_raiseState (d : StateDetail) (s : State) : Timed s (raiseState d s) := by
  refine timed_raised ?_ ?_ rfl (by simp)
  · rw [raiseState_notices]; rfl
  · exact (settled_eq_iff.1 (raiseState_settled s d)).1

theorem timed_raiseZone (d : ZoneDetail) (s : State) : Timed s (raiseZone d s) := by
  refine timed_raised ?_ (settled_eq_iff.1 (raiseZone_settled s d)).1 rfl (by simp)
  show (_ || (some d).isSome) = true
  simp

theorem timed_enterCrane (st : CraneState) (x : StateExtra) (s : State) : Timed s (enterCrane st x s) := by
  unfold enterCrane
  refine Timed.trans ?_ (timed_raiseState _ _)
  split <;> exact timed_of_eq rfl rfl rfl rfl

/-! ### Operations that leave STATE and ZONE alone -/

theorem sameWatch_interruptMoves (hit : Chan → Bool) (s : State) : SameWatch s (interruptMoves hit s) := by
  obtain ⟨-, h1, h2, -⟩ := interruptMoves_sources s hit
  exact ⟨h1, h2⟩

theorem sameWatch_trackingOff (s : State) : SameWatch s (trackingOff s) := by
  unfold trackingOff
  split
  · exact .refl s
  · exact ⟨rfl, rfl⟩

theorem sameWatch_endTake (r : TakeResult) (s : State) : SameWatch s (endTake r s) := by
  unfold endTake
  split
  · exact .refl s
  · exact ⟨rfl, rfl⟩

theorem sameWatch_overtake (c : Chan) (s : State) : SameWatch s (overtake c s) := by
  rw [overtake_eq]
  split
  · refine SameWatch.trans ?_ (sameWatch_endTake _ _)
    exact ⟨rfl, rfl⟩
  · exact ⟨rfl, rfl⟩

theorem sameWatch_grant (p : Party) (m : Mode) (d x : Option Int) (c : Chan) (s : State) :
    SameWatch s (grant p m d x c s) := by
  have hs : SameWatch s (s.setChan c (grantRecord p m d x (s.chan c))) := ⟨rfl, rfl⟩
  unfold grant reportLoss
  split
  · exact hs.trans (sameWatch_interruptMoves _ _)
  · split
    · exact hs.trans (sameWatch_overtake _ _)
    · exact hs
  · split
    · exact hs
    · exact hs.trans (sameWatch_trackingOff _)
  · exact hs
  · exact hs

theorem sameWatch_reachMove (c : Chan) (s : State) : SameWatch s (reachMove c s) :=
  foldl_keeps (P := SameWatch s) _ ⟨rfl, rfl⟩ fun _ h _ _ => h.trans ⟨rfl, rfl⟩

theorem sameWatch_restFor (d : CauseDetail) (s : State) : SameWatch s (restFor d s) := by
  unfold restFor
  split
  · rw [restLens_eq]
    refine SameWatch.trans ?_ (sameWatch_interruptMoves _ _)
    exact ⟨rfl, rfl⟩
  · exact .refl s

theorem sameWatch_stopLiveHead (s : State) : SameWatch s (stopLiveHead s) := by
  unfold stopLiveHead
  refine SameWatch.trans ?_ (sameWatch_interruptMoves _ _)
  exact ⟨rfl, rfl⟩

theorem sameWatch_engine (s : State) : EngineKeeps (SameWatch s) where
  engine _ _ h _ _ := h.trans ⟨rfl, rfl⟩
  tells _ h := h.trans ⟨rfl, rfl⟩
  ends _ r h := h.trans (sameWatch_endTake r _)

theorem sameWatch_releaseOwner (c : Chan) (s : State) : SameWatch s (releaseOwner c s) := by
  unfold releaseOwner
  refine SameWatch.trans ?_ (sameWatch_interruptMoves _ _)
  exact ⟨rfl, rfl⟩

theorem sameWatch_releaseTracked (s : State) : SameWatch s (releaseTracked s) := by
  unfold releaseTracked
  split
  · exact sameWatch_releaseOwner _ s
  · exact .refl s

theorem sameWatch_handOver (i : Fin 4) (s : State) : SameWatch s (handOver i s) := by
  unfold handOver
  dsimp only
  split
  · exact ⟨rfl, rfl⟩
  · split
    · exact ⟨rfl, rfl⟩
    · split
      · exact ⟨rfl, rfl⟩
      · refine SameWatch.trans ?_ (sameWatch_grant ..)
        exact ⟨rfl, rfl⟩

theorem sameWatch_updated (s : State) : SameWatch s (updated s) := by
  have h1 : SameWatch s (handOverAll s) := (((sameWatch_handOver 0 s).trans (sameWatch_handOver 1 _)).trans
    (sameWatch_handOver 2 _)).trans (sameWatch_handOver 3 _)
  have h2 : SameWatch s (reachMoves (runProfiles (handOverAll s))) :=
    foldl_keeps (P := SameWatch s) allChans (h1.trans ⟨rfl, rfl⟩) fun u hu c _ => by
      split
      · exact hu.trans (sameWatch_reachMove c u)
      · exact hu
  exact h2.trans ⟨rfl, rfl⟩

theorem sameWatch_parkedOff (n : Nat) (s : State) : SameWatch s (parkedOff n s) := by
  have h : SameWatch s (interruptMoves (parksOff s n)
      (mapChannels s fun c r => if parksOff s n c then { commandOff r with owner := .none } else r)) := by
    refine SameWatch.trans ?_ (sameWatch_interruptMoves _ _)
    exact ⟨rfl, rfl⟩
  unfold parkedOff
  dsimp only
  split
  · exact h.trans (sameWatch_trackingOff _)
  · exact h

/-! ### Rises and events -/

@[simp] theorem latchCause_conditions (d : CauseDetail) (s : State) :
    (latchCause d s).stops.conditions = s.stops.conditions := by
  unfold latchCause; split <;> rfl

theorem timed_latchCause (d : CauseDetail) (s : State) : Timed s (latchCause d s) :=
  timed_of_eq (by simp) (settled_eq_iff.1 (latchCause_settled s d)).1 (by simp) (by simp)

/-- Channels changed, and open moves ended. -/
theorem timed_interrupted (hit : Chan → Bool) (f : Chan → Channel → Channel) (s : State) :
    Timed s (interruptMoves hit (mapChannels s f)) := by
  refine SameBody.timed ((sameBody_mapChannels s _).trans (sameBody_interruptMoves _ _)) ?_
  refine SameWatch.trans ?_ (sameWatch_interruptMoves _ _)
  exact ⟨rfl, rfl⟩

theorem timed_endTake (r : TakeResult) (s : State) : Timed s (endTake r s) :=
  (sameBody_endTake s r).timed (sameWatch_endTake r s)

theorem timed_entryA (s : State) : Timed s (entryA s) := by
  have h2 : Timed s (endTake .stopped (interruptMoves (fun _ => true) (dropChannels s))) :=
    (timed_interrupted _ _ s).trans (timed_endTake _ _)
  have h3 := h2.trans ((sameBody_trackingOff _).timed (sameWatch_trackingOff _))
  unfold entryA
  refine Timed.trans (h3.trans ?_) (timed_enterCrane _ _ _)
  exact timed_of_eq rfl rfl rfl rfl

theorem timed_entryBReady (s : State) : Timed s (entryBReady s) := by
  have h : ∀ f, Timed s (endTake .stopped (interruptMoves isBody (mapChannels s f))) := fun f =>
    (timed_interrupted isBody f s).trans (timed_endTake _ _)
  unfold entryBReady
  refine Timed.trans ?_ (timed_enterCrane _ _ _)
  exact (h _).trans (timed_of_eq rfl rfl rfl rfl)

theorem sameBody_stopLiveHead (s : State) : SameBody s (stopLiveHead s) :=
  (sameBody_mapChannels s _).trans (sameBody_interruptMoves _ _)

theorem sameBody_restFor (d : CauseDetail) (s : State) : SameBody s (restFor d s) := by
  unfold restFor
  split
  · exact (sameBody_mapChannels s _).trans (sameBody_interruptMoves _ _)
  · exact .refl s

theorem timed_stopLiveHead (s : State) : Timed s (stopLiveHead s) :=
  (sameBody_stopLiveHead s).timed (sameWatch_stopLiveHead s)

theorem timed_entryBArming (s : State) : Timed s (entryBArming s) := by
  unfold entryBArming
  refine Timed.trans ((timed_stopLiveHead s).trans ?_) (timed_enterCrane _ _ _)
  exact timed_of_eq rfl rfl rfl rfl

theorem Noticed.timed (h : Noticed u t) : Timed u t := by
  rcases h with rfl | rfl
  · exact .refl _
  · exact timed_raiseState _ _

theorem timed_rise (d : CauseDetail) (s : State) : Timed s (rise d s) := by
  have hl := timed_latchCause d s
  have hv : Timed s (restFor d (latchCause d s)) :=
    hl.trans ((sameBody_restFor d _).timed (sameWatch_restFor d _))
  have hr := rise_risen d (s := s)
  generalize rise d s = t at hr
  cases hr with
  | ignored => exact .refl s
  | trips => exact hl.trans (timed_entryA _)
  | stops => exact hv.trans (timed_entryBReady _)
  | parks => exact hv.trans (timed_entryBArming _)
  | stays _ _ _ told => exact (hv.trans (timed_stopLiveHead _)).trans told.timed
  | latched _ _ told => exact hv.trans told.timed

theorem timed_slot (h : SlotStep s t) : Timed s t := by
  have hp : ∀ n, Timed s (parkedOff n s) := fun n => (parkedOff_body n s).timed (sameWatch_parkedOff n s)
  cases h with
  | none => exact .refl s
  | tick => exact timed_of_eq rfl rfl rfl rfl
  | armFail =>
    refine Timed.trans ?_ (timed_enterCrane _ _ _)
    exact timed_of_eq rfl rfl rfl rfl
  | nextUp => exact timed_of_eq rfl rfl rfl rfl
  | ready =>
    refine Timed.trans ?_ (timed_enterCrane _ _ _)
    exact timed_of_eq rfl rfl rfl rfl
  | nextDown n => exact (hp n).trans (timed_of_eq rfl rfl rfl rfl)
  | parked n =>
    refine Timed.trans ((hp n).trans ?_) (timed_enterCrane _ _ _)
    exact timed_of_eq rfl rfl rfl rfl

theorem timed_sample (s : State) : SampleKeeps (Timed s) where
  input _ h := h.trans (SameWatch.timed ⟨rfl, rfl⟩ rfl rfl rfl)
  stops _ _ h hr _ := h.trans (timed_of_eq rfl rfl rfl hr.link)
  channels _ h := h.trans (timed_of_eq (by rw [clearInhibits_frame]) (by rw [clearInhibits_frame])
    (by rw [clearInhibits_frame]) (by rw [clearInhibits_frame]))
  rises d u h _ := h.trans (timed_rise d u)

theorem sameWatch_presenceSample (v : BitVec 12) (s : State) : SameWatch s (presenceSample v s) :=
  foldl_keeps (P := SameWatch s) _ (.refl s) fun u hu i _ => by
    refine hu.trans ?_
    unfold samplePresenceLine
    dsimp only
    split
    · exact ⟨rfl, rfl⟩
    · exact ⟨rfl, rfl⟩

theorem sameWatch_evaluateTracking (s : State) : SameWatch s (evaluateTracking s) :=
  sameWatch_of_notices (evaluateTracking_notices s)

theorem sameWatch_lensUpdate (s : State) : SameWatch s (lensUpdate s) := by
  unfold lensUpdate trackUpdate
  split
  · exact ⟨rfl, rfl⟩
  · have h : SameWatch s (evaluateTracking (setTargets s (s.lens.targets.map ageTarget))) := by
      refine SameWatch.trans ?_ (sameWatch_evaluateTracking _)
      exact ⟨rfl, rfl⟩
    dsimp only
    split
    · exact h.trans ⟨rfl, rfl⟩
    · exact h

theorem sameWatch_renewFrame (s : State) : SameWatch s (renewFrame s) := by
  unfold renewFrame
  dsimp only
  split <;> exact ⟨rfl, rfl⟩

theorem timed_event (h : Event s t) : Timed s t := by
  cases h with
  | channelUpdate =>
    have hb := updated_body s
    have hu : Timed s (updated s) := (sameWatch_updated s).timed hb.config hb.link (by rw [hb.stops])
    rw [channelUpdate_eq]
    rcases checkStandstill_cases (updated s) with he | ⟨_, _, he⟩
    · rw [he]; exact hu
    · rw [he]
      refine Timed.trans (hu.trans ?_) (timed_enterCrane _ _ _)
      exact timed_of_eq rfl rfl rfl rfl
  | driveExchange r =>
    exact driveExchange_keeps (P := Timed s) r (timed_of_eq rfl rfl rfl rfl) fun c k u hu => hu.trans (timed_rise _ u)
  | slotEvent => exact timed_slot (slotEvent_step s)
  | zoneEvaluation =>
    have he : Timed s (evaluated s) := timed_of_eq rfl rfl rfl rfl
    exact zoneEvaluation_keeps he (fun n => he.trans (timed_rise _ _)) fun d u hu => hu.trans (timed_raiseZone d u)
  | inputSample x => exact (timed_sample s).inputSample x (.refl s)
  | frameEdge =>
    have hr : Timed s (renewFrame s) := by
      refine (sameWatch_renewFrame s).timed ?_ ?_ ?_
      all_goals obtain ⟨f, n, hf⟩ := renewFrame_frame s; rw [hf]
    rcases frameEdge_cases s with he | ⟨hw, he⟩
    · rw [he]; exact hr
    · have hn : (renewFrame s).engine.state ≠ .idle := by
        obtain ⟨f, n, hf⟩ := renewFrame_frame s
        rw [hf]; simp [hw]
      rw [he]
      exact hr.trans ((sameBody_startPlay _).timed ((sameWatch_engine _).startPlay (.refl _) hn))
  | presenceSample v =>
    refine (sameWatch_presenceSample v s).timed ?_ ?_ ?_
    all_goals rw [presenceSample_frame]
  | engineMillisecond =>
    exact (sameBody_engineMillisecond s).timed ((sameWatch_engine s).engineMillisecond (.refl s))
  | lensUpdate => exact (sameBody_lensUpdate s).timed (sameWatch_lensUpdate s)
  | wheelEdge w up => exact timed_of_eq rfl rfl rfl rfl
  | geometryUpdate => exact timed_of_eq rfl rfl rfl rfl

/-! ### Requests -/

theorem sameWatch_gotoOpened (mask : ChannelMask) (targets : List (Chan × Int)) (s : State) :
    SameWatch s (gotoOpened mask targets s) := by
  have hg := foldl_keeps (P := SameWatch s) targets (sameWatch_interruptMoves (fun c => (targets.map (·.1)).contains c) s)
    (f := fun t p => grant .console .position none (some (clampInt (s.lo p.1) (s.hi p.1) p.2)) p.1 t)
    fun _ hu _ _ => hu.trans (sameWatch_grant ..)
  exact hg.trans ⟨rfl, rfl⟩

theorem sameWatch_armTake (k : Take) (set : PerChannel Bool) (s : State) : SameWatch s (armTake k set s) := by
  have hg : SameWatch s (grantedTake set s) :=
    foldl_keeps (P := SameWatch s) _ (sameWatch_interruptMoves _ s) fun _ hu _ _ => hu.trans (sameWatch_grant ..)
  obtain ⟨e, he⟩ := startCue_frame (lockedTake k set s)
  rw [armTake_eq, he]
  exact hg.trans ⟨rfl, rfl⟩

theorem sameWatch_applyChangedLimits (before s : State) : SameWatch s (applyChangedLimits before s) :=
  foldl_keeps (P := SameWatch s) lensChans (.refl s) fun u hu c _ => by
    split
    · exact hu
    · exact hu.trans ⟨rfl, rfl⟩

theorem sameWatch_raiseTracking (h : SameWatch s u) : SameWatch s (raiseTracking u) := h.trans ⟨rfl, rfl⟩

/-- R183: every request but NOTICE and CONFIG_SET raises STATE through its own raises alone. -/
theorem timed_taken {j : Instr} (h : Taken j s t) : Timed s t ∨
    (j = .notice ∧ ∃ k, t = serveNoticeTimer k (setNotices s (clearSource s.notices k))) ∨
    (∃ b v, j = .configSet b v) ∧ ∃ k w, t = actOnWrite k { s with config := storeItem s.config k w } := by
  have quiet : ∀ {u}, SameBody s u → SameWatch s u → Timed s u := fun hb hw => hb.timed hw
  cases h
  case notice request k => exact .inr (.inl ⟨request, k, rfl⟩)
  case configSet b v request k w _ _ _ _ _ => exact .inr (.inr ⟨⟨b, v, request⟩, k, w, rfl⟩)
  all_goals left
  case noticeMask m => exact SameWatch.timed ⟨rfl, rfl⟩ rfl rfl rfl
  case arm =>
    refine Timed.trans ?_ (timed_enterCrane _ _ _)
    exact timed_of_eq rfl rfl rfl rfl
  case park =>
    refine Timed.trans ?_ (timed_enterCrane _ _ _)
    exact timed_of_eq rfl rfl rfl rfl
  case jog => exact quiet (sameBody_grant ..) (sameWatch_grant ..)
  case goto mask targets _ _ _ => exact quiet (sameBody_gotoOpened s mask targets) (sameWatch_gotoOpened mask targets s)
  case release => exact timed_interrupted _ _ s
  case wheelAssign => rw [releaseWheelChannel_frame]; exact timed_of_eq rfl rfl rfl rfl
  case stop o => exact timed_rise _ s
  case ackHalted =>
    refine Timed.trans ?_ (timed_enterCrane _ _ _)
    exact timed_of_eq rfl rfl rfl rfl
  case ackTripped =>
    refine Timed.trans ?_ (timed_enterCrane _ _ _)
    rw [setInhibits_frame]
    exact timed_of_eq rfl rfl rfl rfl
  case ackParked =>
    refine Timed.trans ?_ (timed_raiseState _ _)
    rw [setInhibits_frame]
    exact timed_of_eq rfl rfl rfl rfl
  case takeArm n k _ _ _ _ _ _ => exact quiet (sameBody_armTake ..) (sameWatch_armTake ..)
  case frameWait => exact SameWatch.timed ⟨rfl, rfl⟩ rfl rfl rfl
  case play armed => exact quiet (sameBody_startPlay s) ((sameWatch_engine s).startPlay (.refl s) (by simp [armed]))
  case resumePaused => exact SameWatch.timed ⟨rfl, rfl⟩ rfl rfl rfl
  case abort => exact timed_endTake _ s
  case mapSetSelected =>
    refine Timed.trans ?_ (SameBody.timed (sameBody_applyChangedLimits _ s) (sameWatch_applyChangedLimits _ _))
    exact timed_of_eq rfl rfl rfl rfl
  case lensSelect b _ _ => exact quiet (sameBody_selectBank s b) ⟨rfl, rfl⟩
  case trackOn n _ _ _ =>
    refine quiet (sameBody_trackOn s n (some (s.chan .focus).setpoint)) ?_
    refine SameWatch.trans (sameWatch_grant .track .position none (some (s.chan .focus).setpoint) .focus s) ?_
    refine sameWatch_raiseTracking (SameWatch.trans ?_ (sameWatch_evaluateTracking (setTracking _ _)))
    exact ⟨rfl, rfl⟩
  case trackOff => exact quiet (sameBody_trackOff s) ((sameWatch_releaseTracked s).trans (sameWatch_trackingOff _))
  all_goals exact timed_of_eq rfl rfl rfl rfl

end Timer

end Sys2Proof.Machine

/-! Frames and their answers: what a refused request leaves, what every unit frame's acceptance does, and what broadcasts do
(R177 to R184). -/

namespace Sys2Proof.Machine

/-! ## The bytes of a reply -/

theorem framed_injective {a b : List Byte} (h : framed a = framed b) : a = b := by
  unfold framed at h
  have := congrArg List.dropLast h
  rw [List.dropLast_concat, List.dropLast_concat] at this
  exact (List.cons.inj this).2

/-- R180: the codes number their constructors from 0. -/
theorem resultByte_toNat (a : ResultCode) : (resultByte a).toNat = a.ctorIdx := by cases a <;> rfl

theorem resultByte_injective {a b : ResultCode} (h : resultByte a = resultByte b) : a = b := by
  rw [← ResultCode.ofNat_ctorIdx a, ← ResultCode.ofNat_ctorIdx b, ← resultByte_toNat, ← resultByte_toNat, h]

/-- R178: a reply is read back from its bytes. -/
theorem replyBytes_injective {r q : Reply} {st : CraneState} (h : replyBytes r st = replyBytes q st) : r = q := by
  obtain ⟨h1, h2⟩ := List.cons.inj (framed_injective h)
  cases r; cases q
  exact congr (congrArg _ (resultByte_injective h1)) (List.cons.inj h2).2

/-! ## Refusals -/

/-- R180: a request whose code is a refusal leaves the state as it is. -/
structure RefusesIdly (r : State × Reply) (s : State) : Prop where
  idle : r.2.code ≠ .ok → r.2.code ≠ .clamped → r.1 = s

section Refusals

variable {s : State}

@[simp] theorem refusesIdly_refuse (s : State) (code : ResultCode) : RefusesIdly (refuse s code) s := ⟨fun _ _ => rfl⟩

@[simp] theorem refusesIdly_same (s : State) (q : Reply) : RefusesIdly (s, q) s := ⟨fun _ _ => rfl⟩

@[simp] theorem refusesIdly_accept (s t : State) (b : List Byte) : RefusesIdly (accept t b) s :=
  ⟨fun h _ => absurd rfl h⟩

@[simp] theorem refusesIdly_ok (s t : State) (b : List Byte) : RefusesIdly (t, ⟨.ok, b⟩) s := ⟨fun h _ => absurd rfl h⟩

/-- A code that tells of clamping alone is no refusal. -/
@[simp] theorem refusesIdly_clamped (s t : State) (b : List Byte) : RefusesIdly (t, ⟨.clamped, b⟩) s :=
  ⟨fun _ h => absurd rfl h⟩

@[simp] theorem refusesIdly_stored (s t : State) (m : ChannelMask) (b : List Byte) :
    RefusesIdly (t, ⟨clampResult m, b⟩) s := by
  unfold clampResult
  split <;> simp

end Refusals

section Requests

/-! R180: each request is refused by the first test that fails, before anything is changed; past its tests it answers OK or
CLAMPED. -/

variable (s : State)

theorem refusesIdly_gotoTargets (mask : ChannelMask) (targets : List (Chan × Int)) : RefusesIdly (goto mask targets s) s := by
  unfold goto
  dsimp only
  (repeat' split) <;> simp

theorem refusesIdly_jog (channel : Byte) (velocity : BitVec 32) : RefusesIdly (requestJog channel velocity s) s := by
  unfold requestJog
  dsimp only
  (repeat' split) <;> simp

theorem refusesIdly_goto (mask : ChannelMask) (ps : List (BitVec 32)) : RefusesIdly (requestGoto mask ps s) s := by
  unfold requestGoto
  (repeat' split) <;> simp [refusesIdly_gotoTargets]

theorem refusesIdly_gotoMark (mark : Byte) (mask : ChannelMask) : RefusesIdly (requestGotoMark mark mask s) s := by
  unfold requestGotoMark
  (repeat' split) <;> simp [refusesIdly_gotoTargets]

theorem refusesIdly_release (mask : ChannelMask) : RefusesIdly (requestRelease mask s) s := by
  unfold requestRelease
  (repeat' split) <;> simp

theorem refusesIdly_channelGet (channel : Byte) : RefusesIdly (requestChannelGet channel s) s := by
  unfold requestChannelGet
  (repeat' split) <;> simp

theorem refusesIdly_wheelAssign (wheel channel : Byte) (gain : BitVec 16) : RefusesIdly (requestWheelAssign wheel channel gain s) s := by
  unfold requestWheelAssign
  (repeat' split) <;> simp

theorem refusesIdly_configSet (item : Byte) (value : BitVec 32) : RefusesIdly (requestConfigSet item value s) s := by
  unfold requestConfigSet
  dsimp only
  (repeat' split) <;> simp

theorem refusesIdly_configGet (item : Byte) : RefusesIdly (requestConfigGet item s) s := by
  unfold requestConfigGet
  (repeat' split) <;> simp

theorem refusesIdly_arm : RefusesIdly (requestArm s) s := by
  unfold requestArm
  (repeat' split) <;> simp

theorem refusesIdly_park : RefusesIdly (requestPark s) s := by
  unfold requestPark
  (repeat' split) <;> simp

theorem refusesIdly_lensMapSet (m : LensMapOperands) : RefusesIdly (requestLensMapSet m s) s := by
  unfold requestLensMapSet
  (repeat' split) <;> simp

theorem refusesIdly_lensMapGet (bank : Byte) : RefusesIdly (requestLensMapGet bank s) s := by
  unfold requestLensMapGet
  (repeat' split) <;> simp

theorem refusesIdly_lensMapRetire (bank : Byte) : RefusesIdly (requestLensMapRetire bank s) s := by
  unfold requestLensMapRetire
  (repeat' split) <;> simp

theorem refusesIdly_lensSelect (bank : Byte) : RefusesIdly (requestLensSelect bank s) s := by
  unfold requestLensSelect
  (repeat' split) <;> simp

theorem refusesIdly_targetSet (number : Byte) (x y z : BitVec 32) (maxAge : BitVec 16) : RefusesIdly (requestTargetSet number x y z maxAge s) s := by
  unfold requestTargetSet
  (repeat' split) <;> simp

theorem refusesIdly_targetGet (number : Byte) : RefusesIdly (requestTargetGet number s) s := by
  unfold requestTargetGet
  (repeat' split) <;> simp

theorem refusesIdly_targetRetire (number : Byte) : RefusesIdly (requestTargetRetire number s) s := by
  unfold requestTargetRetire
  dsimp only
  (repeat' split) <;> simp

theorem refusesIdly_trackOn (number : Byte) : RefusesIdly (requestTrackOn number s) s := by
  unfold requestTrackOn
  dsimp only
  (repeat' split) <;> simp

theorem refusesIdly_trackOff : RefusesIdly (requestTrackOff s) s := by
  unfold requestTrackOff
  (repeat' split) <;> simp

theorem refusesIdly_markSet (number : Byte) (tag : BitVec 16) (mask : ChannelMask) (values : List (BitVec 32)) :
    RefusesIdly (requestMarkSet number tag mask values s) s := by
  unfold requestMarkSet
  (repeat' split) <;> simp

theorem refusesIdly_markCapture (number : Byte) (tag : BitVec 16) (mask : ChannelMask) : RefusesIdly (requestMarkCapture number tag mask s) s := by
  unfold requestMarkCapture
  (repeat' split) <;> simp

theorem refusesIdly_markGet (number : Byte) : RefusesIdly (requestMarkGet number s) s := by
  unfold requestMarkGet
  (repeat' split) <;> simp

theorem refusesIdly_markList (number : Byte) : RefusesIdly (requestMarkList number s) s := by
  unfold requestMarkList
  (repeat' split) <;> simp

theorem refusesIdly_markRetire (number : Byte) : RefusesIdly (requestMarkRetire number s) s := by
  unfold requestMarkRetire
  dsimp only
  (repeat' split) <;> simp

theorem refusesIdly_takeCreate (number : Byte) (tag : BitVec 16) : RefusesIdly (requestTakeCreate number tag s) s := by
  unfold requestTakeCreate
  dsimp only
  (repeat' split) <;> simp

theorem refusesIdly_takeCueInsert (number position : Byte) (q : CueOperands) : RefusesIdly (requestTakeCueInsert number position q s) s := by
  unfold requestTakeCueInsert editCues
  dsimp only
  (repeat' split) <;> simp

theorem refusesIdly_takeCueReplace (number position : Byte) (q : CueOperands) : RefusesIdly (requestTakeCueReplace number position q s) s := by
  unfold requestTakeCueReplace editCues
  dsimp only
  (repeat' split) <;> simp

theorem refusesIdly_takeCueDelete (number position : Byte) : RefusesIdly (requestTakeCueDelete number position s) s := by
  unfold requestTakeCueDelete editCues
  dsimp only
  (repeat' split) <;> simp

theorem refusesIdly_takeRetire (number : Byte) : RefusesIdly (requestTakeRetire number s) s := by
  unfold requestTakeRetire
  dsimp only
  (repeat' split) <;> simp

theorem refusesIdly_takeGet (number position : Byte) : RefusesIdly (requestTakeGet number position s) s := by
  unfold requestTakeGet
  (repeat' split) <;> simp

theorem refusesIdly_takeArm (number : Byte) : RefusesIdly (requestTakeArm number s) s := by
  unfold requestTakeArm
  dsimp only
  (repeat' split) <;> simp

theorem refusesIdly_takeGo (mode : Byte) : RefusesIdly (requestTakeGo mode s) s := by
  unfold requestTakeGo
  (repeat' split) <;> simp

theorem refusesIdly_takePause : RefusesIdly (requestTakePause s) s := by
  unfold requestTakePause
  (repeat' split) <;> simp

theorem refusesIdly_takeResume : RefusesIdly (requestTakeResume s) s := by
  unfold requestTakeResume
  (repeat' split) <;> simp

theorem refusesIdly_takeAbort : RefusesIdly (requestTakeAbort s) s := by
  unfold requestTakeAbort
  (repeat' split) <;> simp

theorem refusesIdly_notice : RefusesIdly (requestNotice s) s := by
  unfold requestNotice
  (repeat' split) <;> simp

theorem refusesIdly_noticeMask (mask : Byte) : RefusesIdly (requestNoticeMask mask s) s := by
  unfold requestNoticeMask
  (repeat' split) <;> simp

theorem refusesIdly_ackStop : RefusesIdly (requestAckStop s) s := by
  unfold requestAckStop
  (repeat' split) <;> simp

theorem refusesIdly_zoneSet (z : ZoneOperands) : RefusesIdly (requestZoneSet z s) s := by
  unfold requestZoneSet
  dsimp only
  (repeat' split) <;> simp

theorem refusesIdly_zoneRetire (number : Byte) : RefusesIdly (requestZoneRetire number s) s := by
  unfold requestZoneRetire
  dsimp only
  (repeat' split) <;> simp

theorem refusesIdly_zoneGet (number : Byte) : RefusesIdly (requestZoneGet number s) s := by
  unfold requestZoneGet
  (repeat' split) <;> simp

/-- R180: whatever the request. -/
theorem takeRequest_refuses (j : Instr) : RefusesIdly (takeRequest j s) s := by
  cases j
  case jog channel velocity => exact refusesIdly_jog s channel velocity
  case gotoMark mark mask => exact refusesIdly_gotoMark s mark mask
  case release mask => exact refusesIdly_release s mask
  case channelGet channel => exact refusesIdly_channelGet s channel
  case wheelAssign wheel channel gain => exact refusesIdly_wheelAssign s wheel channel gain
  case configSet item value => exact refusesIdly_configSet s item value
  case configGet item => exact refusesIdly_configGet s item
  case arm => exact refusesIdly_arm s
  case park => exact refusesIdly_park s
  case lensMapSet m => exact refusesIdly_lensMapSet s m
  case lensMapGet bank => exact refusesIdly_lensMapGet s bank
  case lensMapRetire bank => exact refusesIdly_lensMapRetire s bank
  case lensSelect bank => exact refusesIdly_lensSelect s bank
  case targetSet _o number x y z maxAge => exact refusesIdly_targetSet s number x y z maxAge
  case targetGet number => exact refusesIdly_targetGet s number
  case targetRetire number => exact refusesIdly_targetRetire s number
  case trackOn number => exact refusesIdly_trackOn s number
  case trackOff => exact refusesIdly_trackOff s
  case markCapture number tag mask => exact refusesIdly_markCapture s number tag mask
  case markGet number => exact refusesIdly_markGet s number
  case markList number => exact refusesIdly_markList s number
  case markRetire number => exact refusesIdly_markRetire s number
  case takeCreate number tag => exact refusesIdly_takeCreate s number tag
  case takeCueInsert number position q => exact refusesIdly_takeCueInsert s number position q
  case takeCueReplace number position q => exact refusesIdly_takeCueReplace s number position q
  case takeCueDelete number position => exact refusesIdly_takeCueDelete s number position
  case takeRetire number => exact refusesIdly_takeRetire s number
  case takeGet number position => exact refusesIdly_takeGet s number position
  case takeArm number => exact refusesIdly_takeArm s number
  case takeGo _o mode => exact refusesIdly_takeGo s mode
  case takePause => exact refusesIdly_takePause s
  case takeResume => exact refusesIdly_takeResume s
  case takeAbort => exact refusesIdly_takeAbort s
  case notice => exact refusesIdly_notice s
  case noticeMask mask => exact refusesIdly_noticeMask s mask
  case ackStop => exact refusesIdly_ackStop s
  case zoneSet z => exact refusesIdly_zoneSet s z
  case zoneRetire number => exact refusesIdly_zoneRetire s number
  case zoneGet number => exact refusesIdly_zoneGet s number
  case goto mask ps => exact refusesIdly_goto s mask ps
  case markSet number tag mask values => exact refusesIdly_markSet s number tag mask values
  case ident | status | inputs | zoneList | takeList => exact refusesIdly_accept _ _ _
  case stop o => exact refusesIdly_accept _ _ _
  all_goals exact refusesIdly_refuse s _

theorem decodeAndTake_refuses (o : Origin) (code : Byte) (ops : List Byte) : RefusesIdly (decodeAndTake o code ops s) s := by
  unfold decodeAndTake
  split
  · exact takeRequest_refuses s _
  · exact refusesIdly_refuse s _

end Requests

/-! ## Who answers -/

section Answers

variable {i : Instr} {s t : State}

theorem canReceive_receiver (h : s.canReceive = true) : s.link.receiver ≠ .answering := fun ha => by
  simp [State.canReceive, ha] at h

theorem Timed.receiver (h : Timed s t) : t.link.receiver = s.link.receiver := by
  by_cases hs : startsTimer s t ∧ armed s.link = true ∧ s.stops.conditions.link = none
  · rw [h.starts hs.1 hs.2.1 hs.2.2]
  · rw [h.stays hs]

/-- R177, R178: an answer comes of the acceptance of a unit frame. -/
def Accepts (s t : State) : Prop := ∃ f, (∀ u, RefusesIdly (f u) u) ∧ t = acceptUnit f s

theorem acceptBroadcast_receiver (data : List Byte) (f : State → State × Reply) (h : s.canReceive = true) :
    (acceptBroadcast data f s).link.receiver ≠ .answering := by
  rw [acceptBroadcast_of_canReceive s data f h]
  exact nofun

theorem dataCharacter_accepts (h : s.canReceive = true) (v : Byte) (e : Bool)
    (ha : (dataCharacter v e s).link.receiver = .answering) : Accepts s (dataCharacter v e s) := by
  have hs := canReceive_receiver h
  revert ha
  unfold dataCharacter
  split
  · exact fun ha => absurd ha hs
  · exact fun ha => absurd ha hs
  · split
    · exact nofun
    · unfold takeLength
      split <;> exact nofun
  next o ho =>
    split
    · exact nofun
    · unfold takeByte
      dsimp only
      split
      · split
        · unfold acceptFrame
          split
          · split
            · exact fun _ => ⟨_, fun u => decodeAndTake_refuses u _ _ _, rfl⟩
            · exact fun ha => absurd ha (acceptBroadcast_receiver _ _ h)
          · exact nofun
        · exact nofun
      · exact fun ha => absurd ha hs

/-- Only the acceptance of a unit frame leaves the receiver ANSWERING. -/
theorem accepts_of_answering (h : s.canReceive = true) (he : exec i s = .next t) (ha : t.link.receiver = .answering) :
    Accepts s t := by
  have hs := canReceive_receiver h
  by_cases hd : ∃ v e, i = .dataCharacter v e
  · obtain ⟨v, e, rfl⟩ := hd
    have ht : t = dataCharacter v e s := by
      have : exec (.dataCharacter v e) s = .next (if s.canReceive then dataCharacter v e s else s) := rfl
      rw [this, if_pos h] at he
      exact (Host.Outcome.next.inj he).symm
    subst ht
    exact dataCharacter_accepts h v e ha
  by_cases hb : requestBytes i = none
  · exfalso
    have hframe : ¬ bringsFrame i := fun hf => hf.elim (fun hn => hn hb) hd
    cases exec_effect he with
    | nothing => exact hs ha
    | receiver l running same silent => exact silent ha
    | request j l receives frame => exact hframe frame
    | timers => exact hs ha
    | expiry k n =>
      rcases expireLink_cases k { tickLinkTimers s with freeCount := n } _ rfl with ⟨_, hx⟩ | ⟨_, hx⟩
      · rw [hx] at ha; exact hs ha
      · rw [hx, (timed_rise _ _).receiver] at ha; exact hs ha
    | event _ _ event => rw [(timed_event event).receiver] at ha; exact hs ha
    | held => exact hs ha
    | backup => exact hs ha
    | reset =>
      unfold performReset at ha
      split at ha <;> cases ha
  · obtain ⟨data, hdata⟩ := Option.ne_none_iff_exists'.1 hb
    by_cases hu : ∃ c o, i = .unknownCode c o
    · obtain ⟨c, o, rfl⟩ := hu
      exact ⟨_, fun u => decodeAndTake_refuses u .unit c o, (Host.Outcome.next.inj he).symm⟩
    by_cases hi : ∃ c o, i = .broadcastIgnored c o
    · obtain ⟨c, o, rfl⟩ := hi
      cases he
      exact absurd ha (acceptBroadcast_receiver _ _ h)
    push Not at hu hi
    rw [exec_request hdata hu hi] at he
    cases he
    cases ho : requestOrigin i
    · rw [ho] at ha
      exact ⟨takeRequest i, fun u => takeRequest_refuses u i, rfl⟩
    · rw [ho] at ha
      exact absurd ha (acceptBroadcast_receiver _ _ h)

/-- What an accepted frame that is refused leaves is the link's alone. -/
theorem onlyLink_of_refused {f : State → State × Reply} (h : s.canReceive = true)
    (hf : (f (serveSupervision s)).1 = serveSupervision s) : OnlyLink s (acceptUnit f s) := by
  rw [acceptUnit_of_canReceive s f h, hf]
  rw [serveSupervision_eq]
  rfl

/-- Settles O14: an answer is that of a unit frame's acceptance; its bytes tell the code, and a code of refusal that the
request has changed nothing. -/
theorem refusedRequestsChangeNothing : Obligations.RefusedRequestsChangeNothing := by
  intro i s t code payload h hr hok hclamped
  obtain ⟨he, ha, -, hbuf⟩ := hr
  obtain ⟨f, hf, rfl⟩ := accepts_of_answering h he ha
  refine onlyLink_of_refused h ?_
  rw [acceptUnit_of_canReceive s f h] at hbuf
  have hreply : (f (serveSupervision s)).2 = ⟨code, payload⟩ := replyBytes_injective hbuf
  refine (hf _).idle ?_ ?_
  · rw [hreply]; exact hok
  · rw [hreply]; exact hclamped

end Answers

end Sys2Proof.Machine

/-! What every accepted frame does: the answer of a unit frame (R177, R178), the supervision timers (R181 to R184), frames
that spell no request (R180), and broadcasts (R179). -/

namespace Sys2Proof.Machine

section Accepting

variable {i : Instr} {s t u v : State} {f : State → State × Reply}

/-! ## The link after a request -/

/-- What no request changes of the link, and of the LINK condition. -/
structure SameService (s t : State) : Prop where
  periodic : t.link.periodic = s.link.periodic
  address : t.link.address = s.link.address
  rate : t.link.rate = s.link.rate
  de : t.link.de = s.link.de
  condition : t.stops.conditions.link = s.stops.conditions.link

theorem Timed.service (h : Timed s t) : SameService s t := by
  by_cases hs : startsTimer s t ∧ armed s.link = true ∧ s.stops.conditions.link = none
  · have hl := h.starts hs.1 hs.2.1 hs.2.2
    constructor
    any_goals rw [hl]
    exact h.condition
  · have hl := h.stays hs
    constructor
    any_goals rw [hl]
    exact h.condition

theorem serveNoticeTimer_service (k : Source) (s : State) : SameService s (serveNoticeTimer k s) := by
  have hl := serveNoticeTimer_link s k
  have hs : (serveNoticeTimer k s).stops = s.stops := by rw [serveNoticeTimer_frame]
  refine ⟨?_, ?_, ?_, ?_, by rw [hs]⟩
  all_goals rw [hl]; split <;> rfl

theorem actOnWrite_service (k : ConfigKey) (s : State) : SameService s (actOnWrite k s) := by
  unfold actOnWrite
  split
  · split <;> exact ⟨rfl, rfl, rfl, rfl, rfl⟩
  · split <;> exact ⟨rfl, rfl, rfl, rfl, rfl⟩
  · unfold refillLine
    dsimp only
    split <;> exact ⟨rfl, rfl, rfl, rfl, rfl⟩
  · exact ⟨rfl, rfl, rfl, rfl, rfl⟩
  · exact ⟨rfl, rfl, rfl, rfl, rfl⟩

theorem Taken.service {j : Instr} (h : Taken j s t) : SameService s t := by
  rcases timed_taken h with h | ⟨-, k, rfl⟩ | ⟨-, k, w, rfl⟩
  · exact h.service
  · obtain ⟨h1, h2, h3, h4, h5⟩ := serveNoticeTimer_service k (setNotices s (clearSource s.notices k))
    exact ⟨h1, h2, h3, h4, h5⟩
  · obtain ⟨h1, h2, h3, h4, h5⟩ := actOnWrite_service k { s with config := storeItem s.config k w }
    exact ⟨h1, h2, h3, h4, h5⟩

/-! ## The supervision at an acceptance -/

theorem served_link (s : State) : (serveSupervision s).link =
    { s.link with periodic := .running 0 s.config.supervisionPeriod, noticeTimer := servedTimer s } := by
  rw [serveSupervision_eq]

theorem served_condition (s : State) : (serveSupervision s).stops.conditions.link = none := rfl

/-- R177, R182: what the acceptance of a frame leaves of the link whatever the request does. -/
theorem SameService.served (h : SameService (serveSupervision s) t) :
    t.link.periodic = .running 0 s.config.supervisionPeriod ∧ t.stops.conditions.link = none ∧
      t.link.address = s.link.address ∧ t.link.rate = s.link.rate ∧ t.link.de = s.link.de := by
  obtain ⟨h1, h2, h3, h4, h5⟩ := h
  rw [served_link] at h1 h2 h3 h4
  exact ⟨h1, h5, h2, h3, h4⟩

/-- R183, R184: the notice timer after an accepted frame whose request raises STATE through its own raises alone. -/
theorem TimerStarts.served (h : TimerStarts (serveSupervision s) t) :
    (startsTimer s t → t.link.noticeTimer = .running 0 s.config.supervisionPeriod) ∧
      (¬startsTimer s t → t.link.noticeTimer = servedTimer s) := by
  have ha : armed (serveSupervision s).link = true := by rw [served_link]; rfl
  constructor
  · intro hs
    rw [h.starts hs ha (served_condition s)]
    rfl
  · intro hs
    rw [h.stays fun hn => hs hn.1, served_link]

/-! ## Unit frames -/

theorem wellFormed_noRequest (h : wellFormed i = true) : noRequest i = true := by
  simp only [wellFormed, Bool.and_eq_true] at h
  exact h.1.2

/-- R180: a frame that spells no request changes nothing. -/
theorem decodeAndTake_of_noRequest {c : Byte} {o : List Byte} (h : noRequest (.unknownCode c o) = true) (s : State) :
    (decodeAndTake .unit c o s).1 = s := by
  unfold noRequest at h
  unfold decodeAndTake
  cases hd : decodeRequest .unit c o with
  | ok i => simp [hd] at h
  | error r => rfl

/-- R177, R178: an accepted unit frame is answered with the reply of its request. -/
theorem replied_of_accepted (h : s.canReceive = true) (he : exec i s = .next (acceptUnit f s)) :
    Replied i s (acceptUnit f s) (f (serveSupervision s)).2.code (f (serveSupervision s)).2.payload := by
  refine ⟨he, ?_⟩
  rw [acceptUnit_of_canReceive s f h]
  exact ⟨rfl, rfl, rfl⟩

/-- A unit request's command is its acceptance. -/
theorem exec_unit {data : List Byte} (hd : requestBytes i = some data) (hu : ∀ c o, i ≠ .unknownCode c o)
    (ho : requestOrigin i = .unit) (s : State) : exec i s = .next (acceptUnit (takeRequest i) s) := by
  rw [exec_request hd hu (fun c o he => by rw [he] at ho; cases ho), ho]
  rfl

/-- The item number of the supervision mode. -/
theorem configItem_supervisionMode {b : Byte} (h : configItem b = some .supervisionMode) : b = 0x0A#8 := by
  unfold configItem at h
  dsimp only at h
  split at h
  case h_1 h0 =>
    unfold singleItem at h
    split at h <;> cases h
    next hlow => exact BitVec.eq_of_toNat_eq (by simp; omega)
  case h_9 =>
    obtain ⟨c, -, hc⟩ := Option.bind_eq_some_iff.1 h
    unfold keepActiveItem at hc
    split at hc <;> cases hc
  case h_10 => unfold lineItem at h; split at h <;> simp at h
  case h_11 => unfold lineItem at h; split at h <;> simp at h
  all_goals simp at h

/-- R191: a write of another item leaves the link, and STATE and ZONE, as they are. -/
theorem timerStarts_configSet {item : Byte} {w : BitVec 32} (hn : w.toInt = 0 ∨ w.toInt = 1 → item ≠ 0x0A#8) (s : State) :
    TimerStarts s (requestConfigSet item w s).1 := by
  have same : TimerStarts s s := (Timed.refl s).toTimerStarts
  unfold requestConfigSet
  split
  · exact same
  next k hk =>
    dsimp only
    split
    · exact same
    next hr =>
      split
      · exact same
      · split
        · exact same
        · have hm : k ≠ .supervisionMode := by
            rintro rfl
            refine hn ?_ (configItem_supervisionMode hk)
            simp only [twoValuedItem, itemRange, true_and, Bool.not_eq_false] at hr
            have := inRange_iff.1 hr
            omega
          unfold actOnWrite
          split
          · split <;> exact SameWatch.timerStarts ⟨rfl, rfl⟩ rfl
          · split <;> exact SameWatch.timerStarts ⟨rfl, rfl⟩ rfl
          · unfold refillLine
            dsimp only
            split <;> exact SameWatch.timerStarts ⟨rfl, rfl⟩ rfl
          · exact absurd rfl hm
          · exact SameWatch.timerStarts ⟨rfl, rfl⟩ rfl

/-- R183: NOTICE and a write of the supervision mode aside, a request serves the notice timer through its own raises alone. -/
theorem timerStarts_request {j : Instr} (hn : j ≠ .notice)
    (hc : ∀ w : BitVec 32, w.toInt = 0 ∨ w.toInt = 1 → j ≠ .configSet 0x0A#8 w) (s : State) :
    TimerStarts s (takeRequest j s).1 := by
  by_cases hset : ∃ item w, j = .configSet item w
  · obtain ⟨item, w, rfl⟩ := hset
    exact timerStarts_configSet (fun hw hi => hc w hw (by rw [hi])) s
  · rcases timed_taken (takeRequest_taken j s) with h | ⟨h, -⟩ | ⟨⟨b, v, h⟩, -⟩
    · exact h.toTimerStarts
    · exact absurd h hn
    · exact absurd ⟨b, v, h⟩ hset

/-- The answer of a unit frame whose acceptance runs f, from what f does to the state that the acceptance leaves. -/
theorem answered {P : Prop} (h : s.canReceive = true) (he : exec i s = .next (acceptUnit f s))
    (hs : SameService (serveSupervision s) (f (serveSupervision s)).1)
    (ht : P → TimerStarts (serveSupervision s) (f (serveSupervision s)).1) :
    ∃ t code payload, Replied i s t code payload ∧ t.link.periodic = .running 0 s.config.supervisionPeriod ∧
      t.stops.conditions.link = none ∧ t.link.address = s.link.address ∧ t.link.rate = s.link.rate ∧
      (P → (startsTimer s t → t.link.noticeTimer = .running 0 s.config.supervisionPeriod) ∧
        (¬startsTimer s t → t.link.noticeTimer = servedTimer s)) := by
  refine ⟨_, _, _, replied_of_accepted h he, ?_⟩
  obtain ⟨hp, hc, ha, hr, -⟩ := hs.served
  rw [acceptUnit_of_canReceive s f h]
  exact ⟨hp, hc, ha, hr, fun hP => (ht hP).served⟩

/-- Settles O13: by the acceptance, which serves the timers before the request is taken. -/
theorem everyUnitFrameIsAnswered : Obligations.EveryUnitFrameIsAnswered := by
  intro i s hb ho hr
  obtain ⟨data, hd⟩ := Option.ne_none_iff_exists'.1 hb
  by_cases hu : ∃ c o, i = .unknownCode c o
  · obtain ⟨c, o, rfl⟩ := hu
    have he : exec (.unknownCode c o) s = .next (acceptUnit (decodeAndTake .unit c o) s) := rfl
    obtain ⟨j, hj⟩ := decodeAndTake_fst .unit c o (serveSupervision s)
    obtain ⟨t, code, payload, h⟩ := answered (P := wellFormed (.unknownCode c o) = true) hr he
      (by rw [hj]; exact (takeRequest_taken j _).service)
      fun hw => by rw [decodeAndTake_of_noRequest (wellFormed_noRequest hw)]; exact (Timed.refl _).toTimerStarts
    obtain ⟨h1, h2, h3, h4, h5, h6⟩ := h
    exact ⟨t, code, payload, h1, h2, h3, h4, h5, fun hw _ _ => h6 hw⟩
  · simp only [not_exists] at hu
    obtain ⟨t, code, payload, h1, h2, h3, h4, h5, h6⟩ := answered
      (P := i ≠ .notice ∧ ∀ w : BitVec 32, w.toInt = 0 ∨ w.toInt = 1 → i ≠ .configSet 0x0A#8 w) hr (exec_unit hd hu ho s)
      (takeRequest_taken i _).service fun hn => timerStarts_request hn.1 hn.2 _
    exact ⟨t, code, payload, h1, h2, h3, h4, h5, fun _ hn hc => h6 ⟨hn, hc⟩⟩

end Accepting

end Sys2Proof.Machine

/-! Frames that spell no request (R180, R193), broadcasts (R179), and the bytes of a request read again (R193, R199). -/

namespace Sys2Proof.Machine

section Decoding

variable {i j : Instr} {s t : State} {f : State → State × Reply} {o : Origin} {code : Byte} {ops : List Byte} {n : Nat}

/-! ## Answers that change nothing -/

/-- A unit request whose taking refuses is refused. -/
theorem refusedWith_of_accepted {r : ResultCode} (h : s.canReceive = true) (he : exec i s = .next (acceptUnit f s))
    (hf : f (serveSupervision s) = refuse (serveSupervision s) r) : RefusedWith i s r := by
  refine ⟨_, ?_, onlyLink_of_refused (f := f) h (by rw [hf]; rfl)⟩
  have := replied_of_accepted h he
  rwa [hf] at this

/-- A unit request whose taking answers OK and changes nothing shows what the state that it leaves shows. -/
theorem shows_of_accepted {payload : State → List Byte} (h : s.canReceive = true)
    (he : exec i s = .next (acceptUnit f s))
    (hf : f (serveSupervision s) = accept (serveSupervision s) (payload (acceptUnit f s))) : Shows i s payload := by
  refine ⟨_, ?_, onlyLink_of_refused (f := f) h (by rw [hf]; rfl)⟩
  have := replied_of_accepted h he
  rwa [hf] at this

/-! ## The lengths of the layouts (R199) -/

theorem noOperand_length (h : noOperand i ops = some j) : ops.length = 0 := by
  unfold noOperand at h; split at h <;> simp_all

theorem oneByte_length {g : Byte → Instr} (h : oneByte g ops = some j) : ops.length = 1 := by
  unfold oneByte at h; split at h <;> simp_all

theorem twoBytes_length {g : Byte → Byte → Instr} (h : twoBytes g ops = some j) : ops.length = 2 := by
  unfold twoBytes at h; split at h <;> simp_all

theorem oneMask_length {g : ChannelMask → Instr} (h : oneMask g ops = some j) : ops.length = 2 := by
  unfold oneMask at h; split at h <;> simp_all

theorem byteWord16_length {g : Byte → BitVec 16 → Instr} (h : byteWord16 g ops = some j) : ops.length = 3 := by
  unfold byteWord16 at h; split at h <;> simp_all

theorem byteWord32_length {g : Byte → BitVec 32 → Instr} (h : byteWord32 g ops = some j) : ops.length = 5 := by
  unfold byteWord32 at h; split at h <;> simp_all

theorem twoBytesWord16_length {g : Byte → Byte → BitVec 16 → Instr} (h : twoBytesWord16 g ops = some j) :
    ops.length = 4 := by
  unfold twoBytesWord16 at h; split at h <;> simp_all

theorem byteTwoWords16_length {g : Byte → BitVec 16 → BitVec 16 → Instr} (h : byteTwoWords16 g ops = some j) :
    ops.length = 5 := by
  unfold byteTwoWords16 at h; split at h <;> simp_all

theorem targetOperands_length (h : targetOperands o ops = some j) : ops.length = 15 := by
  unfold targetOperands at h; split at h <;> simp_all

theorem readCue_length {q : CueOperands} (h : readCue ops = some q) : ops.length = 12 := by
  unfold readCue at h; split at h <;> simp_all

theorem cueOperands_length {g : Byte → Byte → CueOperands → Instr} (h : cueOperands g ops = some j) :
    ops.length = 14 := by
  unfold cueOperands at h
  split at h
  · obtain ⟨q, hq, -⟩ := Option.map_eq_some_iff.1 h
    simp [readCue_length hq]
  · cases h

theorem words32_length : ∀ {ops : List Byte} {ws : List (BitVec 32)}, words32 ops = some ws → ops.length = 4 * ws.length
  | [], _, h => by cases h; rfl
  | b3 :: b2 :: b1 :: b0 :: rest, ws, h => by
    simp only [words32, Option.map_eq_some_iff] at h
    obtain ⟨vs, hvs, rfl⟩ := h
    simp [words32_length hvs]
    omega
  | [_], _, h | [_, _], _, h | [_, _, _], _, h => by cases h

theorem readZone_length {z : ZoneOperands} (h : readZone ops = some z) : ops.length = 35 := by
  unfold readZone at h
  split at h
  · split at h
    next hw => simp [words32_length hw]
    next => cases h
  · cases h

/-! ## CODE and operands that spell no request (R180) -/

theorem knownCode_of_operandBytes (h : operandBytes code.toNat = some n) : knownCode code = true := by
  unfold operandBytes at h
  simp only [knownCode, Bool.or_eq_true, decide_eq_true_eq]
  repeat' split at h
  any_goals simp only [List.mem_cons, List.not_mem_nil, or_false] at *; omega
  cases h

/-- R199: a request is read from as many operand bytes as its layout has. -/
theorem readRequest_length (h : readRequest o code ops = some i) (hn : operandBytes code.toNat = some n) :
    ops.length = n := by
  unfold readRequest at h
  split at h
  case h_48 => cases h
  all_goals
    rename_i hc
    rw [hc] at hn
    cases hn
  case h_1 | h_2 | h_3 | h_7 | h_8 | h_15 | h_16 | h_17 | h_20 | h_32 | h_36 | h_37 | h_38 | h_47 => exact noOperand_length h
  case h_4 | h_6 | h_13 | h_19 | h_21 | h_24 | h_25 | h_26 | h_33 | h_34 | h_35 | h_40 | h_41 | h_42 | h_44 | h_45 | h_46 => exact oneByte_length h
  case h_30 | h_31 => exact twoBytes_length h
  case h_12 => exact oneMask_length h
  case h_11 | h_27 => exact byteWord16_length h
  case h_5 | h_9 => exact byteWord32_length h
  case h_14 => exact twoBytesWord16_length h
  case h_23 => exact byteTwoWords16_length h
  case h_28 | h_29 => exact cueOperands_length h
  case h_43 => exact targetOperands_length h
  case h_18 =>
    obtain ⟨z, hz, -⟩ := Option.map_eq_some_iff.1 h
    exact readZone_length hz

/-- R194: a 16-bit field, most significant byte first. -/
theorem word16_eq (a b : Byte) : word16 a b = a ++ b := by
  refine BitVec.eq_of_toNat_eq ?_
  simp only [word16, BitVec.toNat_ofNat, BitVec.toNat_append]
  have ha := a.isLt
  have hb := b.isLt
  rw [← Nat.shiftLeft_add_eq_or_of_lt hb, Nat.shiftLeft_eq]
  omega

theorem maskedWords_length {m : ChannelMask} {ws : List (BitVec 32)} (h : maskedWords m ops = some ws) :
    ops.length = 4 * maskCount m := by
  unfold maskedWords at h
  split at h
  · assumption
  · cases h

theorem gotoOperands_length {m1 m0 : Byte} (h : gotoOperands (m1 :: m0 :: ops) = some i) :
    ops.length = 4 * maskCount (m1 ++ m0) := by
  obtain ⟨ws, hw, -⟩ := Option.map_eq_some_iff.1 h
  rw [maskedWords_length hw, word16_eq]

theorem markSetOperands_length {n t1 t0 m1 m0 : Byte} (h : markSetOperands (n :: t1 :: t0 :: m1 :: m0 :: ops) = some i) :
    ops.length = 4 * maskCount (m1 ++ m0) := by
  obtain ⟨ws, hw, -⟩ := Option.map_eq_some_iff.1 h
  rw [maskedWords_length hw, word16_eq]

theorem readLensMap_length {b t1 t0 n : Byte} {m : LensMapOperands} (h : readLensMap (b :: t1 :: t0 :: n :: ops) = some m) :
    ops.length = 9 + 6 * n.toNat := by
  unfold readLensMap at h
  split at h
  next heq =>
    injections
    subst_vars
    split at h
    next hl => simp [hl]; omega
    next => cases h
  next => cases h

theorem knownCode_counted (h : code = 0x13#8 ∨ code = 0x30#8 ∨ code = 0x50#8) : knownCode code = true := by
  rcases h with rfl | rfl | rfl <;> decide

/-- R180: too few bytes for the mask or the count that says how many are due. -/
theorem readRequest_short (h : (code = 0x13#8 ∧ ops.length < 2) ∨ (code = 0x30#8 ∧ ops.length < 5) ∨
    (code = 0x50#8 ∧ ops.length < 4)) : readRequest o code ops = none := by
  rcases h with ⟨rfl, h⟩ | ⟨rfl, h⟩ | ⟨rfl, h⟩
  · show gotoOperands ops = none
    unfold gotoOperands
    split
    · simp at h
    · rfl
  · show markSetOperands ops = none
    unfold markSetOperands
    split
    · simp at h; omega
    · rfl
  · show (readLensMap ops).map Instr.lensMapSet = none
    unfold readLensMap
    split
    · simp at h; omega
    · rfl

theorem decodeAndTake_of_error {r : ResultCode} (h : decodeRequest o code ops = .error r) (s : State) :
    decodeAndTake o code ops s = refuse s r := by
  simp only [decodeAndTake, h]

theorem refused_of_badCode (hr : s.canReceive = true) (h : knownCode code = false) :
    RefusedWith (.unknownCode code ops) s .badCode :=
  refusedWith_of_accepted hr rfl (decodeAndTake_of_error (by simp [decodeRequest, h]) _)

theorem refused_of_badLength (hr : s.canReceive = true) (hk : knownCode code = true)
    (h : readRequest .unit code ops = none) : RefusedWith (.unknownCode code ops) s .badLength :=
  refusedWith_of_accepted hr rfl (decodeAndTake_of_error (by simp [decodeRequest, hk, h]) _)

/-! ## Broadcasts (R179) -/

/-- R177, R179: an accepted broadcast. -/
theorem acceptBroadcast_link {data : List Byte} (hr : s.canReceive = true)
    (hs : SameService (serveSupervision s) (f (serveSupervision s)).1)
    (ht : TimerStarts (serveSupervision s) (f (serveSupervision s)).1) :
    let t := acceptBroadcast data f s
    t.link.receiver = .unaddressed ∧ t.link.de = s.link.de ∧ t.link.periodic = .running 0 s.config.supervisionPeriod ∧
      t.stops.conditions.link = none ∧ (startsTimer s t → t.link.noticeTimer = .running 0 s.config.supervisionPeriod) ∧
      (¬startsTimer s t → t.link.noticeTimer = servedTimer s) := by
  obtain ⟨hp, hc, -, -, hd⟩ := hs.served
  rw [acceptBroadcast_of_canReceive s data f hr]
  exact ⟨rfl, hd, hp, hc, ht.served⟩

theorem broadcastIgnored_idle (h : broadcastCode code = false) (hr : s.canReceive = true) :
    ∃ t, exec (.broadcastIgnored code ops) s = .next t ∧ OnlyLink s t ∧ t.link.receiver = .unaddressed ∧
      t.link.de = s.link.de ∧ t.link.periodic = .running 0 s.config.supervisionPeriod ∧
      t.link.noticeTimer = servedTimer s := by
  have hf : (broadcastRequest code ops (serveSupervision s)).1 = serveSupervision s := by simp [broadcastRequest, h, accept]
  have he : acceptBroadcastFrame code ops s = endBroadcast (code :: ops) (serveSupervision s) := by
    rw [acceptBroadcastFrame, acceptBroadcast_of_canReceive s _ _ hr, hf]
  refine ⟨_, rfl, ?_⟩
  rw [he]
  exact ⟨by rw [serveSupervision_eq]; rfl, rfl, rfl, rfl, by rw [serveSupervision_eq]; rfl⟩

/-- The requests that a broadcast executes. -/
def broadcastRequests (i : Instr) : Prop :=
  i = .stop .broadcast ∨ (∃ m, i = .takeGo .broadcast m) ∨ ∃ n x y z a, i = .targetSet .broadcast n x y z a

theorem exec_broadcast (h : broadcastRequests i) (s : State) :
    ∃ data, exec i s = .next (acceptBroadcast data (takeRequest i) s) := by
  rcases h with rfl | ⟨m, rfl⟩ | ⟨n, x, y, z, a, rfl⟩ <;> exact ⟨_, rfl⟩

theorem broadcast_request (h : broadcastRequests i) (hr : s.canReceive = true) :
    ∃ t, exec i s = .next t ∧ t.link.receiver = .unaddressed ∧ t.link.de = s.link.de ∧
      t.link.periodic = .running 0 s.config.supervisionPeriod ∧ t.stops.conditions.link = none ∧
      (startsTimer s t → t.link.noticeTimer = .running 0 s.config.supervisionPeriod) ∧
      (¬startsTimer s t → t.link.noticeTimer = servedTimer s) := by
  obtain ⟨data, hd⟩ := exec_broadcast h s
  refine ⟨_, hd, acceptBroadcast_link hr (takeRequest_taken i _).service (timerStarts_request ?_ ?_ _)⟩
  all_goals rcases h with rfl | ⟨m, rfl⟩ | ⟨n, x, y, z, a, rfl⟩ <;> exact nofun

/-- R179: a request that a broadcast carries does to everything but the link what a unit frame's does. -/
theorem acceptBroadcast_eq_acceptUnit {g : State → State × Reply} {data : List Byte} (hr : s.canReceive = true)
    (hg : f = g) : acceptBroadcast data f s = { acceptUnit g s with link := (acceptBroadcast data f s).link } := by
  subst hg
  rw [acceptBroadcast_of_canReceive s data f hr, acceptUnit_of_canReceive s f hr]
  rfl

/-- Settles O15: by the layouts' lengths for what is no request, and by the acceptance for the broadcasts. -/
theorem framesThatAreNoRequest : Obligations.FramesThatAreNoRequest := by
  refine ⟨fun code ops s hr => ⟨refused_of_badCode hr, fun n hn hl => ?_, fun h => ?_, fun m1 m0 rest hc ho hl => ?_,
    fun n t1 t0 m1 m0 rest hc ho hl => ?_, fun h n rest hc h3 ho hl => ?_⟩,
    fun s hr => ⟨fun code ops h => broadcastIgnored_idle h hr, fun i j h => ?_, fun i h => broadcast_request h hr⟩⟩
  · exact refused_of_badLength hr (knownCode_of_operandBytes hn)
      (Option.eq_none_iff_forall_ne_some.2 fun _ h => hl (readRequest_length h hn))
  · exact refused_of_badLength hr (knownCode_counted (h.imp And.left (Or.imp And.left And.left))) (readRequest_short h)
  · subst hc ho
    exact refused_of_badLength hr (by decide) (Option.eq_none_iff_forall_ne_some.2 fun _ h => hl (gotoOperands_length h))
  · subst hc ho
    exact refused_of_badLength hr (by decide) (Option.eq_none_iff_forall_ne_some.2 fun _ h => hl (markSetOperands_length h))
  · obtain ⟨b, t1, t0, rfl⟩ := List.length_eq_three.1 h3
    subst hc ho
    refine refused_of_badLength hr (by decide) (Option.eq_none_iff_forall_ne_some.2 fun _ h => hl ?_)
    obtain ⟨m, hm, -⟩ := Option.map_eq_some_iff.1 h
    exact readLensMap_length hm
  · rcases h with ⟨m, rfl, rfl⟩ | ⟨n, x, y, z, a, rfl, rfl⟩
    · exact ⟨_, _, rfl, rfl, acceptBroadcast_eq_acceptUnit hr rfl⟩
    · exact ⟨_, _, rfl, rfl, acceptBroadcast_eq_acceptUnit hr rfl⟩

/-! ## The bytes of a request read again -/

@[simp] theorem word16_bytes (w : BitVec 16) : word16 (BitVec.ofNat 8 (w.toNat / 256)) (BitVec.setWidth 8 w) = w := by
  refine BitVec.eq_of_toNat_eq ?_
  have h := w.isLt
  simp only [word16, BitVec.toNat_setWidth, BitVec.toNat_ofNat]
  omega

@[simp] theorem word32_bytes (w : BitVec 32) : word32 (BitVec.ofNat 8 (w.toNat / 16777216)) (BitVec.ofNat 8 (w.toNat / 65536))
    (BitVec.ofNat 8 (w.toNat / 256)) (BitVec.setWidth 8 w) = w := by
  refine BitVec.eq_of_toNat_eq ?_
  have h := w.isLt
  simp only [word32, BitVec.toNat_setWidth, BitVec.toNat_ofNat]
  omega

theorem words32_bytes (ws : List (BitVec 32)) : words32 (ws.flatMap bytes32) = some ws := by
  induction ws with
  | nil => rfl
  | cons w ws ih => simp [bytes32, u32, words32] at ih ⊢; exact ih

theorem flatMap_bytes32_length (ws : List (BitVec 32)) : (ws.flatMap bytes32).length = 4 * ws.length :=
  words32_length (words32_bytes ws)

theorem maskedWords_bytes {m : ChannelMask} {ws : List (BitVec 32)} (h : ws.length = maskCount m) :
    maskedWords m (ws.flatMap bytes32) = some ws := by
  rw [maskedWords, if_pos (by rw [flatMap_bytes32_length, h]), words32_bytes]

theorem mapPoints_bytes (ps : List MapPointOperands) :
    mapPoints (ps.flatMap fun p => bytes32 p.distance ++ bytes16 p.count) = some ps := by
  induction ps with
  | nil => rfl
  | cons p ps ih => simp [bytes32, bytes16, u32, u16, mapPoints] at ih ⊢; exact ih

theorem mapPoints_length (ps : List MapPointOperands) :
    (ps.flatMap fun p => bytes32 p.distance ++ bytes16 p.count).length = 6 * ps.length := by
  induction ps with
  | nil => rfl
  | cons p ps ih => simp [bytes32, bytes16, u32, u16] at ih ⊢; omega

theorem readCue_bytes (q : CueOperands) : readCue (cueBytes q) = some q := by
  simp [cueBytes, bytes32, bytes16, u32, u16, readCue]

theorem readZone_bytes (z : ZoneOperands) : readZone (zoneBytes z) = some z := by
  simp [zoneBytes, bytes32, u32, readZone, words32]

theorem readLensMap_bytes {m : LensMapOperands} (h : m.points.length = m.pointCount.toNat) :
    readLensMap (lensMapBytes m) = some m := by
  have hl := mapPoints_length m.points
  have hp := mapPoints_bytes m.points
  simp only [lensMapBytes, bytes16, u16, readLensMap, List.cons_append, List.nil_append] at hl hp ⊢
  rw [if_pos (by rw [hl, h]), hp]
  simp

theorem decodeRequest_of_read (hk : knownCode code = true) (h : readRequest o code ops = some i) :
    decodeRequest o code ops = .ok i := by
  simp [decodeRequest, hk, h]

/-- Settles O16: each layout reads the bytes that its request writes. -/
theorem requestsAreReadAsSent : Obligations.RequestsAreReadAsSent := by
  intro i code ops h hc hu hb
  cases i <;> simp only [requestBytes, Option.some.injEq, reduceCtorEq, List.cons.injEq, List.cons_append] at h
  case unknownCode c o => exact absurd rfl (hu c o)
  case broadcastIgnored c o => exact absurd rfl (hb c o)
  all_goals
    obtain ⟨rfl, rfl⟩ := h
    refine decodeRequest_of_read (by decide) ?_
  case goto m ps =>
    have := maskedWords_bytes (by simpa [countsMatch] using hc)
    simp [readRequest, bytes16, u16, gotoOperands, this]
  case markSet n t m vs =>
    have := maskedWords_bytes (by simpa [countsMatch] using hc)
    simp [readRequest, bytes16, u16, markSetOperands, this]
  case takeCueInsert n k q => simp [readRequest, cueOperands, readCue_bytes]
  case takeCueReplace n k q => simp [readRequest, cueOperands, readCue_bytes]
  case zoneSet z => simp [readRequest, readZone_bytes]
  case lensMapSet m => simp [readRequest, readLensMap_bytes (by simpa [countsMatch] using hc)]
  all_goals simp [readRequest, requestOrigin, bytes32, bytes16, u32, u16, noOperand, oneByte, twoBytes, oneMask, byteWord16,
    byteWord32, twoBytesWord16, byteTwoWords16, targetOperands]

end Decoding

end Sys2Proof.Machine

/-! The receiver: characters of a frame (R174 to R176), and the reading of characters from the line (R172). -/

namespace Sys2Proof.Machine

section Receiving

variable {i : Instr} {s : State} {o : Origin} {v : Byte} {bytes : List Byte}

/-! ## Data characters -/

theorem canReceive_of_running (hr : s.running = true) (ha : s.link.receiver ≠ .answering) : s.canReceive = true := by
  simp [State.canReceive, hr, ha]

@[simp] theorem receivingState_receiver : (receivingState o bytes s).link.receiver = .receiving o := rfl

@[simp] theorem receivingState_running : (receivingState o bytes s).running = s.running := rfl

theorem exec_dataCharacter (hr : s.running = true) (ha : s.link.receiver ≠ .answering) (e : Bool) :
    exec (.dataCharacter v e) s = .next (dataCharacter v e s) := by
  show Host.Outcome.next _ = _
  rw [if_pos (canReceive_of_running hr ha)]

/-- R175: LEN. -/
theorem exec_length (hr : s.running = true) (ha : s.link.receiver = .addressed o) :
    exec (.dataCharacter v false) s = .next (takeLength o v s) := by
  rw [exec_dataCharacter hr (by rw [ha]; exact nofun), dataCharacter, ha]
  rfl

/-- R175: a byte after LEN. -/
theorem exec_byte (hr : s.running = true) (ha : s.link.receiver = .receiving o) :
    exec (.dataCharacter v false) s = .next (takeByte o v s) := by
  rw [exec_dataCharacter hr (by rw [ha]; exact nofun), dataCharacter, ha]
  rfl

theorem takeLength_of_range (h1 : 1 ≤ v.toNat) (h2 : v.toNat ≤ 250) (s : State) :
    takeLength o v s = receivingState o [v] s := by
  rw [takeLength, if_pos (natRange_iff.2 ⟨h1, h2⟩)]
  rfl

theorem takeByte_of_incomplete (ha : s.link.receiver = .receiving o) (hf : frameComplete (s.link.buffer ++ [v]) = false) :
    takeByte o v s = receivingState o (s.link.buffer ++ [v]) s := by
  simp only [takeByte, hf, receivingState, ← ha]
  rfl

theorem frameComplete_append {len : Byte} {rest : List Byte} :
    frameComplete (len :: rest ++ [v]) = decide (len.toNat ≤ rest.length) := by
  simp [frameComplete]

theorem foldl_add_mod (bs : List Byte) {x y : Nat} (h : x % 256 = y % 256) :
    bs.foldl (fun n b => n + b.toNat) x % 256 = bs.foldl (fun n b => n + b.toNat) y % 256 := by
  induction bs generalizing x y with
  | nil => exact h
  | cons b bs ih => exact ih (Nat.ModEq.add_right b.toNat h)

theorem byteSum_toNat (bs : List Byte) (a : Byte) :
    (bs.foldl (· + ·) a).toNat = bs.foldl (fun n b => n + b.toNat) a.toNat % 256 := by
  induction bs generalizing a with
  | nil => simp [Nat.mod_eq_of_lt a.isLt]
  | cons b bs ih =>
    rw [List.foldl_cons, ih, List.foldl_cons]
    exact foldl_add_mod bs (by simp)

theorem byteSum_eq_zero_iff (bs : List Byte) : byteSum bs = 0#8 ↔ sumsToZero bs := by
  rw [sumsToZero, ← BitVec.toNat_inj, byteSum, byteSum_toNat]
  rfl

theorem byteSum_append (bs : List Byte) : byteSum (bs ++ [v]) = byteSum bs + v := by
  simp [byteSum, List.foldl_append]

/-! ## A whole frame (R175, R177) -/

/-- The bytes of a frame before its last one are added to the buffer one by one. -/
theorem deliver_receiving (hr : s.running = true) {len : Byte} (cs : List Byte) :
    ∀ (bs rest : List Byte), rest.length + bs.length ≤ len.toNat →
      deliver (bs ++ cs) (receivingState o (len :: rest) s) = deliver cs (receivingState o (len :: rest ++ bs) s)
  | [], rest, _ => by simp
  | b :: bs, rest, h => by
    simp only [List.length_cons] at h
    have hf : frameComplete ((receivingState o (len :: rest) s).link.buffer ++ [b]) = false := by
      show frameComplete (len :: rest ++ [b]) = false
      rw [frameComplete_append]
      simp
      omega
    have hb : exec (.dataCharacter b false) (receivingState o (len :: rest) s) =
        .next (receivingState o (len :: (rest ++ [b])) s) := by
      rw [exec_byte (s := receivingState o (len :: rest) s) (o := o) hr rfl, takeByte_of_incomplete (o := o) rfl hf]
      rfl
    show deliver (b :: (bs ++ cs)) _ = _
    rw [deliver, hb]
    refine (deliver_receiving hr cs bs (rest ++ [b]) (by simp; omega)).trans ?_
    simp

theorem framed_eq (data : List Byte) : framed data =
    BitVec.ofNat 8 data.length :: (data ++ [checkByte (BitVec.ofNat 8 data.length :: data)]) := rfl

theorem dropLast_framed (data : List Byte) : (framed data).dropLast = BitVec.ofNat 8 data.length :: data := by
  rw [framed_eq, ← List.cons_append, List.dropLast_concat]

theorem byteSum_framed (data : List Byte) : byteSum (framed data) = 0#8 := by
  rw [framed_eq, ← List.cons_append, byteSum_append, checkByte]
  simp

/-- R174, R175, R177: LEN, CODE, operands and CHECK, arriving one by one, bring the frame's acceptance. -/
theorem deliver_framed {code : Byte} {ops : List Byte} (hr : s.running = true) (ha : s.link.receiver = .addressed o)
    (hl : (code :: ops).length ≤ 250) :
    deliver (framed (code :: ops)) s =
      .next (acceptFrame o (framed (code :: ops)) (receivingState o (framed (code :: ops)).dropLast s)) := by
  set data := code :: ops with hdata
  have hlen : (BitVec.ofNat 8 data.length).toNat = data.length := by simp; omega
  have hpos : 1 ≤ data.length := by simp [hdata]
  have hlast : exec (.dataCharacter (checkByte (BitVec.ofNat 8 data.length :: data)) false)
      (receivingState o (framed data).dropLast s) =
      .next (acceptFrame o (framed data) (receivingState o (framed data).dropLast s)) := by
    rw [exec_byte (s := receivingState o (framed data).dropLast s) (o := o) hr rfl, takeByte]
    have hb : (receivingState o (framed data).dropLast s).link.buffer ++ [checkByte (BitVec.ofNat 8 data.length :: data)] =
        framed data := by
      show (framed data).dropLast ++ _ = _
      rw [dropLast_framed]
      rfl
    have hf : frameComplete (framed data) = true := by
      rw [framed_eq, ← List.cons_append, frameComplete_append, hlen]
      simp
    simp only [hb, hf, byteSum_framed, if_true]
  rw [framed_eq, deliver, exec_length hr ha, takeLength_of_range (by omega) (by omega)]
  refine (deliver_receiving hr _ data [] (by simp; omega)).trans ?_
  have hd : BitVec.ofNat 8 data.length :: [] ++ data = (framed data).dropLast := (dropLast_framed data).symm
  rw [deliver, hd, hlast]
  rfl

theorem requestBytes_cons {data : List Byte} (h : requestBytes i = some data) : ∃ code ops, data = code :: ops := by
  cases data with
  | cons code ops => exact ⟨code, ops, rfl⟩
  | nil => cases i <;> simp [requestBytes] at h

/-- The codes that a broadcast executes are those of the requests that it may carry. -/
theorem broadcastCode_of_request {code : Byte} {ops : List Byte} (h : requestBytes i = some (code :: ops))
    (ho : requestOrigin i = .broadcast) (hb : ∀ c o, i ≠ .broadcastIgnored c o) : broadcastCode code = true := by
  cases i <;> simp only [requestOrigin, reduceCtorEq] at ho
  case broadcastIgnored c o => exact absurd rfl (hb c o)
  all_goals
    simp only [requestBytes, Option.some.injEq, List.cons_append, List.cons.injEq] at h
    rw [← h.1]
    rfl

theorem acceptFrame_unit (code : Byte) (ops : List Byte) (s : State) :
    acceptFrame .unit (framed (code :: ops)) s = acceptUnitFrame code ops s := by
  show acceptUnitFrame code (ops ++ [_]).dropLast s = _
  rw [List.dropLast_concat]

theorem acceptFrame_broadcast (code : Byte) (ops : List Byte) (s : State) :
    acceptFrame .broadcast (framed (code :: ops)) s = acceptBroadcastFrame code ops s := by
  show acceptBroadcastFrame code (ops ++ [_]).dropLast s = _
  rw [List.dropLast_concat]

/-- R175, R177: the acceptance of a request's frame is the request's command. -/
theorem exec_eq_acceptFrame {data : List Byte} (hd : requestBytes i = some data) (hc : countsMatch i = true) (s : State) :
    exec i s = .next (acceptFrame (requestOrigin i) (framed data) s) := by
  obtain ⟨code, ops, rfl⟩ := requestBytes_cons hd
  by_cases hu : ∃ c o, i = .unknownCode c o
  · obtain ⟨c, o, rfl⟩ := hu
    simp only [requestBytes, Option.some.injEq, List.cons.injEq] at hd
    obtain ⟨rfl, rfl⟩ := hd
    exact congrArg _ (acceptFrame_unit _ _ _).symm
  by_cases hb : ∃ c o, i = .broadcastIgnored c o
  · obtain ⟨c, o, rfl⟩ := hb
    simp only [requestBytes, Option.some.injEq, List.cons.injEq] at hd
    obtain ⟨rfl, rfl⟩ := hd
    exact congrArg _ (acceptFrame_broadcast _ _ _).symm
  simp only [not_exists] at hu hb
  have hr : decodeAndTake (requestOrigin i) code ops = takeRequest i := by
    funext u
    simp only [decodeAndTake, requestsAreReadAsSent i code ops hd hc hu hb]
  rw [exec_request hd hu hb]
  cases ho : requestOrigin i with
  | unit =>
    rw [ho] at hr
    simp only [acceptFrame_unit, acceptUnitFrame, hr, acceptFrom]
  | broadcast =>
    rw [ho] at hr
    have hx : broadcastRequest code ops = takeRequest i := by
      funext u
      rw [broadcastRequest, if_pos (broadcastCode_of_request hd ho hb), hr]
    simp only [acceptFrame_broadcast, acceptBroadcastFrame, hx, acceptFrom]

/-- Settles O17: the characters build the frame up, and the last one brings its acceptance. -/
theorem charactersOfAFrameRunItsRequest : Obligations.CharactersOfAFrameRunItsRequest := by
  intro i s data hd hw hr ha
  simp only [wellFormed, Bool.and_eq_true, fitsFrame, hd, decide_eq_true_eq] at hw
  obtain ⟨⟨⟨hl, hc⟩, -⟩, -⟩ := hw
  rw [exec_eq_acceptFrame hd hc]
  obtain ⟨code, ops, rfl⟩ := requestBytes_cons hd
  exact deliver_framed hr ha hl

/-! ## Address characters, discards, the end of a reply -/

theorem addressed_eq (a : Nat) (v : Byte) :
    (addressed a v = .addressed .broadcast ↔ v = 0#8) ∧
      (addressed a v = .addressed .unit ↔ v ≠ 0#8 ∧ v.toNat = a) ∧
      (addressed a v = .unaddressed ↔ v ≠ 0#8 ∧ v.toNat ≠ a) := by
  unfold addressed
  split
  · simp_all
  · split <;> simp_all

theorem frameInProgress_iff : frameInProgress s.link = true ↔
    ∃ o, s.link.receiver = .addressed o ∨ s.link.receiver = .receiving o := by
  unfold frameInProgress
  cases s.link.receiver <;> simp

theorem discardFrame_eq (s : State) : discardFrame s = discarded s := rfl

/-- R174, R176: what ends a frame in progress. -/
theorem exec_discards (hr : s.running = true) (h : s.link.receiver = .addressed o ∨ s.link.receiver = .receiving o) :
    (∀ v, exec (.addressCharacter v true) s = .next (discarded s) ∧ exec (.dataCharacter v true) s = .next (discarded s)) ∧
      exec .lineBreak s = .next (discarded s) ∧
      (s.link.gapRunning = true → exec .interCharacterGap s = .next (discarded s)) := by
  have hp : frameInProgress s.link = true := frameInProgress_iff.2 ⟨o, h⟩
  have ha : s.link.receiver ≠ .answering := by rcases h with h | h <;> rw [h] <;> exact nofun
  refine ⟨fun v => ⟨?_, ?_⟩, ?_, fun hg => ?_⟩
  · show Host.Outcome.next _ = _
    rw [if_pos (canReceive_of_running hr ha), addressCharacter, if_pos rfl, if_pos hp, discardFrame_eq]
  · rw [exec_dataCharacter hr ha, dataCharacter]
    rcases h with h | h <;> rw [h] <;> rfl
  · show Host.Outcome.next _ = _
    rw [whileRunning_of_running _ _ hr, if_pos hp, discardFrame_eq]
  · show Host.Outcome.next _ = _
    rw [whileRunning_of_running _ _ hr, if_pos (by rw [hp, hg]; rfl), discardFrame_eq]

theorem exec_unaddressed (hr : s.running = true) (h : s.link.receiver = .unaddressed) (v : Byte) (e : Bool) :
    exec (.dataCharacter v e) s = .next s ∧ exec .lineBreak s = .next s := by
  constructor
  · rw [exec_dataCharacter hr (by rw [h]; exact nofun), dataCharacter, h]
  · show Host.Outcome.next _ = _
    rw [whileRunning_of_running _ _ hr, if_neg (by simp [frameInProgress, h])]

/-! ## The reading of characters from the line (R172) -/

/-- The samples of bits sent one after another: sixteen of each. -/
theorem sampled_getD {bits rest : List Bool} {k j : Nat} {b d : Bool} (hj : j < 16) (h : bits[k]? = some b) :
    (sampled bits ++ rest).getD (16 * k + j) d = b := by
  induction bits generalizing k with
  | nil => simp at h
  | cons a bits ih =>
    rw [sampled, List.flatMap_cons, List.append_assoc]
    cases k with
    | zero =>
      obtain rfl : a = b := by simpa using h
      rw [List.getD_append _ _ _ _ (by simpa using hj), List.getD_replicate _ (by omega)]
    | succ k =>
      rw [List.getD_append_right _ _ _ _ (by simp; omega)]
      simp only [List.length_replicate]
      rw [show 16 * (k + 1) + j - 16 = 16 * k + j by omega]
      exact ih (by simpa using h)

theorem sampled_length (bits : List Bool) : (sampled bits).length = 16 * bits.length := by
  induction bits with
  | nil => rfl
  | cons b bits ih => simp [sampled] at ih ⊢; omega

theorem sampledBit_eq (samples : List Bool) (k : Nat) : sampledBit samples k =
    decide (2 ≤ (samples.getD (16 * k + 6) true).toNat + (samples.getD (16 * k + 7) true).toNat +
      (samples.getD (16 * k + 8) true).toNat) := by
  have h : ∀ a b c : Bool, majority a b c = decide (2 ≤ a.toNat + b.toNat + c.toNat) := by decide
  exact h _ _ _

theorem sampledBit_sampled {bits rest : List Bool} {k : Nat} {b : Bool} (h : bits[k]? = some b) :
    sampledBit (sampled bits ++ rest) k = b := by
  have hm : ∀ b : Bool, majority b b b = b := by decide
  rw [sampledBit, sampled_getD (by omega) h, sampled_getD (by omega) h, sampled_getD (by omega) h, hm]

theorem byte_of_bits : ∀ v : Byte, BitVec.ofNat 8
    ([0, 1, 2, 3, 4, 5, 6, 7].foldr (fun i n => (v.getLsbD i).toNat + 2 * n) 0) = v := by decide

/-- R172: a character is read from the majorities of its bits; the stop bit tells a framing error. -/
theorem readCharacter_of_bits {samples : List Bool} {framing flag : Bool}
    (h : ∀ k b, ((characterBits v flag).set 10 (!framing))[k]? = some b → sampledBit samples k = b) :
    readCharacter samples = .character v flag framing := by
  have hv : sampledByte samples = v := by
    unfold sampledByte
    conv_rhs => rw [← byte_of_bits v]
    simp only [List.foldr_cons, List.foldr_nil]
    rw [h 1 _ rfl, h 2 _ rfl, h 3 _ rfl, h 4 _ rfl, h 5 _ rfl, h 6 _ rfl, h 7 _ rfl, h 8 _ rfl]
  rw [readCharacter, h 0 false rfl, h 9 flag rfl, h 10 (!framing) rfl, hv]
  simp

theorem readCharacter_sampled (v : Byte) (flag : Bool) (rest : List Bool) :
    readCharacter (sampled (characterBits v flag) ++ rest) = .character v flag false :=
  readCharacter_of_bits fun _ _ hk => sampledBit_sampled hk

theorem readLine_nil (fuel : Nat) (level : Bool) : readLine fuel level [] = [] := by cases fuel <;> rfl

theorem readLine_idle (n fuel : Nat) (rest : List Bool) :
    readLine (n + fuel) true (List.replicate n true ++ rest) = readLine fuel true rest := by
  induction n with
  | zero => simp
  | succ n ih =>
    rw [show n + 1 + fuel = n + fuel + 1 by omega, List.replicate_succ, List.cons_append, readLine]
    simpa using ih

theorem readLine_true (n fuel : Nat) : readLine fuel true (List.replicate n true) = [] := by
  induction n generalizing fuel with
  | zero => exact readLine_nil _ _
  | succ n ih =>
    cases fuel with
    | zero => rfl
    | succ fuel => rw [List.replicate_succ, readLine]; simpa using ih fuel

theorem readLine_character (fuel : Nat) (v : Byte) (flag : Bool) (rest : List Bool) :
    readLine (fuel + 1) true (sampled (characterBits v flag) ++ rest) =
      .character v flag false :: readLine fuel true rest := by
  obtain ⟨tail, ht⟩ : ∃ tail, sampled (characterBits v flag) = false :: tail := ⟨_, rfl⟩
  have hl : tail.length = 175 := by
    have := sampled_length (characterBits v flag)
    rw [ht] at this
    simpa [characterBits] using this
  have hr := readCharacter_sampled v flag rest
  have hlast : (tail ++ rest).getD 174 true = true := by
    have := sampled_getD (bits := characterBits v flag) (rest := rest) (k := 10) (j := 15) (d := true) (by omega) rfl
    rw [ht] at this
    exact this
  rw [ht, List.cons_append] at hr ⊢
  rw [readLine]
  simp only [hr, samplesUsed, hlast, List.length_append, hl, Bool.not_false, Bool.and_self, if_true]
  rw [if_neg (by omega), show 176 - 1 = tail.length by omega, List.drop_left]

/-- R172: characters sent bit by bit, the line idle between them or not, are read one after another. -/
theorem readLine_characters (cs : List (Nat × Byte × Bool)) (fuel : Nat)
    (h : (cs.flatMap fun c => List.replicate c.1 true ++ sampled (characterBits c.2.1 c.2.2)).length ≤ fuel) :
    readLine fuel true (cs.flatMap fun c => List.replicate c.1 true ++ sampled (characterBits c.2.1 c.2.2)) =
      cs.map fun c => .character c.2.1 c.2.2 false := by
  induction cs generalizing fuel with
  | nil => exact readLine_nil _ _
  | cons c cs ih =>
    have hl : (sampled (characterBits c.2.1 c.2.2)).length = 176 := by rw [sampled_length]; rfl
    rw [List.flatMap_cons, List.length_append, List.length_append, List.length_replicate, hl] at h
    rw [List.flatMap_cons, List.append_assoc, List.map_cons]
    obtain ⟨n, rfl⟩ : ∃ n, fuel = c.1 + (n + 1) := ⟨fuel - c.1 - 1, by omega⟩
    rw [readLine_idle, readLine_character, ih n (by omega)]

/-- R172: a low of at most seven samples is noise. -/
theorem readLine_noise (low after fuel : Nat) (h : low ≤ 7) :
    (readLine fuel true (List.replicate low false ++ List.replicate after true)).filterMap readingCommand = [] := by
  cases low with
  | zero => simp [readLine_true]
  | succ low =>
    cases fuel with
    | zero => rfl
    | succ fuel =>
      set rest := List.replicate low false ++ List.replicate after true with hrest
      have high : ∀ k, low ≤ k → rest.getD k true = true := by
        intro k hk
        rw [hrest, List.getD_append_right _ _ _ _ (by simpa using hk)]
        by_cases ha : k - low < after
        · rw [List.length_replicate, List.getD_replicate _ ha]
        · rw [List.getD_eq_default _ _ (by simpa using ha)]
      have hn : readCharacter (false :: rest) = .noise := by
        rw [readCharacter, if_pos]
        have hm : ∀ a : Bool, majority a true true = true := by decide
        show majority _ (rest.getD 6 true) (rest.getD 7 true) = true
        rw [high 6 (by omega), high 7 (by omega), hm]
      have hd : rest.drop 8 = List.replicate (low + after - 8) true := by
        rw [hrest, List.drop_append, List.drop_eq_nil_of_le (by simp; omega)]
        simp
        omega
      rw [List.replicate_succ, List.cons_append, ← hrest, readLine]
      simp only [hn, samplesUsed, Bool.not_false, Bool.and_self, if_true]
      split
      · rfl
      · rw [high 7 (by omega), hd, readLine_true]
        rfl

theorem readingCommand_characters (cs : List (Nat × Byte × Bool)) :
    (cs.map fun c => LineReading.character c.2.1 c.2.2 false).filterMap readingCommand =
      cs.map fun c => if c.2.2 = true then .addressCharacter c.2.1 false else .dataCharacter c.2.1 false := by
  induction cs with
  | nil => rfl
  | cons c cs ih =>
    obtain ⟨n, v, flag⟩ := c
    cases flag <;> simp [readingCommand, ih]

/-- R175: a byte after LEN that does not complete the frame. -/
theorem exec_byte_incomplete {len : Byte} {rest : List Byte} (hr : s.running = true)
    (ha : s.link.receiver = .receiving o) (hb : s.link.buffer = len :: rest) (hl : rest.length < len.toNat) :
    exec (.dataCharacter v false) s = .next (receivingState o (s.link.buffer ++ [v]) s) := by
  rw [exec_byte hr ha, takeByte_of_incomplete ha]
  rw [hb, frameComplete_append]
  simpa using hl

/-- R176: a frame whose sum is not 0. -/
theorem exec_byte_wrongSum {len : Byte} {rest : List Byte} (hr : s.running = true)
    (ha : s.link.receiver = .receiving o) (hb : s.link.buffer = len :: rest) (hl : rest.length = len.toNat)
    (hs : ¬sumsToZero (s.link.buffer ++ [v])) : exec (.dataCharacter v false) s = .next (discarded s) := by
  have hf : frameComplete (s.link.buffer ++ [v]) = true := by rw [hb, frameComplete_append]; simp [hl]
  rw [exec_byte hr ha, takeByte]
  simp only [hf, if_true]
  rw [if_neg (fun h => hs ((byteSum_eq_zero_iff _).1 h)), discardFrame_eq]

/-- Settles O18: the receiver character by character, and the line sample by sample. -/
theorem receiverFollowsTheLine : Obligations.ReceiverFollowsTheLine := by
  refine ⟨fun s v h => ?_, fun s hr => ⟨fun o h => exec_discards hr h, fun o v h => ⟨fun hv => ?_, fun h1 h2 => ?_⟩,
    fun o v len rest h hb hl => exec_byte_incomplete hr h hb hl, fun o v len rest h hb hl hs => exec_byte_wrongSum hr h hb hl hs,
    fun h v e => exec_unaddressed hr h v e, fun h => ?_⟩, fun samples => ?_, fun cs => ?_, fun before low after h => ?_⟩
  · refine ⟨takeAddress v s, ?_, rfl, rfl, ?_⟩
    · show Host.Outcome.next _ = _
      rw [if_pos h]
      rfl
    · obtain ⟨h1, h2, h3⟩ := addressed_eq s.link.address v
      exact ⟨h1, h2, h3, by simp [takeAddress]⟩
  · have : natRange 1 250 v.toNat = false := by
      rw [← Bool.not_eq_true, natRange_iff]
      omega
    rw [exec_length hr h, takeLength, if_neg (by simp [this]), discardFrame_eq]
  · rw [exec_length hr h, takeLength_of_range h1 h2]
  · show Host.Outcome.next _ = _
    rw [whileRunning_of_running _ _ hr, if_pos h]
  · dsimp only
    simp only [← sampledBit_eq]
    exact ⟨fun h => if_pos h, fun v flag framing h => readCharacter_of_bits h⟩
  · rw [lineCommands, readLine_characters cs _ le_rfl, readingCommand_characters]
  · rw [lineCommands, List.append_assoc]
    obtain ⟨n, hn⟩ : ∃ n, (List.replicate before true ++ (List.replicate low false ++ List.replicate after true)).length =
        before + n := ⟨_, by rw [List.length_append, List.length_replicate]⟩
    rw [hn, readLine_idle, readLine_noise low after n h]

end Receiving

end Sys2Proof.Machine

/-! What a rise leaves: the latch, the first cause, the conditions and the crane state (R90 to R97); the supervision timers and
the expiry of LINK (R181 to R184, R96). -/

namespace Sys2Proof.Machine

/-! ## The rise of a cause -/

section Rises

variable {d : CauseDetail} {s : State}

/-- R95: a category B rise in READY. -/
theorem rise_of_ready (hb : categoryA (causeOf d) = false) (hr : s.crane.state = .ready) :
    rise d s = entryBReady (restFor d (latchCause d s)) := by
  have h := rise_risen d s
  revert h
  generalize rise d s = t
  intro h
  cases h with
  | ignored _ state => simp [hr] at state
  | trips a => simp [hb] at a
  | stops => rfl
  | parks _ arming => simp [hr] at arming
  | stays _ state => simp [hr] at state
  | latched state => simp [hr] at state

/-- R93: a category A rise trips the crane. -/
theorem rise_of_categoryA (ha : categoryA (causeOf d) = true) (ht : s.crane.state ≠ .tripped) :
    rise d s = entryA (latchCause d s) := by
  have h := rise_risen d s
  revert h
  generalize rise d s = t
  intro h
  cases h with
  | ignored zone => simp [zone, categoryA] at ha
  | trips => rfl
  | stops b => simp [ha] at b
  | parks b => simp [ha] at b
  | stays b => simp [ha] at b
  | latched state => simp [ht, ha] at state

theorem rise_state_of_ready (hb : categoryA (causeOf d) = false) (hr : s.crane.state = .ready) :
    (rise d s).crane.state = .stopping := by rw [rise_of_ready hb hr, entryBReady_state]

/-- What of the stop record no entry changes. -/
structure SameLatches (q r : StopRecord) : Prop where
  first : r.first = q.first
  latches : r.latches = q.latches
  conditions : r.conditions = q.conditions

variable {q : StopRecord}

theorem SameLatches.enterCrane {u : State} (h : SameLatches q u.stops) (st : CraneState) (x : StateExtra) :
    SameLatches q (enterCrane st x u).stops := by
  rw [enterCrane_stops]
  exact ⟨h.first, h.latches, h.conditions⟩

theorem sameLatches_of_stops {u : State} (h : u.stops = q) : SameLatches q u.stops := by
  rw [h]
  exact ⟨rfl, rfl, rfl⟩

theorem sameLatches_entryA (u : State) : SameLatches u.stops (entryA u).stops := by
  refine SameLatches.enterCrane ?_ _ _
  constructor <;> simp

theorem sameLatches_entryBReady (u : State) : SameLatches u.stops (entryBReady u).stops := by
  refine SameLatches.enterCrane ?_ _ _
  constructor <;> simp

theorem sameLatches_entryBArming (u : State) : SameLatches u.stops (entryBArming u).stops := by
  refine SameLatches.enterCrane (sameLatches_of_stops ?_) _ _
  simp [stopLiveHead]

/-- R90, R91: what a latching rise leaves of latches, first cause and conditions. -/
theorem rise_latched (hl : latches d s.crane.state = true) : SameLatches (latchCause d s).stops (rise d s).stops := by
  have h := rise_risen d s
  revert h
  generalize rise d s = t
  intro h
  have hv : (restFor d (latchCause d s)).stops = (latchCause d s).stops := restFor_stops _ _
  cases h with
  | ignored zone state => rw [(latches_false_iff d _).2 ⟨zone, state⟩] at hl; cases hl
  | trips => exact sameLatches_entryA _
  | stops => rw [← hv]; exact sameLatches_entryBReady _
  | parks => rw [← hv]; exact sameLatches_entryBArming _
  | stays _ _ t told => exact sameLatches_of_stops (by rw [told.stops, ← hv]; simp [stopLiveHead])
  | latched _ t told => exact sameLatches_of_stops (by rw [told.stops, hv])

/-- R90: the latch of the cause stands, with the detail it had or with this one. -/
theorem rise_latch (hl : latches d s.crane.state = true) :
    getCause (rise d s).stops.latches (causeOf d) = some ((getCause s.stops.latches (causeOf d)).getD d) := by
  rw [(rise_latched hl).latches, latchCause_latches]

theorem rise_conditions (d : CauseDetail) (s : State) : (rise d s).stops.conditions = s.stops.conditions := by
  cases hl : latches d s.crane.state with
  | true => rw [(rise_latched hl).conditions, latchCause_conditions]
  | false => rw [rise_of_not_latches s d hl]

theorem latches_of_ne_zone (h : causeOf d ≠ .zone) (st : CraneState) : latches d st = true := by
  rw [← Bool.not_eq_false, latches_false_iff]
  exact fun hz => h hz.1

end Rises

/-! ## The expiry of LINK -/

section Expiry

variable {s : State} {k : LinkKind}

/-- R96: a lens channel after a rise of LINK. -/
theorem chan_rise_link (k : LinkKind) (s : State) {c : Chan} (hc : isLens c = true) (ht : (s.chan c).owner ≠ .take) :
    (rise (.link k) s).chan c = if restHit s c = true then restedRecord (s.chan c) else s.chan c := by
  set v := restFor (.link k) (latchCause (.link k) s) with hv
  have hvc : v.chan c = if restHit s c = true then restedRecord (s.chan c) else s.chan c := by
    rw [hv]
    show (restLens _).chan c = _
    rw [chan_restLens]
    simp [restHit]
  have hvo : (v.chan c).owner ≠ .take := by
    rw [hvc]
    split
    next h => rw [show (restedRecord (s.chan c)).owner = .console from (restHit_iff.1 h).2.1]; exact nofun
    next => exact ht
  have hbody : isBody c = false := by simp [isBody, hc]
  have hhead : liveHead v c = false := by
    have : isHead c = false := by cases c <;> revert hc <;> decide
    simp [liveHead, this]
  have h := rise_risen (.link k) s
  rw [← hvc]
  revert h
  generalize rise (.link k) s = t
  intro h
  cases h with
  | ignored zone => cases zone
  | trips a => cases a
  | stops => rw [chan_entryBReady]; simp [hbody, ← hv, hvo]
  | parks => rw [chan_entryBArming, ← hv]; simp [hhead]
  | stays _ _ t told =>
    rw [chan_eq_of_channels told.channels.1, chan_stopLiveHead, ← hv]
    simp [hhead]
  | latched _ t told => rw [chan_eq_of_channels told.channels.1]

/-- R96: no open move holds a channel that a rise of LINK brought to rest. -/
theorem moves_rise_link (k : LinkKind) (s : State) {c : Chan} (hc : restHit s c = true) :
    ∀ m ∈ (rise (.link k) s).moves, m.remaining.get c = false := by
  intro m hm
  have hv := (rise_moves_rested (.link k) s).subset hm
  replace hv : m ∈ (restLens (latchCause (.link k) s)).moves := hv
  rw [restLens_eq, interruptMoves_moves] at hv
  obtain ⟨-, hout⟩ := mem_movesLeft.1 hv
  rw [← Bool.not_eq_true]
  intro hr
  have := hout c hr
  simp only [restHit, chan_latchCause] at this hc
  rw [this] at hc
  cases hc

/-- R182 to R184: what an expiry that finds LINK absent does, whatever the timers' counts. -/
theorem expireLink_rises {l : LinkRecord} (hl : { l with periodic := .stopped, noticeTimer := .stopped } =
      { s.link with periodic := .stopped, noticeTimer := .stopped }) (hc : s.stops.conditions.link = none) (n : Nat) :
    expireLink k { s with link := l, freeCount := n } = rise (.link k) (setCondition .link (some (.link k))
      { s with link := { s.link with periodic := .stopped, noticeTimer := .stopped }, freeCount := n }) := by
  simp only [expireLink, hc, hl]
  rfl

/-- s after an expiry of this timer that finds LINK absent. -/
def expired (k : LinkKind) (s : State) : State := rise (.link k) (setCondition .link (some (.link k))
  { s with link := { s.link with periodic := .stopped, noticeTimer := .stopped } })

theorem expireLink_ticked (k : LinkKind) (hc : s.stops.conditions.link = none) :
    expireLink k (tickLinkTimers s) = expired k s := expireLink_rises (k := k) rfl hc s.freeCount

theorem expired_link (k : LinkKind) (s : State) :
    (expired k s).link = { s.link with periodic := .stopped, noticeTimer := .stopped } :=
  (timed_rise (.link k) _).stays fun h => absurd h.2.2 nofun

theorem expired_condition (k : LinkKind) (s : State) : (expired k s).stops.conditions.link = some (.link k) := by
  rw [expired, rise_conditions]
  rfl

theorem expired_latch (k : LinkKind) (s : State) :
    (expired k s).stops.latches.link = some (s.stops.latches.link.getD (.link k)) :=
  rise_latch (d := .link k) (latches_of_ne_zone (by simp [causeOf]) _)

/-- R96: the lens channels after an expiry. -/
theorem expired_rests (k : LinkKind) (s : State) : ∀ c, isLens c = true →
    ((s.chan c).owner = .console → (s.chan c).drive = .active → (∀ m ∈ (expired k s).moves, m.remaining.get c = false) ∧
      (expired k s).chan c = { s.chan c with mode := .velocity, demand := some 0, target := none, inPosition := false }) ∧
    ((s.chan c).owner ≠ .console → (s.chan c).owner ≠ .take → (expired k s).chan c = s.chan c) := by
  intro c hc
  set u := setCondition .link (some (.link k))
    { s with link := { s.link with periodic := .stopped, noticeTimer := .stopped } } with hu
  refine ⟨fun ho hd => ?_, fun ho ht => ?_⟩
  · have hr : restHit u c = true := restHit_iff.2 ⟨hc, ho, hd⟩
    have ht : (u.chan c).owner ≠ .take := by rw [show (u.chan c).owner = .console from ho]; exact nofun
    exact ⟨moves_rise_link k u hr, by rw [expired, ← hu, chan_rise_link k u hc ht, if_pos hr]; rfl⟩
  · have hr : ¬restHit u c = true := fun h => ho (restHit_iff.1 h).2.1
    rw [expired, ← hu, chan_rise_link k u hc ht, if_neg hr]
    rfl

theorem expired_stopping (k : LinkKind) (hs : s.crane.state = .ready) : (expired k s).crane.state = .stopping :=
  rise_state_of_ready rfl hs

theorem timerDue_running {e p : Nat} (h : p ≤ e + 1) : timerDue (.running e p) = true := by
  simp [timerDue, tickTimer, timerReached, h]

/-- R181, R184: a timer event by which timers come due at it. -/
theorem exec_consoleTimer (hr : s.running = true) : exec .consoleTimerEvent s = .next (
    match timerDue s.link.periodic, timerDue s.link.noticeTimer with
    | false, false => tickLinkTimers s
    | true, false => expireLink .supervision (tickLinkTimers s)
    | false, true => expireLink .notice (tickLinkTimers s)
    | true, true => expireLink (if Config.periodicExpiresFirst s.freeCount then .supervision else .notice)
        { tickLinkTimers s with freeCount := s.freeCount + 1 }) := by
  show Host.Outcome.next _ = _
  rw [whileRunning_of_running _ _ hr]
  rfl

theorem exec_periodicExpiry (hr : s.running = true) (hd : timerDue s.link.periodic = true) :
    exec .periodicTimerExpiry s = .next (expireLink .supervision (tickLinkTimers s)) := by
  show Host.Outcome.next _ = _
  rw [whileRunning_of_running _ _ hr, if_pos hd]

theorem exec_noticeExpiry (hr : s.running = true) (hd : timerDue s.link.noticeTimer = true) :
    exec .noticeTimerExpiry s = .next (expireLink .notice (tickLinkTimers s)) := by
  show Host.Outcome.next _ = _
  rw [whileRunning_of_running _ _ hr, if_pos hd]

theorem TimerStarts.noticeTimer {t : State} (h : TimerStarts s t) : t.link.periodic = s.link.periodic ∧
    (startsTimer s t ∧ s.link.periodic ≠ .disarmed ∧ s.stops.conditions.link = none →
      t.link.noticeTimer = .running 0 s.config.supervisionPeriod) ∧
    (¬(startsTimer s t ∧ s.link.periodic ≠ .disarmed ∧ s.stops.conditions.link = none) →
      t.link.noticeTimer = s.link.noticeTimer) := by
  have ha : armed s.link = true ↔ s.link.periodic ≠ .disarmed := by simp [armed]
  rw [← ha]
  by_cases hs : startsTimer s t ∧ armed s.link = true ∧ s.stops.conditions.link = none
  · have hl := h.starts hs.1 hs.2.1 hs.2.2
    exact ⟨by rw [hl], fun _ => by rw [hl], fun hn => absurd hs hn⟩
  · have hl := h.stays hs
    exact ⟨by rw [hl], fun hn => absurd hn hs, fun _ => by rw [hl]⟩

/-- R183: of the commands that are no frame and no timer event, only a raise starts the notice timer. -/
theorem noticeTimer_of_event {i : Instr} {t : State} (hr : s.running = true) (hb : ¬bringsFrame i) (ht : ¬timerCommand i)
    (he : Effect i s t) : t.link.periodic = s.link.periodic ∧
    (startsTimer s t ∧ s.link.periodic ≠ .disarmed ∧ s.stops.conditions.link = none →
      t.link.noticeTimer = .running 0 s.config.supervisionPeriod) ∧
    (¬(startsTimer s t ∧ s.link.periodic ≠ .disarmed ∧ s.stops.conditions.link = none) →
      t.link.noticeTimer = s.link.noticeTimer) := by
  have idle : ∀ u : State, u.notices.state = s.notices.state → u.notices.zone = s.notices.zone → ¬startsTimer s u := by
    intro u h1 h2 ⟨_, h, h'⟩
    rw [SameWatch.pending ⟨h1, h2⟩, h] at h'
    cases h'
  cases he with
  | nothing => exact TimerStarts.noticeTimer (Timed.refl s).toTimerStarts
  | receiver l _ same => exact ⟨same.periodic, fun h => absurd h.1 (idle _ rfl rfl), fun _ => same.noticeTimer⟩
  | request j l _ frame => exact absurd frame hb
  | timers _ timer => exact absurd timer ht
  | expiry k n _ timer => exact absurd timer ht
  | event t _ event => exact TimerStarts.noticeTimer (timed_event event).toTimerStarts
  | held p => exact ⟨rfl, fun h => absurd h.1 (idle _ rfl rfl), fun _ => rfl⟩
  | backup p => exact ⟨rfl, fun h => absurd h.1 (idle _ rfl rfl), fun _ => rfl⟩
  | reset _ _ _ _ off => rw [off] at hr; cases hr

/-- Settles O19: an expiry is a rise of LINK with both timers stopped. -/
theorem silentConsolesRaiseLink : Obligations.SilentConsolesRaiseLink := by
  intro s hr rests
  refine ⟨fun hp hn => ?_, fun e p hp hd hc => ?_, fun e p hn hd hc => ?_, fun hp hn => ?_, fun i t hb hd ht he => ?_⟩
  · rw [exec_consoleTimer hr, hp, hn]
    rfl
  · have due : timerDue s.link.periodic = true := by rw [hp]; exact timerDue_running hd
    have hx := exec_periodicExpiry hr due
    rw [expireLink_ticked _ hc] at hx
    refine ⟨_, hx, by rw [expired_link], by rw [expired_link], expired_condition _ s, expired_latch _ s, expired_rests _ s,
      expired_stopping _, fun hn => ?_⟩
    rw [exec_consoleTimer hr, due, hn, ← expireLink_ticked _ hc]
  · have due : timerDue s.link.noticeTimer = true := by rw [hn]; exact timerDue_running hd
    have hx := exec_noticeExpiry hr due
    rw [expireLink_ticked _ hc] at hx
    refine ⟨_, hx, by rw [expired_link], by rw [expired_link], expired_condition _ s, expired_latch _ s, expired_rests _ s,
      expired_stopping _, fun hp => ?_⟩
    rw [exec_consoleTimer hr, due, hp, ← expireLink_ticked _ hc]
  · rw [exec_consoleTimer hr, hp, hn]
    rw [exec_periodicExpiry (s := { s with freeCount := s.freeCount + 1 }) hr hp,
      exec_noticeExpiry (s := { s with freeCount := s.freeCount + 1 }) hr hn]
    cases Config.periodicExpiresFirst s.freeCount
    · exact .inr rfl
    · exact .inl rfl
  · exact noticeTimer_of_event hr (fun h => h.elim (absurd hb) fun ⟨v, e, h⟩ => hd v e h) ht
      (exec_effect he)

end Expiry

end Sys2Proof.Machine

/-! NOTICE, NOTICE_MASK and INPUTS (R105, R183, R186, R187). -/

namespace Sys2Proof.Machine

section Serving

variable {i : Instr} {s u : State} {f : State → State × Reply} {code : ResultCode} {payload : List Byte} {k : Source}

/-! ## The answer of an accepted request -/

/-- R177, R178: a unit request answers with its reply, from the state that it leaves. -/
theorem replied_of_taken (h : s.canReceive = true) (he : exec i s = .next (acceptUnit f s))
    (hf : f (serveSupervision s) = (u, ⟨code, payload⟩)) :
    Replied i s (sendReply ⟨code, payload⟩ u) code payload := by
  have := replied_of_accepted h he
  rwa [acceptUnit_of_canReceive s f h, hf] at this

theorem withAttn_eq (n : NoticeUnit) : withAttn n = noticesWith n := by
  simp only [withAttn, noticesWith, attnWanted]
  congr 1
  by_cases h : pendingSources n &&& n.mask = 0#8 <;> simp [h]

/-! ## NOTICE (R183, R186) -/

theorem servedTimer_eq (s : State) : (serveSupervision s).link.noticeTimer = servedTimer s := by rw [served_link]

/-- R183, R186: NOTICE where k is the most urgent pending source. -/
theorem notice_replied {b : List Byte} {o : Bool} (h : s.canReceive = true) (hk : topSource s.notices = some k)
    (hb : readSource s.notices k = some (b, o)) : ∃ t,
    Replied .notice s t .ok (sourceCode k :: b ++ flagByte o ++ [pendingSources t.notices]) ∧
      t = { servedBy s t with notices := noticesWith (clearSource s.notices k) } ∧
      t.link.noticeTimer = if (k = .state ∨ k = .zone) ∧ s.config.supervisionMode = .periodicNotice then
        timerFor s.config.supervisionPeriod (noticesWith (clearSource s.notices k)) else servedTimer s := by
  set v := serveSupervision s with hv
  set w := setNotices v (clearSource s.notices k) with hw
  have hn : (serveNoticeTimer k w).notices = noticesWith (clearSource s.notices k) := by
    rw [serveNoticeTimer_frame]
    exact withAttn_eq _
  have hf : requestNotice v = (serveNoticeTimer k w,
      ⟨.ok, sourceCode k :: b ++ flagByte o ++ [pendingSources (serveNoticeTimer k w).notices]⟩) := by
    have hvn : v.notices = s.notices := serveSupervision_notices s
    rw [requestNotice, hvn, hk]
    simp only [hb, Option.getD_some]
    rfl
  refine ⟨_, replied_of_taken h rfl hf, ?_, ?_⟩
  · rw [serveNoticeTimer_frame]
    simp only [sendReply, hw, hv, setNotices, withAttn_eq, serveSupervision_eq, servedBy]
  · show (serveNoticeTimer k w).link.noticeTimer = _
    rw [serveNoticeTimer_link]
    have hwn : w.notices = noticesWith (clearSource s.notices k) := withAttn_eq _
    rw [hwn, show w.config = s.config from rfl]
    split
    · rfl
    · exact servedTimer_eq s

/-- R186: what is pending by the set that NOTICE shows. -/
theorem pendingSources_low (n : NoticeUnit) : pendingSources n &&& 7#8 = 0#8 ↔
    n.state.detail = none ∧ n.zone.detail = none ∧ n.take.detail = none := by
  have h : ∀ a b c d e f : Bool, ((if a then 0x01#8 else 0#8) ||| (if b then 0x02#8 else 0#8) ||| (if c then 0x04#8 else 0#8) |||
      (if d then 0x08#8 else 0#8) ||| (if e then 0x10#8 else 0#8) ||| (if f then 0x20#8 else 0#8)) &&& 7#8 = 0#8 ↔
      a = false ∧ b = false ∧ c = false := by decide
  simpa [pendingSources] using h n.state.detail.isSome n.zone.detail.isSome n.take.detail.isSome n.move.detail.isSome
    n.track.detail.isSome n.input.detail.isSome

theorem pendingSources_eq_zero (n : NoticeUnit) : pendingSources n = 0#8 ↔ n.state.detail = none ∧ n.zone.detail = none ∧
    n.take.detail = none ∧ n.move.detail = none ∧ n.track.detail = none ∧ n.input.detail = none := by
  have h : ∀ a b c d e f : Bool, ((if a then 0x01#8 else 0#8) ||| (if b then 0x02#8 else 0#8) ||| (if c then 0x04#8 else 0#8) |||
      (if d then 0x08#8 else 0#8) ||| (if e then 0x10#8 else 0#8) ||| (if f then 0x20#8 else 0#8)) = 0#8 ↔
      a = false ∧ b = false ∧ c = false ∧ d = false ∧ e = false ∧ f = false := by decide
  simpa [pendingSources] using h n.state.detail.isSome n.zone.detail.isSome n.take.detail.isSome n.move.detail.isSome
    n.track.detail.isSome n.input.detail.isSome

theorem notice_idle (h : s.canReceive = true) (hp : pendingSources s.notices = 0#8) :
    Shows .notice s fun _ => List.replicate 9 0#8 := by
  obtain ⟨h1, h2, h3, h4, h5, h6⟩ := (pendingSources_eq_zero _).1 hp
  refine shows_of_accepted (f := requestNotice) h rfl ?_
  have ht : topSource (serveSupervision s).notices = none := by
    simp [topSource, h1, h2, h3, h4, h5, h6]
  rw [requestNotice, ht]

theorem stateDetailBytes_padded (d : StateDetail) : padSix (stateDetailBytes d) = stateDetailBytes d := by
  have hd : ∀ x, (causeDetailBytes x).length = 2 := by
    intro x
    unfold causeDetailBytes
    split <;> rfl
  have hf : (firstCauseBytes d.first).length = 3 := by
    cases d.first <;> simp [firstCauseBytes, hd]
  have hl : (stateDetailBytes d).length = 6 := by
    unfold stateDetailBytes
    cases d.extra <;> simp [hf]
  simp [padSix, hl]

theorem noticeTimer_none {m : Nat} {n : NoticeUnit} (hs : n.state.detail = none) (hz : n.zone.detail = none) :
    timerFor m n = .stopped := by
  simp [timerFor, hs, hz]

/-- R183: the notice timer after a read of STATE or ZONE. -/
theorem noticeTimer_read (hk : k = .state ∨ k = .zone) (n : NoticeUnit) :
    (if (k = .state ∨ k = .zone) ∧ s.config.supervisionMode = .periodicNotice then timerFor s.config.supervisionPeriod n
      else servedTimer s) =
      if s.config.supervisionMode = .periodicNotice then timerFor s.config.supervisionPeriod n else .stopped := by
  cases hm : s.config.supervisionMode <;> simp [hk, servedTimer, hm]

theorem notice_state {d : StateDetail} (h : s.canReceive = true) (hd : s.notices.state.detail = some d) :
    ∃ t, Replied .notice s t .ok
        (1#8 :: stateDetailBytes d ++ flagByte s.notices.state.overrun ++ [pendingSources t.notices]) ∧
      t = { servedBy s t with notices := noticesWith { s.notices with state := ⟨none, false⟩ } } ∧
      t.link.noticeTimer = if s.config.supervisionMode = .periodicNotice ∧ s.notices.zone.detail ≠ none then
        .running 0 s.config.supervisionPeriod else .stopped := by
  obtain ⟨t, hr, ht, hn⟩ := notice_replied (k := .state) h (by simp [topSource, hd])
    (b := stateDetailBytes d) (o := s.notices.state.overrun)
    (by simp [readSource, sourceBytes, hd, stateDetailBytes_padded])
  refine ⟨t, hr, ht, hn.trans ?_⟩
  rw [noticeTimer_read (.inl rfl)]
  cases hz : s.notices.zone.detail <;> simp [timerFor, noticesWith, clearSource, hz]

theorem notice_zone {d : ZoneDetail} (h : s.canReceive = true) (hs : s.notices.state.detail = none)
    (hd : s.notices.zone.detail = some d) : ∃ t, Replied .notice s t .ok
        (2#8 :: zoneDetailBytes d ++ [0#8, 0#8, 0#8] ++ flagByte s.notices.zone.overrun ++ [pendingSources t.notices]) ∧
      t = { servedBy s t with notices := noticesWith { s.notices with zone := ⟨none, false⟩ } } ∧
      t.link.noticeTimer = .stopped := by
  obtain ⟨t, hr, ht, hn⟩ := notice_replied (k := .zone) h (by simp [topSource, hs, hd])
    (b := zoneDetailBytes d ++ [0#8, 0#8, 0#8]) (o := s.notices.zone.overrun)
    (by simp only [readSource, sourceBytes, hd]; rfl)
  refine ⟨t, hr, ht, hn.trans ?_⟩
  rw [noticeTimer_read (.inr rfl), noticeTimer_none (by exact hs) rfl]
  simp

theorem notice_timer (h : s.canReceive = true) (hs : s.notices.state.detail = none) (hz : s.notices.zone.detail = none) :
    ∃ t, exec .notice s = .next t ∧ t.link.noticeTimer = servedTimer s := by
  cases hk : topSource s.notices with
  | none =>
    refine ⟨_, rfl, ?_⟩
    rw [acceptUnit_of_canReceive s _ h, requestNotice, serveSupervision_notices, hk]
    exact servedTimer_eq s
  | some k =>
    have hne : k ≠ .state ∧ k ≠ .zone := by
      simp only [topSource, hs, hz] at hk
      constructor <;> rintro rfl <;> (repeat' split at hk) <;> simp_all
    obtain ⟨⟨b, o⟩, hb⟩ : ∃ p, readSource s.notices k = some p := by
      rw [← Option.isSome_iff_exists]
      unfold topSource at hk
      repeat' split at hk
      all_goals cases hk <;> simpa [readSource, sourceBytes]
    obtain ⟨t, hr, -, hn⟩ := notice_replied h hk hb
    exact ⟨t, hr.1, by simpa [hne.1, hne.2] using hn⟩

theorem lineStates_clearChangeFlags (s : State) : lineStates (clearChangeFlags s) = lineStates s := by
  simp [lineStates, clearChangeFlags, clearFlag]

/-- Settles O20: NOTICE by its most urgent source, NOTICE_MASK by its mask, INPUTS by the flags that it clears. -/
theorem noticesAndInputsAreServed : Obligations.NoticesAndInputsAreServed := by
  refine ⟨fun s h => ⟨notice_idle h, fun d hd => notice_state h hd, fun d hs hd => notice_zone h hs hd, notice_timer h,
    fun d hs hz hd => ?_, fun hp => ?_⟩, fun s m h => ⟨fun hm => ?_, fun hm => ?_⟩, fun s h => ?_⟩
  · obtain ⟨t, hr, ht, -⟩ := notice_replied (k := .take) h (by simp [topSource, hs, hz, hd])
      (b := takeDetailBytes d ++ [0#8, 0#8]) (o := s.notices.take.overrun)
      (by simp only [readSource, sourceBytes, hd]; rfl)
    exact ⟨t, hr, ht⟩
  · obtain ⟨hs, hz, htk⟩ := (pendingSources_low _).1 hp
    refine ⟨fun d hd => ?_, fun d hm hd => ?_, fun d hm hk hd => ?_⟩
    · obtain ⟨t, hr, ht, -⟩ := notice_replied (k := .move) h (by simp [topSource, hs, hz, htk, hd])
        (b := moveDetailBytes d ++ [0#8, 0#8, 0#8]) (o := s.notices.move.overrun)
        (by simp only [readSource, sourceBytes, hd]; rfl)
      exact ⟨t, hr, ht⟩
    · obtain ⟨t, hr, ht, -⟩ := notice_replied (k := .track) h (by simp [topSource, hs, hz, htk, hm, hd])
        (b := trackDetailBytes d ++ [0#8, 0#8, 0#8]) (o := s.notices.track.overrun)
        (by simp only [readSource, sourceBytes, hd]; rfl)
      exact ⟨t, hr, ht⟩
    · obtain ⟨t, hr, ht, -⟩ := notice_replied (k := .input) h (by simp [topSource, hs, hz, htk, hm, hk, hd])
        (b := lineSetBytes d ++ [0#8, 0#8, 0#8]) (o := s.notices.input.overrun)
        (by simp only [readSource, sourceBytes, hd]; rfl)
      have h0 : pendingSources t.notices = 0#8 := by
        rw [ht, pendingSources_eq_zero]
        exact ⟨hs, hz, htk, hm, hk, rfl⟩
      rw [h0] at hr
      exact ⟨t, hr, ht⟩
  · have low : ∀ m : Byte, m.toNat < 64 → m &&& 0xC0#8 = 0#8 := by decide
    refine ⟨_, replied_of_taken h (f := requestNoticeMask m) rfl (by rw [requestNoticeMask, if_neg (by simp [low m hm])]; rfl),
      ?_⟩
    simp only [sendReply, setNotices, withAttn_eq, serveSupervision_eq, servedBy]
  · have high : ∀ m : Byte, 64 ≤ m.toNat → m &&& 0xC0#8 ≠ 0#8 := by decide
    exact refusedWith_of_accepted h (f := requestNoticeMask m) rfl (by rw [requestNoticeMask, if_pos (high m hm)])
  · refine ⟨_, replied_of_taken h (f := requestInputs) rfl rfl, ?_, ?_, ?_, ?_, fun i => ?_, fun l => ?_⟩
    · simp [changeFlags, clearChangeFlags, sendReply, lineSet, clearFlag]
    · exact lineStates_clearChangeFlags (serveSupervision s)
    · rfl
    · rfl
    · exact PerEight.get_ofFn _ i
    · exact PerLine.get_ofFn _ l

end Serving

end Sys2Proof.Machine

/-! The records as they are sent (R194, R197, R198), and the reads (R29, R71, R114, R115, R131, R132, R158, R163, R188, R189,
R192). -/

namespace Sys2Proof.Machine

/-! ## Fields (R194) -/

section Fields

theorem recordOf_nil : recordOf [] = [] := rfl

theorem recordOf_cons (f : Nat × Int) (fs : List (Nat × Int)) : recordOf (f :: fs) = fieldBytes f.1 f.2 ++ recordOf fs := rfl

theorem recordOf_append (fs gs : List (Nat × Int)) : recordOf (fs ++ gs) = recordOf fs ++ recordOf gs :=
  List.flatMap_append ..

theorem field_byte (v : Int) : fieldBytes 1 v = [BitVec.ofInt 8 v] := by simp [fieldBytes]

theorem field_u8 (n : Nat) : fieldBytes 1 n = u8 n := by simp [field_byte, u8]

theorem ofInt_div (n k : Nat) : BitVec.ofInt 8 ((n : Int) / 256 ^ k) = BitVec.ofNat 8 (n / 256 ^ k) := by
  rw [← BitVec.ofInt_natCast]
  push_cast
  rfl

theorem field_u16 (n : Nat) : fieldBytes 2 n = u16 n := by
  simp only [fieldBytes, ofInt_div]
  simp [u16]

theorem field_u32 (n : Nat) : fieldBytes 4 n = u32 n := by
  simp only [fieldBytes, ofInt_div]
  simp [u32]

/-- R194: a signed field that can hold its value. -/
theorem field_s32 {v : Int} (h : fits32 v) : fieldBytes 4 v = s32 v := by
  have hm : (BitVec.ofInt 32 v).toNat = (v % 4294967296).toNat := by simp [BitVec.toNat_ofInt]
  have byte : ∀ x y : Int, ∀ n : Nat, x = y → (y % 256).toNat = n % 256 → BitVec.ofInt 8 x = BitVec.ofNat 8 n := by
    rintro x y n rfl he
    exact BitVec.eq_of_toNat_eq (by simpa [BitVec.toNat_ofInt] using he)
  rw [s32, if_pos (show int32Min ≤ v ∧ v ≤ int32Max from h), u32, hm]
  simp only [fieldBytes]
  congr 1
  · exact byte _ (v / 16777216) _ (by norm_num) (by omega)
  congr 1
  · exact byte _ (v / 65536) _ (by norm_num) (by omega)
  congr 1
  · exact byte _ (v / 256) _ (by norm_num) (by omega)
  congr 1
  exact byte _ v _ (by norm_num) (by omega)

theorem s32_length (v : Int) : (s32 v).length = 4 := by
  unfold s32
  split <;> rfl

theorem u8_flag (b : Bool) : u8 b.toNat = flagByte b := by cases b <;> rfl

theorem field_bit2 : ∀ a b : Bool, fieldBytes 1 (bitSet [a, b]) = [(if a then 1#8 else 0#8) ||| (if b then 2#8 else 0#8)] := by
  decide

theorem field_bit6 : ∀ a b c d e f : Bool, fieldBytes 1 (bitSet [a, b, c, d, e, f]) =
    [(if a then 0x01#8 else 0#8) ||| (if b then 0x02#8 else 0#8) ||| (if c then 0x04#8 else 0#8) |||
      (if d then 0x08#8 else 0#8) ||| (if e then 0x10#8 else 0#8) ||| (if f then 0x20#8 else 0#8)] := by decide

theorem field_bit8 : ∀ a b c d e f g h : Bool, fieldBytes 1 (bitSet [a, b, c, d, e, f, g, h]) =
    [(if a then 0x01#8 else 0#8) ||| (if b then 0x02#8 else 0#8) ||| (if c then 0x04#8 else 0#8) |||
      (if d then 0x08#8 else 0#8) ||| (if e then 0x10#8 else 0#8) ||| (if f then 0x20#8 else 0#8) |||
      (if g then 0x40#8 else 0#8) ||| (if h then 0x80#8 else 0#8)] := by decide

theorem maskOf_toNat : ∀ a b c d e f g h i : Bool, Int.ofNat (List.foldl (fun (m : ChannelMask) (p : Nat × Bool) =>
    if p.2 then m ||| (1#16 <<< p.1) else m) 0#16
      [(0, a), (1, b), (2, c), (3, d), (4, e), (5, f), (6, g), (7, h), (8, i)]).toNat =
    bitSet [a, b, c, d, e, f, g, h, i] := by decide

theorem field_mask (f : Chan → Bool) : fieldBytes 2 (bitSet (allChans.map f)) = maskBytes (maskOf (.ofFn f)) := by
  have h := maskOf_toNat (f .track) (f .swing) (f .boom) (f .reach) (f .pan) (f .tilt) (f .focus) (f .iris) (f .zoom)
  rw [maskBytes, ← field_u16]
  congr 1
  refine h.symm.trans ?_
  simp [maskOf, allChans, chanIndex]

/-! Enumerations (R194). -/

theorem field_crane (x : CraneState) :
    fieldBytes 1 (codeIn [.parked, .arming, .ready, .stopping, .halted, .tripped, .parking] x) = [craneCode x] := by
  cases x <;> rfl
theorem field_owner (x : Owner) : fieldBytes 1 (codeIn [.none, .console, .wheel, .take, .track] x) = [ownerCode x] := by
  cases x <;> rfl
theorem field_mode (x : Mode) : fieldBytes 1 (codeIn [.hold, .velocity, .position, .path] x) = [modeCode x] := by
  cases x <;> rfl
theorem field_drive (x : DriveState) : fieldBytes 1 (codeIn [.off, .enabling, .active, .fault] x) = [driveCode x] := by
  cases x <;> rfl
theorem field_engine (x : EngineState) :
    fieldBytes 1 (codeIn [.idle, .cueing, .armed, .waitFrame, .playing, .paused] x) = [engineCode x] := by cases x <;> rfl
theorem field_result (x : TakeResult) :
    fieldBytes 1 (codeIn [.none, .done, .slowed, .partial_, .stopped, .aborted, .failed] x) = [takeResultCode x] := by
  cases x <;> rfl
theorem field_track (x : TrackState) : fieldBytes 1 (codeIn [.off, .active, .suspended] x) = [trackCode x] := by
  cases x <;> rfl
theorem field_zoneKind (x : ZoneKind) : fieldBytes 1 (codeIn [.guard, .slow] x) = [zoneKindCode x] := by cases x <;> rfl
theorem field_band (x : Band) : fieldBytes 1 (codeIn [.clear, .slow, .stop] x) = [bandCode x] := by cases x <;> rfl
theorem field_curve (x : Curve) : fieldBytes 1 (codeIn [.linear, .ease] x) = [curveCode x] := by cases x <;> rfl
theorem field_resetKind (x : ResetKind) : fieldBytes 1 (codeIn [.cold, .warm] x) = [resetKindCode x] := by cases x <;> rfl
theorem field_resetCause (x : ResetCause) :
    fieldBytes 1 (codeIn [.powerInvalid, .powerValid, .resetHold, .resetPulse] x) = [resetCauseCode x] := by cases x <;> rfl
theorem u8_chan (c : Chan) : u8 (chanIndex c) = [chanByte c] := rfl

/-! Causes, clearances (R194, R197). -/

theorem field_causeDetail (x : Option CauseDetail) (rest : List Byte) :
    fieldBytes 1 (causeFields x).2.1 ++ (fieldBytes 1 (causeFields x).2.2 ++ rest) = optCauseBytes x ++ rest := by
  rw [← List.append_assoc]
  congr 1
  rcases x with - | ⟨o1, o2, d⟩ | ⟨c, plus⟩ | ⟨c, k⟩ | - | n | (- | c) | k | o
  · rfl
  · cases o1 <;> cases o2 <;> cases d <;> rfl
  · cases plus <;> cases c <;> rfl
  · cases k <;> cases c <;> rfl
  · rfl
  · exact congrArg (· ++ [0#8]) (field_u8 n)
  · rfl
  · cases c <;> rfl
  · cases k <;> rfl
  · cases o <;> rfl

theorem field_cause (x : Option CauseDetail) (rest : List Byte) :
    fieldBytes 1 (causeFields x).1 ++ (optCauseBytes x ++ rest) = firstCauseBytes x ++ rest := by
  cases x with
  | none => rfl
  | some d => cases d <;> rfl

theorem field_clearance (c : Option Nat) : fieldBytes 4 (clearanceField c) = clearanceBytes c := by
  cases c with
  | none => rfl
  | some n => exact field_u32 _

theorem field_causeSet (p : PerCause) :
    fieldBytes 1 (bitSet (allCauses.map fun k => (getCause p k).isSome)) = [causeSet p] := field_bit8 _ _ _ _ _ _ _ _

end Fields

/-! ## The layouts (R197, R198) -/

section Layouts

variable (s : State)

theorem identRecord_layout : identRecord s = recordOf [(2, 0x2A17), (2, 0x7240), (1, 1), (1, s.link.address),
    (1, s.link.rate.toNat), (1, 128), (1, 16), (2, 256), (1, 24), (1, 4), (1, 8), (1, codeIn [.cold, .warm] s.power.lastKind),
    (1, codeIn [.powerInvalid, .powerValid, .resetHold, .resetPulse] s.power.lastCause),
    (1, s.power.survived.toNat), (1, s.notices.mask.toNat), (1, 0)] := by
  have hm : fieldBytes 1 (s.notices.mask.toNat : Int) = [s.notices.mask] := by rw [field_u8]; simp [u8]
  simp only [recordOf_cons, recordOf_nil, hm, field_u8, u8_flag, field_resetKind, field_resetCause]
  rfl

theorem identRecord_length : (identRecord s).length = 19 := by
  simp [identRecord, u8, u16, flagByte]

theorem optCauseBytes_length (x : Option CauseDetail) : (optCauseBytes x).length = 2 := by
  cases x with
  | none => rfl
  | some d => unfold optCauseBytes causeDetailBytes; dsimp only; split <;> rfl

theorem firstCauseBytes_length (x : Option CauseDetail) : (firstCauseBytes x).length = 3 := by
  cases x with
  | none => rfl
  | some d => exact congrArg (· + 1) (optCauseBytes_length (some d))

theorem statusRecord_length : (statusRecord s).length = 78 := by
  have hl : (allCauses.flatMap (causeRecord s.stops)).length = 32 := by
    simp only [allCauses, List.flatMap_cons, List.flatMap_nil, List.length_append, List.length_nil, causeRecord,
      optCauseBytes_length]
  have h8 : ∀ n, (u8 n).length = 1 := fun _ => rfl
  have h16 : ∀ n, (u16 n).length = 2 := fun _ => rfl
  have hf : ∀ b, (flagByte b).length = 1 := fun _ => rfl
  have hc : (allChans.map fun c => ownerCode (s.chan c).owner).length = 9 := List.length_map _
  unfold statusRecord
  rw [List.length_append, hl, List.length_append, hc]
  simp only [List.length_append]
  simp only [maskBytes, s32Saturated, h8, h16, hf, firstCauseBytes_length, s32_length]
  rfl

theorem recordOf_map {α : Type} (g : α → Nat × Int) (l : List α) :
    recordOf (l.map g) = l.flatMap fun x => fieldBytes (g x).1 (g x).2 := List.flatMap_map ..

theorem recordOf_flatMap {α : Type} (g : α → List (Nat × Int)) (l : List α) :
    recordOf (l.flatMap g) = l.flatMap fun x => recordOf (g x) := List.flatMap_assoc ..

theorem s32Saturated_eq {v : Int} (h : fits32 v) : s32Saturated v = s32 v := by
  have h1 := h.1
  have h2 := h.2
  rw [s32Saturated, clampInt, if_neg (by unfold int32Min; omega), if_neg (by unfold int32Max; omega)]

theorem flatMap_singleton {α β : Type} (g : α → β) (l : List α) : (l.flatMap fun x => [g x]) = l.map g :=
  List.flatMap_pure_eq_map g l

theorem causeRecords_layout : (recordOf (allCauses.flatMap fun k => [(1, (causeFields (getCause s.stops.latches k)).2.1),
    (1, (causeFields (getCause s.stops.latches k)).2.2), (1, (causeFields (getCause s.stops.conditions k)).2.1),
    (1, (causeFields (getCause s.stops.conditions k)).2.2)])) = allCauses.flatMap (causeRecord s.stops) := by
  rw [recordOf_flatMap]
  congr 1
  funext k
  have hlast := field_causeDetail (getCause s.stops.conditions k) []
  simp only [recordOf_cons, recordOf_nil, field_causeDetail, hlast, causeRecord]
  simp only [List.append_nil]

theorem owners_layout : recordOf (allChans.map fun c => (1, codeIn [.none, .console, .wheel, .take, .track] (s.chan c).owner)) =
    allChans.map fun c => ownerCode (s.chan c).owner := by
  rw [recordOf_map, ← flatMap_singleton]
  congr 1
  funext c
  exact field_owner _

theorem statusRecord_layout (hx : fits32 s.head.x) (hy : fits32 s.head.y) (hz : fits32 s.head.z) :
    statusRecord s = recordOf ([
      (1, codeIn [.parked, .arming, .ready, .stopping, .halted, .tripped, .parking] s.crane.state),
      (1, s.crane.retreat.toNat), (1, (causeFields s.stops.first).1), (1, (causeFields s.stops.first).2.1),
      (1, (causeFields s.stops.first).2.2),
      (1, bitSet (allCauses.map fun k => (getCause s.stops.latches k).isSome)),
      (1, bitSet (allCauses.map fun k => (getCause s.stops.conditions k).isSome)),
      (2, bitSet (allChans.map fun c => (s.chan c).inhibitMinus)),
      (2, bitSet (allChans.map fun c => (s.chan c).inhibitPlus)),
      (1, codeIn [.idle, .cueing, .armed, .waitFrame, .playing, .paused] s.engine.state),
      (1, (s.engine.take.getD 0 : Nat)), (1, s.engine.cueIndex), (2, s.engine.rate),
      (2, (min 65535 (s.engine.lag / 1024) : Nat)), (2, s.zoneMonitor.scale), (1, (s.zoneMonitor.limiting.getD 0 : Nat)),
      (4, s.head.x), (4, s.head.y), (4, s.head.z), (1, s.head.valid.toNat),
      (1, codeIn [.off, .active, .suspended] s.lens.tracking.state), (1, s.lens.tracking.range.toNat),
      (1, bitSet [s.notices.state.detail.isSome, s.notices.zone.detail.isSome, s.notices.take.detail.isSome,
        s.notices.move.detail.isSome, s.notices.track.detail.isSome, s.notices.input.detail.isSome])] ++
      (allChans.map fun c => (1, codeIn [.none, .console, .wheel, .take, .track] (s.chan c).owner)) ++
      allCauses.flatMap fun k => [(1, (causeFields (getCause s.stops.latches k)).2.1),
        (1, (causeFields (getCause s.stops.latches k)).2.2), (1, (causeFields (getCause s.stops.conditions k)).2.1),
        (1, (causeFields (getCause s.stops.conditions k)).2.2)]) := by
  rw [recordOf_append, recordOf_append, causeRecords_layout, owners_layout]
  simp only [recordOf_cons, recordOf_nil]
  simp only [field_u8, field_u16, u8_flag, field_crane, field_causeDetail, field_cause, field_causeSet, field_mask, field_engine,
    field_s32 hx, field_s32 hy, field_s32 hz, field_track, field_bit6]
  unfold statusRecord
  simp only [s32Saturated_eq hx, s32Saturated_eq hy, s32Saturated_eq hz, List.append_assoc, List.cons_append,
    List.nil_append, List.append_nil]
  rfl

theorem channelRecord_length (c : Chan) : (channelRecord s c).length = 51 := by
  have h8 : ∀ n, (u8 n).length = 1 := fun _ => rfl
  have h16 : ∀ n, (u16 n).length = 2 := fun _ => rfl
  have h32 : ∀ n, (u32 n).length = 4 := fun _ => rfl
  have hf : ∀ b, (flagByte b).length = 1 := fun _ => rfl
  unfold channelRecord
  simp only [List.length_append]
  simp only [h8, h16, h32, hf, s32_length]
  rfl

theorem channelRecord_layout (c : Chan) :
    let r := s.chan c
    let demand := if r.mode = .velocity then r.demand.getD 0 else 0
    let target := if r.mode = .position then r.target.getD 0 else 0
    (∀ v ∈ [r.setpoint, r.velocity, demand, target, r.feedback, s.lo c, s.hi c], fits32 v) →
      channelRecord s c = recordOf [(1, chanIndex c), (1, codeIn [.off, .enabling, .active, .fault] r.drive),
        (1, codeIn [.hold, .velocity, .position, .path] r.mode),
        (1, codeIn [.none, .console, .wheel, .take, .track] r.owner), (4, r.setpoint), (2, r.fraction), (4, r.velocity),
        (4, demand), (4, target), (4, r.feedback), (1, r.stale),
        (1, bitSet [r.atLimit, r.outside, r.inhibitMinus, r.inhibitPlus, r.stopDecel,
          s.moves.any fun m => m.remaining.get c, r.inPosition, r.known]),
        (4, s.lo c), (4, s.hi c), (4, (s.cfg c).vmax), (2, (s.cfg c).accel), (2, (s.cfg c).stopStep),
        (4, (s.cfg c).followLimit), (1, (s.cfg c).releaseSlot), (1, (s.cfg c).keepActive.toNat),
        (1, (!isArm c).toNat)] := by
  intro r demand target h
  simp only [List.mem_cons, List.not_mem_nil, or_false, forall_eq_or_imp, forall_eq] at h
  obtain ⟨h1, h2, h3, h4, h5, h6, h7⟩ := h
  simp only [recordOf_cons, recordOf_nil]
  simp only [field_s32 h1, field_s32 h2, field_s32 h3, field_s32 h4, field_s32 h5, field_s32 h6, field_s32 h7, field_u8,
    field_u16, field_u32, u8_flag, u8_chan, field_drive, field_mode, field_owner, field_bit8]
  unfold channelRecord
  simp only [List.append_assoc, List.cons_append, List.nil_append, List.append_nil]
  rfl

theorem zoneRecordBytes_layout (z : Zone) (h : ∀ v ∈ [z.xLo, z.xHi, z.yLo, z.yHi, z.zLo, z.zHi], fits32 v) :
    zoneRecordBytes s z = recordOf [(1, z.number), (1, codeIn [.guard, .slow] z.kind), (1, z.line), (4, z.xLo), (4, z.xHi),
      (4, z.yLo), (4, z.yHi), (4, z.zLo), (4, z.zHi), (4, z.stopMargin), (4, z.slowMargin), (1, z.active.toNat),
      (1, z.occupied.toNat), (4, clearanceField z.clearance), (1, codeIn [.clear, .slow, .stop] z.band),
      (2, (z.contribution.getD 0xFFFF : Nat)), (1, (decide (s.zoneMonitor.limiting = some z.number)).toNat),
      (1, (s.stops.retreatSet.any fun r => r.zone == z.number).toNat),
      (4, clearanceField ((s.stops.retreatSet.find? fun r => r.zone == z.number).map (·.reference)))] := by
  simp only [List.mem_cons, List.not_mem_nil, or_false, forall_eq_or_imp, forall_eq] at h
  obtain ⟨h1, h2, h3, h4, h5, h6⟩ := h
  have hl : (s.zoneMonitor.limiting == some z.number) = decide (s.zoneMonitor.limiting = some z.number) := by
    rw [Bool.eq_iff_iff]; simp
  simp only [recordOf_cons, recordOf_nil]
  simp only [field_s32 h1, field_s32 h2, field_s32 h3, field_s32 h4, field_s32 h5, field_s32 h6, field_u8,
    field_u16, field_u32, u8_flag, field_zoneKind, field_band, field_clearance]
  unfold zoneRecordBytes
  simp only [hl, List.append_assoc, List.cons_append, List.nil_append, List.append_nil]
  rfl

theorem targetRecord_layout (g : Target) (hx : fits32 g.x) (hy : fits32 g.y) (hz : fits32 g.z) :
    let k := s.lens.tracking
    let on := decide (k.state ≠ .off ∧ k.target = some g.number)
    targetRecord s g = recordOf [(1, g.number), (4, g.x), (4, g.y), (4, g.z), (2, g.maxAge), (2, g.age),
      (1, (staleAt g.maxAge g.age).toNat), (1, bitSet [on, on && k.range, on && k.distance.isSome, on && k.count.isSome]),
      (1, if on = true then codeIn [.off, .active, .suspended] k.state else 0),
      (4, if on = true then Int.ofNat (k.distance.getD 0) else 0),
      (2, if on = true then Int.ofNat (k.count.getD 0) else 0)] := by
  intro k on
  have hstale : targetStale g = staleAt g.maxAge g.age := by simp [targetStale, staleAt]
  have hon : tracked s g.number = on := by
    rw [Bool.eq_iff_iff]
    simp [tracked, on, k]
  have bits : ∀ a b c : Bool, fieldBytes 1 (bitSet [true, a, b, c]) =
      [0x01#8 ||| (if a then 2#8 else 0#8) ||| (if b then 4#8 else 0#8) ||| (if c then 8#8 else 0#8)] := by decide
  simp only [recordOf_cons, recordOf_nil]
  simp only [field_s32 hx, field_s32 hy, field_s32 hz, field_u8, field_u16, u8_flag]
  rw [targetRecord, hon, hstale]
  cases on with
  | true =>
    simp only [if_true, Bool.true_and, bits, field_track, Int.ofNat_eq_natCast, field_u16, field_u32, trackedBytes,
      List.append_assoc, List.cons_append, List.nil_append, List.append_nil]
    rfl
  | false =>
    simp only [Bool.false_and, List.append_assoc, List.cons_append, List.nil_append, List.append_nil]
    rfl

theorem markRecord_layout (m : Mark) (h : ∀ c v, m.values.get c = some v → fits32 v) :
    markRecord m = recordOf ([(1, Int.ofNat m.number), (2, Int.ofNat m.tag.toNat),
      (2, bitSet (allChans.map fun c => (m.values.get c).isSome)), (2, Int.ofNat m.refCount),
      (1, Int.ofNat m.locked.toNat)] ++ (allChans.filterMap m.values.get).map fun v => (4, v)) := by
  have hv : ∀ l : List Chan, recordOf ((l.filterMap m.values.get).map fun v => (4, v)) =
      l.flatMap fun c => match m.values.get c with
        | some v => s32 v
        | none => [] := by
    intro l
    induction l with
    | nil => rfl
    | cons c l ih =>
      rw [List.flatMap_cons]
      cases hc : m.values.get c with
      | none => rw [List.filterMap_cons_none hc, ih, List.nil_append]
      | some v => rw [List.filterMap_cons_some hc, List.map_cons, recordOf_cons, ih, field_s32 (h c v hc)]
  rw [recordOf_append, hv]
  simp only [recordOf_cons, recordOf_nil, Int.ofNat_eq_natCast]
  simp only [field_u8, field_u16, u8_flag, field_mask]
  unfold markRecord
  simp only [List.append_assoc, List.append_nil]
  rfl

theorem numberCues_eq (qs : List Cue) (k : Nat) : numberCues k qs = (qs.zipIdx k).map fun p => (p.2, p.1) := by
  induction qs generalizing k with
  | nil => rfl
  | cons q qs ih => rw [numberCues, ih, List.zipIdx_cons, List.map_cons]

theorem takeRecord_layout (x : Take) (k : Nat) :
    takeRecord x k = recordOf [(1, x.number), (2, x.tag.toNat), (1, x.cues.length),
      (1, codeIn [.none, .done, .slowed, .partial_, .stopped, .aborted, .failed] x.lastResult), (2, x.lastLag),
      (2, x.passCount), (1, x.active.toNat), (1, (decide (16 < (x.cues.drop (k - 1)).length)).toNat)] ++
      (((x.cues.drop (k - 1)).take 16).zipIdx k).flatMap fun p => recordOf [(1, p.2), (1, p.1.mark), (4, p.1.travel),
        (4, p.1.dwell), (1, codeIn [.linear, .ease] p.1.curve), (2, p.1.mask.toNat)] := by
  have hcue : ∀ p : Cue × Nat, recordOf [(1, p.2), (1, p.1.mark), (4, p.1.travel), (4, p.1.dwell),
      (1, codeIn [.linear, .ease] p.1.curve), (2, p.1.mask.toNat)] = cueRecord (p.2, p.1) := by
    intro p
    simp only [recordOf_cons, recordOf_nil]
    simp only [field_u8, field_u16, field_u32, field_curve]
    simp only [cueRecord, maskBytes, List.append_assoc, List.append_nil]
  simp only [hcue]
  simp only [recordOf_cons, recordOf_nil]
  simp only [field_u8, field_u16, u8_flag, field_result]
  unfold takeRecord
  simp only [numberCues_eq, List.flatMap_map, List.append_assoc, List.append_nil]
  rfl

theorem mapRecord_layout (b : Fin 4) (selected : Bool) (m : LensMap) : ∃ iris zoom : List Byte, iris.length = 4 ∧
    zoom.length = 4 ∧ (∀ p, m.iris = some p → iris = recordOf [(2, p.lo), (2, p.hi)]) ∧
    (∀ p, m.zoom = some p → zoom = recordOf [(2, p.lo), (2, p.hi)]) ∧
    mapRecord b selected m = recordOf [(1, b.val), (2, m.tag.toNat), (1, m.points.length),
      (1, bitSet [m.iris.isSome, m.zoom.isSome])] ++ iris ++ zoom ++
      (m.points.flatMap fun p => recordOf [(4, p.distance), (2, p.count)]) ++ recordOf [(1, selected.toNat)] := by
  have length : ∀ place p, (limitPairBytes b place p).length = 4 := by
    intro place p
    cases p <;> rfl
  have pair : ∀ place p, limitPairBytes b place (some p) = recordOf [(2, p.lo), (2, p.hi)] := by
    intro place p
    simp only [recordOf_cons, recordOf_nil, field_u16, List.append_nil, limitPairBytes]
  have hp : ∀ p : MapPoint, recordOf [(4, p.distance), (2, p.count)] = u32 p.distance ++ u16 p.count := by
    intro p
    simp only [recordOf_cons, recordOf_nil, field_u16, field_u32, List.append_nil]
  refine ⟨limitPairBytes b 0 m.iris, limitPairBytes b 2 m.zoom, length _ _, length _ _, fun p h => by rw [h, pair],
    fun p h => by rw [h, pair], ?_⟩
  simp only [hp, recordOf_cons, recordOf_nil]
  simp only [field_u8, field_u16, u8_flag, field_bit2]
  unfold mapRecord
  simp only [List.append_assoc, List.append_nil]

end Layouts

/-! ## The reads -/

section Reads

variable {i : Instr} {s : State} {f : State → State × Reply} {b : List Byte} {payload : State → List Byte}

/-- A read whose reply shows only what the acceptance of a frame and its answer leave as it stands. -/
theorem shows_of_read (h : s.canReceive = true) (he : exec i s = .next (acceptUnit f s))
    (hf : f (serveSupervision s) = accept (serveSupervision s) b)
    (hp : payload (sendReply ⟨.ok, b⟩ (serveSupervision s)) = b) : Shows i s payload := by
  refine shows_of_accepted h he ?_
  rw [acceptUnit_of_canReceive s f h, hf]
  exact congrArg _ hp.symm

/-! The ranges of the numbers (R66, R106, R119, R161). -/

theorem zoneNumber_iff {n : Nat} : natRange 1 Config.zoneCapacity n = true ↔ 1 ≤ n ∧ n ≤ 24 := natRange_iff

theorem markNumberValid_iff {n : Nat} : markNumberValid n = true ↔ 1 ≤ n ∧ n ≤ 128 := natRange_iff

theorem takeNumberValid_iff {n : Nat} : takeNumberValid n = true ↔ 1 ≤ n ∧ n ≤ 16 := natRange_iff

theorem cuePosition_iff {n : Nat} : natRange 1 Config.cuesPerTake n = true ↔ 1 ≤ n ∧ n ≤ 64 := natRange_iff

theorem targetNumberValid_iff {n : Nat} : targetNumberValid n = true ↔ 1 ≤ n ∧ n ≤ 8 := natRange_iff

/-- R115: the numbers that MARK_LIST shows. -/
theorem markListBytes_eq {n : Nat} {marks : List Mark} {shown rest : List Nat}
    (ha : (marks.map (·.number)).filter (fun k => decide (n ≤ k)) = shown ++ rest)
    (hs : shown.length = 60 ∨ (shown.length < 60 ∧ rest = [])) :
    markListBytes n marks = u8 shown.length ++ flagByte (!rest.isEmpty) ++ shown.flatMap u8 := by
  have hall : (marks.filter fun m => decide (n ≤ m.number)).map (·.number) = shown ++ rest := by
    rw [← ha, List.filter_map]
    rfl
  have htake : (shown ++ rest).take 60 = shown := by
    rcases hs with h | ⟨h, rfl⟩
    · rw [← h, List.take_left]
    · simpa using h.le
  have hmore : decide (60 < (shown ++ rest).length) = !rest.isEmpty := by
    rcases hs with h | ⟨h, rfl⟩
    · cases rest <;> simp [h]
    · simpa using h.le
  have hbytes : shown.map (BitVec.ofNat 8) = shown.flatMap u8 := (flatMap_singleton _ _).symm
  simp only [markListBytes, markListMax, hall, htake, hmore, hbytes]

/-! A record does not show the answer itself. -/

theorem identRecord_sendReply (r : Reply) (v : State) : identRecord (sendReply r v) = identRecord v := by
  unfold identRecord; rfl
theorem statusRecord_sendReply (r : Reply) (v : State) : statusRecord (sendReply r v) = statusRecord v := by
  unfold statusRecord; rfl
theorem channelRecord_sendReply (r : Reply) (v : State) (c : Chan) :
    channelRecord (sendReply r v) c = channelRecord v c := by unfold channelRecord; rfl
theorem zoneRecordBytes_sendReply (r : Reply) (v : State) (z : Zone) :
    zoneRecordBytes (sendReply r v) z = zoneRecordBytes v z := by unfold zoneRecordBytes; rfl
theorem targetRecord_sendReply (r : Reply) (v : State) (g : Target) :
    targetRecord (sendReply r v) g = targetRecord v g := by unfold targetRecord; rfl

theorem takeListBytes_eq (s : State) : takeListBytes s = u8 s.takes.length ++
    (s.takes.flatMap fun x => u8 x.number ++ u8 x.cues.length ++ flagByte x.active) ++
    u16 (256 - (s.takes.map fun x => x.cues.length).sum) := rfl

/-- R189: the twelve reads. -/
theorem reads_show (h : s.canReceive = true) :
    Shows .ident s identRecord ∧ Shows .status s statusRecord ∧
    (∀ item k, configItem item = some k → Shows (.configGet item) s fun t => item :: s32 (readItem t.config k)) ∧
    (∀ b c, chanOfIndex b.toNat = some c → Shows (.channelGet b) s fun t => channelRecord t c) ∧
    (∀ b z, 1 ≤ b.toNat → b.toNat ≤ 24 → s.findZone b.toNat = some z → Shows (.zoneGet b) s fun t => zoneRecordBytes t z) ∧
    (Shows .zoneList s fun t => u8 t.zoneMonitor.zones.length ++ t.zoneMonitor.zones.flatMap fun z => u8 z.number) ∧
    (∀ b m, 1 ≤ b.toNat → b.toNat ≤ 128 → s.findMark b.toNat = some m → Shows (.markGet b) s fun _ => markRecord m) ∧
    (∀ b shown rest, 1 ≤ b.toNat → b.toNat ≤ 128 →
      (s.marks.map (·.number)).filter (fun n => decide (b.toNat ≤ n)) = shown ++ rest →
      shown.length = 60 ∨ (shown.length < 60 ∧ rest = []) →
      Shows (.markList b) s fun _ => u8 shown.length ++ flagByte (!rest.isEmpty) ++ shown.flatMap u8) ∧
    (∀ b k x, 1 ≤ b.toNat → b.toNat ≤ 16 → 1 ≤ k.toNat → k.toNat ≤ 64 → s.findTake b.toNat = some x →
      Shows (.takeGet b k) s fun _ => takeRecord x k.toNat) ∧
    (Shows .takeList s fun t => u8 t.takes.length ++
      (t.takes.flatMap fun x => u8 x.number ++ u8 x.cues.length ++ flagByte x.active) ++
      u16 (256 - (t.takes.map fun x => x.cues.length).sum)) ∧
    (∀ b k m, bankOfNumber b.toNat = some k → s.lens.banks.get k = some m →
      Shows (.lensMapGet b) s fun t => mapRecord k (t.lens.selected == some k) m) ∧
    (∀ b g, 1 ≤ b.toNat → b.toNat ≤ 8 → s.findTarget b.toNat = some g → Shows (.targetGet b) s fun t => targetRecord t g) := by
  refine ⟨?_, ?_, fun item k hk => ?_, fun b c hc => ?_, fun b z h1 h2 hz => ?_, ?_, fun b m h1 h2 hm => ?_,
    fun b shown rest h1 h2 ha hs => ?_, fun b k x h1 h2 h3 h4 hx => ?_, ?_, fun b k m hk hm => ?_, fun b g h1 h2 hg => ?_⟩
  · exact shows_of_read h (f := requestIdent) rfl rfl (identRecord_sendReply _ _)
  · exact shows_of_read h (f := requestStatus) rfl rfl (statusRecord_sendReply _ _)
  · exact shows_of_read h (f := requestConfigGet item) rfl (by rw [requestConfigGet, hk]) rfl
  · exact shows_of_read h (f := requestChannelGet b) rfl (by rw [requestChannelGet, hc]) (channelRecord_sendReply _ _ _)
  · have hv : (serveSupervision s).findZone b.toNat = some z := hz
    exact shows_of_read h (f := requestZoneGet b) rfl 
      (by rw [requestZoneGet, if_neg (by simp [zoneNumber_iff, h1, h2]), hv]) (zoneRecordBytes_sendReply _ _ _)
  · exact shows_of_read h (f := requestZoneList) rfl rfl (congrArg _ (flatMap_singleton _ _))
  · have hv : (serveSupervision s).findMark b.toNat = some m := hm
    exact shows_of_read h (f := requestMarkGet b) rfl (by rw [requestMarkGet, if_neg (by simp [markNumberValid_iff, h1, h2]), hv]) rfl
  · refine shows_of_read h (f := requestMarkList b) rfl ?_ rfl
    rw [requestMarkList, if_neg (by simp [markNumberValid_iff, h1, h2]), ← markListBytes_eq ha hs]
    rfl
  · have hv : (serveSupervision s).findTake b.toNat = some x := hx
    refine shows_of_read h (f := requestTakeGet b k) rfl ?_ rfl
    rw [requestTakeGet, if_neg (by simp [takeNumberValid_iff, cuePosition_iff, h1, h2, h3, h4]), hv]
  · exact shows_of_read h (f := requestTakeList) rfl rfl rfl
  · have hv : (serveSupervision s).lens.banks.get k = some m := hm
    refine shows_of_read h (f := requestLensMapGet b) (b := mapRecord k (s.lens.selected == some k) m) rfl ?_ rfl
    simp only [requestLensMapGet, hk, hv]
    rfl
  · have hv : (serveSupervision s).findTarget b.toNat = some g := hg
    exact shows_of_read h (f := requestTargetGet b) rfl 
      (by rw [requestTargetGet, if_neg (by simp [targetNumberValid_iff, h1, h2]), hv]) (targetRecord_sendReply _ _ _)

/-- Settles O21: the reads one by one, and the layouts field by field. -/
theorem readsShowAndChangeNothing : Obligations.ReadsShowAndChangeNothing :=
  ⟨fun _ h => reads_show h, fun s => ⟨identRecord_layout s, identRecord_length s, statusRecord_length s,
    statusRecord_layout s, fun c => ⟨channelRecord_length s c, channelRecord_layout s c⟩, zoneRecordBytes_layout s,
    targetRecord_layout s⟩, markRecord_layout, fun x k _ => takeRecord_layout x k, mapRecord_layout⟩

end Reads

end Sys2Proof.Machine

/-! Numbers and operands out of range, records that do not exist (R26, R29, R66, R106, R111 and others), and CONFIG_SET (R190,
R191). -/

namespace Sys2Proof.Machine

section Ranges

variable {s : State} {n k : Byte} {m : ChannelMask}

/-! ## The ranges -/

theorem zoneNumber_false {n : Nat} (h : n = 0 ∨ 24 < n) : natRange 1 Config.zoneCapacity n = false := by
  rw [← Bool.not_eq_true, zoneNumber_iff]; omega

theorem markNumber_false {n : Nat} (h : n = 0 ∨ 128 < n) : markNumberValid n = false := by
  rw [← Bool.not_eq_true, markNumberValid_iff]; omega

theorem takeNumber_false {n : Nat} (h : n = 0 ∨ 16 < n) : takeNumberValid n = false := by
  rw [← Bool.not_eq_true, takeNumberValid_iff]; omega

theorem cuePosition_false {n : Nat} (h : n = 0 ∨ 64 < n) : natRange 1 Config.cuesPerTake n = false := by
  rw [← Bool.not_eq_true, cuePosition_iff]; omega

theorem targetNumber_false {n : Nat} (h : n = 0 ∨ 8 < n) : targetNumberValid n = false := by
  rw [← Bool.not_eq_true, targetNumberValid_iff]; omega

theorem maskValid_false (h : m = 0#16 ∨ 512 ≤ m.toNat) : maskValid m = false := by
  rw [← Bool.not_eq_true, maskValid_iff]
  rintro ⟨h1, h2⟩
  exact h.elim h1 fun h => by omega

theorem chanOfIndex_none {n : Nat} (h : 8 < n) : chanOfIndex n = none :=
  List.getElem?_eq_none (by simp [allChans]; omega)

theorem bankOfNumber_none {n : Nat} (h : 3 < n) : bankOfNumber n = none := dif_neg (by omega)

theorem twoValued_none {b : Byte} (h : 1 < b.toNat) : twoValued b = none := by
  have h0 : b ≠ 0#8 := by rintro rfl; simp at h
  have h1 : b ≠ 1#8 := by rintro rfl; simp at h
  simp [twoValued, h0, h1]

theorem cueValid_false {q : CueOperands} (h : q.mark.toNat = 0 ∨ 128 < q.mark.toNat ∨ q.travel.toNat = 0 ∨
    600000 < q.travel.toNat ∨ 600000 < q.dwell.toNat ∨ 1 < q.curve.toNat ∨ q.mask = 0#16 ∨ 512 ≤ q.mask.toNat) :
    cueValid q = false := by
  rw [← Bool.not_eq_true]
  intro hv
  simp only [cueValid, Bool.and_eq_true, markNumberValid_iff, natRange_iff, maxDuration, Option.isSome_iff_ne_none,
    maskValid_iff] at hv
  obtain ⟨⟨⟨⟨hmark, htravel⟩, hdwell⟩, hcurve⟩, hmask⟩ := hv
  rcases h with h | h | h | h | h | h | h | h
  · omega
  · omega
  · omega
  · omega
  · omega
  · exact hcurve (twoValued_none h)
  · exact hmask.1 h
  · omega

end Ranges

/-! ## Requests refused by their operands -/

section Refusals

variable {s : State} {n k : Byte} {m : ChannelMask}

theorem zone_refusals (h : s.canReceive = true) : ∀ i ∈ [Instr.zoneGet n, .zoneRetire n],
    (n.toNat = 0 ∨ 24 < n.toNat → RefusedWith i s .badOperand) ∧
      (1 ≤ n.toNat → n.toNat ≤ 24 → s.findZone n.toNat = none → RefusedWith i s .notFound) := by
  have valid : 1 ≤ n.toNat → n.toNat ≤ 24 → ¬natRange 1 Config.zoneCapacity n.toNat = false := fun h1 h2 => by
    simp [zoneNumber_iff, h1, h2]
  have none : s.findZone n.toNat = none → (serveSupervision s).findZone n.toNat = none := id
  simp only [List.forall_mem_cons]
  refine ⟨⟨fun hn => ?_, fun h1 h2 hz => ?_⟩, ⟨fun hn => ?_, fun h1 h2 hz => ?_⟩, nofun⟩
  · exact refusedWith_of_accepted h (f := requestZoneGet n) rfl (by rw [requestZoneGet, if_pos (zoneNumber_false hn)])
  · exact refusedWith_of_accepted h (f := requestZoneGet n) rfl (by rw [requestZoneGet, if_neg (valid h1 h2), none hz])
  · exact refusedWith_of_accepted h (f := requestZoneRetire n) rfl (by rw [requestZoneRetire, if_pos (zoneNumber_false hn)])
  · exact refusedWith_of_accepted h (f := requestZoneRetire n) rfl (by rw [requestZoneRetire, if_neg (valid h1 h2), none hz])

theorem mark_refusals (h : s.canReceive = true) : ∀ i ∈ [Instr.markGet n, .markRetire n],
    (n.toNat = 0 ∨ 128 < n.toNat → RefusedWith i s .badOperand) ∧
      (1 ≤ n.toNat → n.toNat ≤ 128 → s.findMark n.toNat = none → RefusedWith i s .notFound) := by
  have valid : 1 ≤ n.toNat → n.toNat ≤ 128 → ¬markNumberValid n.toNat = false := fun h1 h2 => by
    simp [markNumberValid_iff, h1, h2]
  have none : s.findMark n.toNat = none → (serveSupervision s).findMark n.toNat = none := id
  simp only [List.forall_mem_cons]
  refine ⟨⟨fun hn => ?_, fun h1 h2 hz => ?_⟩, ⟨fun hn => ?_, fun h1 h2 hz => ?_⟩, nofun⟩
  · exact refusedWith_of_accepted h (f := requestMarkGet n) rfl (by rw [requestMarkGet, if_pos (markNumber_false hn)])
  · exact refusedWith_of_accepted h (f := requestMarkGet n) rfl (by rw [requestMarkGet, if_neg (valid h1 h2), none hz])
  · exact refusedWith_of_accepted h (f := requestMarkRetire n) rfl (by rw [requestMarkRetire, if_pos (markNumber_false hn)])
  · exact refusedWith_of_accepted h (f := requestMarkRetire n) rfl (by rw [requestMarkRetire, if_neg (valid h1 h2), none hz])

theorem target_refusals (h : s.canReceive = true) : ∀ i ∈ [Instr.targetGet n, .targetRetire n],
    (n.toNat = 0 ∨ 8 < n.toNat → RefusedWith i s .badOperand) ∧
      (1 ≤ n.toNat → n.toNat ≤ 8 → s.findTarget n.toNat = none → RefusedWith i s .notFound) := by
  have valid : 1 ≤ n.toNat → n.toNat ≤ 8 → ¬targetNumberValid n.toNat = false := fun h1 h2 => by
    simp [targetNumberValid_iff, h1, h2]
  have none : s.findTarget n.toNat = none → (serveSupervision s).findTarget n.toNat = none := id
  simp only [List.forall_mem_cons]
  refine ⟨⟨fun hn => ?_, fun h1 h2 hz => ?_⟩, ⟨fun hn => ?_, fun h1 h2 hz => ?_⟩, nofun⟩
  · exact refusedWith_of_accepted h (f := requestTargetGet n) rfl (by rw [requestTargetGet, if_pos (targetNumber_false hn)])
  · exact refusedWith_of_accepted h (f := requestTargetGet n) rfl (by rw [requestTargetGet, if_neg (valid h1 h2), none hz])
  · exact refusedWith_of_accepted h (f := requestTargetRetire n) rfl
      (by rw [requestTargetRetire, if_pos (targetNumber_false hn)])
  · exact refusedWith_of_accepted h (f := requestTargetRetire n) rfl
      (by rw [requestTargetRetire, if_neg (valid h1 h2), none hz]; rfl)

theorem take_refusals (h : s.canReceive = true) :
    ∀ i ∈ [Instr.takeGet n 1#8, .takeCueDelete n 1#8, .takeRetire n, .takeArm n],
    (n.toNat = 0 ∨ 16 < n.toNat → RefusedWith i s .badOperand) ∧
      (1 ≤ n.toNat → n.toNat ≤ 16 → s.findTake n.toNat = none → RefusedWith i s .notFound) := by
  have valid : 1 ≤ n.toNat → n.toNat ≤ 16 → takeNumberValid n.toNat = true := fun h1 h2 => takeNumberValid_iff.2 ⟨h1, h2⟩
  have place : natRange 1 Config.cuesPerTake (1#8).toNat = true := by decide
  have none : s.findTake n.toNat = none → (serveSupervision s).findTake n.toNat = none := id
  simp only [List.forall_mem_cons]
  refine ⟨⟨fun hn => ?_, fun h1 h2 hz => ?_⟩, ⟨fun hn => ?_, fun h1 h2 hz => ?_⟩, ⟨fun hn => ?_, fun h1 h2 hz => ?_⟩,
    ⟨fun hn => ?_, fun h1 h2 hz => ?_⟩, nofun⟩
  · exact refusedWith_of_accepted h (f := requestTakeGet n _) rfl
      (by rw [requestTakeGet, if_pos (.inl (takeNumber_false hn))])
  · exact refusedWith_of_accepted h (f := requestTakeGet n _) rfl
      (by rw [requestTakeGet, if_neg (by rw [valid h1 h2, place]; simp), none hz])
  · exact refusedWith_of_accepted h (f := requestTakeCueDelete n _) rfl
      (by rw [requestTakeCueDelete, if_pos (.inl (takeNumber_false hn))])
  · exact refusedWith_of_accepted h (f := requestTakeCueDelete n _) rfl
      (by rw [requestTakeCueDelete, if_neg (by rw [valid h1 h2, place]; simp), none hz])
  · exact refusedWith_of_accepted h (f := requestTakeRetire n) rfl (by rw [requestTakeRetire, if_pos (takeNumber_false hn)])
  · exact refusedWith_of_accepted h (f := requestTakeRetire n) rfl
      (by rw [requestTakeRetire, if_neg (by simp [valid h1 h2]), none hz])
  · exact refusedWith_of_accepted h (f := requestTakeArm n) rfl (by rw [requestTakeArm, if_pos (takeNumber_false hn)])
  · exact refusedWith_of_accepted h (f := requestTakeArm n) rfl
      (by rw [requestTakeArm, if_neg (by simp [valid h1 h2]), none hz])

theorem map_refusals (h : s.canReceive = true) : ∀ i ∈ [Instr.lensMapGet n, .lensMapRetire n],
    (3 < n.toNat → RefusedWith i s .badOperand) ∧
      (∀ k, bankOfNumber n.toNat = some k → s.lens.banks.get k = none → RefusedWith i s .notFound) := by
  have none : ∀ k, s.lens.banks.get k = none → (serveSupervision s).lens.banks.get k = none := fun _ => id
  simp only [List.forall_mem_cons]
  refine ⟨⟨fun hn => ?_, fun k hk hz => ?_⟩, ⟨fun hn => ?_, fun k hk hz => ?_⟩, nofun⟩
  · exact refusedWith_of_accepted h (f := requestLensMapGet n) rfl (by rw [requestLensMapGet, bankOfNumber_none hn])
  · exact refusedWith_of_accepted h (f := requestLensMapGet n) rfl (by simp only [requestLensMapGet, hk, none k hz])
  · exact refusedWith_of_accepted h (f := requestLensMapRetire n) rfl (by rw [requestLensMapRetire, bankOfNumber_none hn])
  · exact refusedWith_of_accepted h (f := requestLensMapRetire n) rfl
      (by simp only [requestLensMapRetire, hk, none k hz, Option.isNone_none, if_true])

theorem markWriteCode_badOperand (h : n.toNat = 0 ∨ 128 < n.toNat ∨ m = 0#16 ∨ 512 ≤ m.toNat) (s : State) :
    markWriteCode n m s = some .badOperand := by
  rw [markWriteCode, if_pos]
  rcases h with h | h | h | h
  · exact .inl (markNumber_false (.inl h))
  · exact .inl (markNumber_false (.inr h))
  · exact .inr (maskValid_false (.inl h))
  · exact .inr (maskValid_false (.inr h))

theorem markWrite_refusals (h : s.canReceive = true) (tag : BitVec 16)
    (hm : n.toNat = 0 ∨ 128 < n.toNat ∨ m = 0#16 ∨ 512 ≤ m.toNat) :
    RefusedWith (.markCapture n tag m) s .badOperand ∧
      ∀ vs, vs.length = maskCount m → RefusedWith (.markSet n tag m vs) s .badOperand := by
  refine ⟨?_, fun vs hv => ?_⟩
  · exact refusedWith_of_accepted h (f := requestMarkCapture n tag m) rfl
      (by rw [requestMarkCapture, markWriteCode_badOperand hm])
  · exact refusedWith_of_accepted h (f := requestMarkSet n tag m vs) rfl
      (by rw [requestMarkSet, if_neg (by simp [hv]), markWriteCode_badOperand hm])

theorem cue_refusals (h : s.canReceive = true) (q : CueOperands) (hq : cueValid q = false) :
    RefusedWith (.takeCueInsert n k q) s .badOperand ∧ RefusedWith (.takeCueReplace n k q) s .badOperand := by
  refine ⟨?_, ?_⟩
  · exact refusedWith_of_accepted h (f := requestTakeCueInsert n k q) rfl
      (by rw [requestTakeCueInsert, if_pos (.inr (.inr hq))])
  · exact refusedWith_of_accepted h (f := requestTakeCueReplace n k q) rfl
      (by rw [requestTakeCueReplace, if_pos (.inr (.inr hq))])

theorem place_refusals (h : s.canReceive = true) : (k.toNat = 0 ∨ 64 < k.toNat → RefusedWith (.takeGet n k) s .badOperand ∧
      RefusedWith (.takeCueDelete n k) s .badOperand ∧ ∀ q, RefusedWith (.takeCueReplace n k q) s .badOperand) ∧
    (k.toNat = 0 ∨ 65 < k.toNat → ∀ q, RefusedWith (.takeCueInsert n k q) s .badOperand) := by
  refine ⟨fun hk => ⟨?_, ?_, fun q => ?_⟩, fun hk q => ?_⟩
  · exact refusedWith_of_accepted h (f := requestTakeGet n k) rfl
      (by rw [requestTakeGet, if_pos (.inr (cuePosition_false hk))])
  · exact refusedWith_of_accepted h (f := requestTakeCueDelete n k) rfl
      (by rw [requestTakeCueDelete, if_pos (.inr (cuePosition_false hk))])
  · exact refusedWith_of_accepted h (f := requestTakeCueReplace n k q) rfl
      (by rw [requestTakeCueReplace, if_pos (.inr (.inl (cuePosition_false hk)))])
  · have hr : natRange 1 65 k.toNat = false := by rw [← Bool.not_eq_true, natRange_iff]; omega
    exact refusedWith_of_accepted h (f := requestTakeCueInsert n k q) rfl
      (by rw [requestTakeCueInsert, if_pos (.inr (.inl hr))])

theorem gotoMark_refusals (h : s.canReceive = true) (m : ChannelMask) :
    (n.toNat = 0 ∨ 128 < n.toNat → RefusedWith (.gotoMark n m) s .badOperand) ∧
      (1 ≤ n.toNat → n.toNat ≤ 128 → m ≠ 0#16 → m.toNat < 512 → s.findMark n.toNat = none →
        RefusedWith (.gotoMark n m) s .notFound) := by
  refine ⟨fun hn => ?_, fun h1 h2 h3 h4 hz => ?_⟩
  · exact refusedWith_of_accepted h (f := requestGotoMark n m) rfl
      (by rw [requestGotoMark, if_pos (.inl (markNumber_false hn))])
  · have hv : natRange 1 Config.markCapacity n.toNat = true := natRange_iff.2 ⟨h1, h2⟩
    have none : (serveSupervision s).findMark n.toNat = none := hz
    exact refusedWith_of_accepted h (f := requestGotoMark n m) rfl
      (by rw [requestGotoMark, if_neg (by rw [hv, maskValid_iff.2 ⟨h3, h4⟩]; simp), none])

theorem motion_refusals (h : s.canReceive = true) :
    (∀ b v, 8 < b.toNat ∨ v.toInt < -1000000 ∨ 1000000 < v.toInt → RefusedWith (.jog b v) s .badOperand) ∧
      (∀ m, m = 0#16 ∨ 512 ≤ m.toNat → RefusedWith (.release m) s .badOperand ∧
        (∀ n, RefusedWith (.gotoMark n m) s .badOperand) ∧
        ∀ ps, ps.length = maskCount m → RefusedWith (.goto m ps) s .badOperand) ∧
      (∀ w c g, w.toNat = 0 ∨ 4 < w.toNat ∨ (8 < c.toNat ∧ c ≠ 0xFF#8) → RefusedWith (.wheelAssign w c g) s .badOperand) := by
  refine ⟨fun b v hv => ?_, fun m hm => ⟨?_, fun n => ?_, fun ps hp => ?_⟩, fun w c g hw => ?_⟩
  · refine refusedWith_of_accepted h (f := requestJog b v) rfl ?_
    rw [requestJog]
    cases hb : chanOfIndex b.toNat with
    | none => rfl
    | some c =>
      have hr : inRange (-jogLimit) jogLimit v.toInt = false := by
        rw [← Bool.not_eq_true, inRange_iff, jogLimit]
        rcases hv with hv | hv | hv
        · rw [chanOfIndex_none hv] at hb; cases hb
        · omega
        · omega
      simp only [hr, if_true]
  · exact refusedWith_of_accepted h (f := requestRelease m) rfl (by rw [requestRelease, if_pos (maskValid_false hm)])
  · exact refusedWith_of_accepted h (f := requestGotoMark n m) rfl
      (by rw [requestGotoMark, if_pos (.inr (maskValid_false hm))])
  · exact refusedWith_of_accepted h (f := requestGoto m ps) rfl
      (by rw [requestGoto, if_neg (by simp [hp]), if_pos (maskValid_false hm)])
  · refine refusedWith_of_accepted h (f := requestWheelAssign w c g) rfl ?_
    unfold requestWheelAssign
    split
    next x y hx hy =>
      exfalso
      rcases hw with hw | hw | ⟨hc, hf⟩
      · rw [wheelOfNumber, dif_neg (by omega)] at hx; cases hx
      · rw [wheelOfNumber, dif_neg (by omega)] at hx; cases hx
      · rw [wheelChannel, if_neg hf, chanOfIndex_none hc] at hy; cases hy
    next => rfl

/-! ## CONFIG_SET (R191) -/

theorem clampInt_eq {lo hi : Int} (h : lo ≤ hi) (v : Int) : clampInt lo hi v = max lo (min hi v) := by
  unfold clampInt
  split_ifs <;> omega

theorem itemRange_clamp (k : ConfigKey) (v : Int) :
    clampInt (itemRange k).1 (itemRange k).2 v = max (itemRange k).1 (min (itemRange k).2 v) :=
  clampInt_eq (itemRange_ordered k) v

theorem itemRange_of_twoValued {k : ConfigKey} (h : twoValuedItem k = true) : itemRange k = (0, 1) := by
  cases k <;> simp_all [twoValuedItem, itemRange]

/-- R191, test 5. -/
theorem configSet_outOfOrder {k : ConfigKey} {item : Byte} {value : BitVec 32} (hk : configItem item = some k)
    (h2 : twoValuedItem k = false) (hp : parkedItem k = false)
    (ho : keepsOrder s.config k (clampInt (itemRange k).1 (itemRange k).2 value.toInt) = false) :
    requestConfigSet item value s = refuse s .badOperand := by
  simp [requestConfigSet, hk, h2, hp, ho]

theorem config_refusals (h : s.canReceive = true) (item : Byte) (value : BitVec 32) :
    (configItem item = none → RefusedWith (.configSet item value) s .badOperand ∧
      RefusedWith (.configGet item) s .badOperand) ∧
    ∀ k, configItem item = some k →
      (twoValuedItem k = true → value.toInt ≠ 0 → value.toInt ≠ 1 → RefusedWith (.configSet item value) s .badOperand) ∧
      ((twoValuedItem k = true → value.toInt = 0 ∨ value.toInt = 1) → parkedItem k = true → s.crane.state ≠ .parked →
        RefusedWith (.configSet item value) s .state) ∧
      (∀ c, k = .softLo c → (s.cfg c).hi < max (softRange c).1 (min (softRange c).2 value.toInt) →
        RefusedWith (.configSet item value) s .badOperand) ∧
      (∀ c, k = .softHi c → max (softRange c).1 (min (softRange c).2 value.toInt) < (s.cfg c).lo →
        RefusedWith (.configSet item value) s .badOperand) := by
  refine ⟨fun hi => ⟨?_, ?_⟩, fun k hk => ⟨fun h2 hv0 hv1 => ?_, fun h2 hp hs => ?_, ?_, ?_⟩⟩
  · exact refusedWith_of_accepted h (f := requestConfigSet item value) rfl (by rw [requestConfigSet, hi])
  · exact refusedWith_of_accepted h (f := requestConfigGet item) rfl (by rw [requestConfigGet, hi])
  · refine refusedWith_of_accepted h (f := requestConfigSet item value) rfl ?_
    have hr : inRange 0 1 value.toInt = false := by rw [← Bool.not_eq_true, inRange_iff]; omega
    simp [requestConfigSet, hk, h2, itemRange_of_twoValued h2, hr]
  · refine refusedWith_of_accepted h (f := requestConfigSet item value) rfl ?_
    have hr : ¬(twoValuedItem k = true ∧ inRange (itemRange k).1 (itemRange k).2 value.toInt = false) := by
      rintro ⟨h3, h4⟩
      rw [itemRange_of_twoValued h3, ← Bool.not_eq_true, inRange_iff] at h4
      have := h2 h3
      omega
    rw [requestConfigSet, hk]
    dsimp only
    rw [if_neg hr, if_pos ⟨hp, hs⟩]
  · rintro c rfl ho
    refine refusedWith_of_accepted h (f := requestConfigSet item value) rfl ?_
    refine configSet_outOfOrder hk rfl rfl ?_
    rw [itemRange_clamp]
    exact decide_eq_false (not_le.2 ho)
  · rintro c rfl ho
    refine refusedWith_of_accepted h (f := requestConfigSet item value) rfl ?_
    refine configSet_outOfOrder hk rfl rfl ?_
    rw [itemRange_clamp]
    exact decide_eq_false (not_le.2 ho)

/-- Settles O22: request by request, the first test that fails. -/
theorem requestTestsRefuse : Obligations.RequestTestsRefuse := by
  refine ⟨fun s n h => ⟨zone_refusals h, mark_refusals h, fun hn => ?_, fun tag m hm => markWrite_refusals h tag hm, fun hn => ?_,
    fun k q hq => cue_refusals h q (cueValid_false hq), take_refusals h, fun k => place_refusals h,
    fun m => gotoMark_refusals h m, fun hn => ?_, target_refusals h, map_refusals h⟩,
    fun s item value h => config_refusals h item value, fun s h => motion_refusals h⟩
  · exact refusedWith_of_accepted h (f := requestMarkList n) rfl (by rw [requestMarkList, if_pos (markNumber_false hn)])
  · exact refusedWith_of_accepted h (f := requestChannelGet n) rfl (by rw [requestChannelGet, chanOfIndex_none hn])
  · exact refusedWith_of_accepted h (f := requestTrackOn n) rfl (by rw [requestTrackOn, if_pos (targetNumber_false hn)])

end Refusals

/-! ## CONFIG_SET (R190, R191) -/

section Config

variable {s : State} {item : Byte} {value : BitVec 32} {k j : ConfigKey} {w : Int} {g : ConfigItems}

theorem readItem_storeItem_same (h1 : (itemRange k).1 ≤ w) (h2 : w ≤ (itemRange k).2) :
    readItem (storeItem g k w) k = w := by
  have nat : 0 ≤ w → Int.ofNat w.toNat = w := fun h => Int.toNat_of_nonneg h
  have two : 0 ≤ w → w ≤ 1 → w = 0 ∨ w = 1 := fun h h' => by omega
  cases k
  case softLo c => simp [readItem, storeItem, setParameters]
  case softHi c => simp [readItem, storeItem, setParameters]
  case supervisionMode => rcases two h1 h2 with rfl | rfl <;> rfl
  case keepActive c => rcases two h1 h2 with rfl | rfl <;> simp [readItem, storeItem, setParameters, boolCode]
  case polarity l => rcases two h1 h2 with rfl | rfl <;> simp [readItem, storeItem, setLine, polarityCode]
  case releaseDelay l => simpa [readItem, storeItem, setLine] using nat h1
  case vmax c => simpa [readItem, storeItem, setParameters] using nat (le_trans (b := 1) (by decide) h1)
  case accel c => simpa [readItem, storeItem, setParameters] using nat (le_trans (b := 1) (by decide) h1)
  case stopStep c => simpa [readItem, storeItem, setParameters] using nat (le_trans (b := 1) (by decide) h1)
  case followLimit c => simpa [readItem, storeItem, setParameters] using nat (le_trans (b := 1) (by decide) h1)
  case releaseSlot c => simpa [readItem, storeItem, setParameters] using nat (le_trans (b := 1) (by decide) h1)
  all_goals exact nat (le_trans (by decide) h1)

/-- A parameter of another channel, or another parameter of this one, is read as it was. -/
theorem readItem_setParameters {c : Chan} {f : ChannelConfig → ChannelConfig}
    (h : ∀ d, (j = .softLo d ∨ j = .softHi d ∨ j = .vmax d ∨ j = .accel d ∨ j = .stopStep d ∨ j = .followLimit d ∨
      j = .releaseSlot d ∨ j = .keepActive d) → d = c →
      readItem { g with channels := g.channels.set c (f (g.channels.get c)) } j = readItem g j) :
    readItem (setParameters g c f) j = readItem g j := by
  have other : ∀ d, d ≠ c → (setParameters g c f).channels.get d = g.channels.get d := by
    intro d hd
    simp [setParameters, PerChannel.get_set, hd]
  cases j
  case softLo d => by_cases hd : d = c; exacts [h d (by simp) hd, by simp only [readItem, other d hd]]
  case softHi d => by_cases hd : d = c; exacts [h d (by simp) hd, by simp only [readItem, other d hd]]
  case vmax d => by_cases hd : d = c; exacts [h d (by simp) hd, by simp only [readItem, other d hd]]
  case accel d => by_cases hd : d = c; exacts [h d (by simp) hd, by simp only [readItem, other d hd]]
  case stopStep d => by_cases hd : d = c; exacts [h d (by simp) hd, by simp only [readItem, other d hd]]
  case followLimit d => by_cases hd : d = c; exacts [h d (by simp) hd, by simp only [readItem, other d hd]]
  case releaseSlot d => by_cases hd : d = c; exacts [h d (by simp) hd, by simp only [readItem, other d hd]]
  case keepActive d => by_cases hd : d = c; exacts [h d (by simp) hd, by simp only [readItem, other d hd]]
  all_goals rfl

/-- A write leaves every other item as it is. -/
theorem readItem_storeItem_other (h : j ≠ k) : readItem (storeItem g k w) j = readItem g j := by
  have line : ∀ (l : Fin 12) (f : LineConfig → LineConfig),
      (∀ d, j = .polarity d ∨ j = .releaseDelay d → d = l → readItem (setLine g l f) j = readItem g j) →
      readItem (setLine g l f) j = readItem g j := by
    intro l f hf
    have other : ∀ d, d ≠ l → (setLine g l f).lines.get d = g.lines.get d := by
      intro d hd
      simp [setLine, PerLine.get_set, hd]
    cases j
    case polarity d => by_cases hd : d = l; exacts [hf d (by simp) hd, by simp only [readItem, other d hd]]
    case releaseDelay d => by_cases hd : d = l; exacts [hf d (by simp) hd, by simp only [readItem, other d hd]]
    all_goals rfl
  cases k
  case polarity l =>
    refine line l _ fun d hj hd => ?_
    subst hd
    rcases hj with rfl | rfl <;> simp_all [readItem, setLine]
  case releaseDelay l =>
    refine line l _ fun d hj hd => ?_
    subst hd
    rcases hj with rfl | rfl <;> simp_all [readItem, setLine]
  case softLo | softHi | vmax | accel | stopStep | followLimit | releaseSlot | keepActive =>
    refine readItem_setParameters fun d hj hd => ?_
    subst hd
    rcases hj with rfl | rfl | rfl | rfl | rfl | rfl | rfl | rfl <;> simp_all [readItem]
  all_goals cases j <;> simp_all [readItem, storeItem]

theorem withLimits_eq (lo hi : Int) (r : Channel) : withLimits lo hi r = flaggedRecord lo hi r := by
  simp only [withLimits, flaggedRecord, outsideOf, onLimit, standsOutside, standsOn, Bool.decide_or]

theorem limitItem_eq {c : Chan} : limitItem k = some c ↔ k = .softLo c ∨ k = .softHi c := by
  cases k <;> simp [limitItem]

/-- R191: a write whose tests are passed. -/
theorem requestConfigSet_stored (hk : configItem item = some k) (h2 : twoValuedItem k = true → value.toInt = 0 ∨ value.toInt = 1)
    (hp : parkedItem k = true → s.crane.state = .parked)
    (ho : keepsOrder s.config k (max (itemRange k).1 (min (itemRange k).2 value.toInt)) = true) :
    requestConfigSet item value s = (actOnWrite k { s with
        config := storeItem s.config k (max (itemRange k).1 (min (itemRange k).2 value.toInt)) },
      ⟨if max (itemRange k).1 (min (itemRange k).2 value.toInt) = value.toInt then .ok else .clamped,
        item :: s32 (max (itemRange k).1 (min (itemRange k).2 value.toInt))⟩) := by
  have hr : ¬(twoValuedItem k = true ∧ inRange (itemRange k).1 (itemRange k).2 value.toInt = false) := by
    rintro ⟨h3, h4⟩
    rw [itemRange_of_twoValued h3, ← Bool.not_eq_true, inRange_iff] at h4
    have := h2 h3
    omega
  have hq : ¬(parkedItem k = true ∧ s.crane.state ≠ .parked) := fun h => h.2 (hp h.1)
  rw [requestConfigSet, hk]
  dsimp only
  rw [if_neg hr, if_neg hq, itemRange_clamp, if_neg (by simp [ho])]
  rfl

/-- R10, R190: CONFIG_SET where its tests are passed. -/
theorem configSet_stores (h : s.canReceive = true) (hk : configItem item = some k)
    (h2 : twoValuedItem k = true → value.toInt = 0 ∨ value.toInt = 1)
    (hp : parkedItem k = true → s.crane.state = .parked)
    (ho : keepsOrder s.config k (max (itemRange k).1 (min (itemRange k).2 value.toInt)) = true) :
    ∃ t w, w = max (itemRange k).1 (min (itemRange k).2 value.toInt) ∧
      Replied (.configSet item value) s t (if w = value.toInt then .ok else .clamped) (item :: s32 w) ∧
      readItem t.config k = w ∧ (∀ j, j ≠ k → readItem t.config j = readItem s.config j) ∧
      t = { servedBy s t with config := t.config, channels := t.channels, presence := t.presence, notices := t.notices } ∧
      ((∀ l, k ≠ .polarity l) → t.presence = s.presence ∧ t.notices = s.notices) ∧
      ∀ c, t.chan c = if (k = .softLo c ∨ k = .softHi c) ∧ limitsConfigured s c = true then
          { s.chan c with
            outside := standsOutside (t.lo c) (t.hi c) (s.chan c).setpoint
            atLimit := (s.chan c).atLimit && standsOn (t.lo c) (t.hi c) (s.chan c).setpoint }
        else s.chan c := by
  set w := max (itemRange k).1 (min (itemRange k).2 value.toInt) with hw
  have hlow : (itemRange k).1 ≤ w := le_max_left _ _
  have hhigh : w ≤ (itemRange k).2 := max_le (itemRange_ordered k) (min_le_left _ _)
  set v := serveSupervision s with hv
  set u := actOnWrite k { v with config := storeItem v.config k w } with hu
  have hf : requestConfigSet item value v = (u, ⟨if w = value.toInt then .ok else .clamped, item :: s32 w⟩) :=
    requestConfigSet_stored hk h2 hp ho
  have huc : u.config = storeItem s.config k w := by rw [hu, actOnWrite_frame]; rfl
  refine ⟨_, w, rfl, replied_of_taken h rfl hf, ?_, fun j hj => ?_, ?_, fun hl => ?_, fun c => ?_⟩
  · show readItem u.config k = w
    rw [huc, readItem_storeItem_same hlow hhigh]
  · show readItem u.config j = _
    rw [huc, readItem_storeItem_other hj]
  · show sendReply _ u = _
    rw [hu, actOnWrite_frame, hv, serveSupervision_eq]
    rfl
  · have : u.presence = v.presence ∧ u.notices = v.notices := by
      rw [hu]
      unfold actOnWrite
      split
      · split <;> exact ⟨rfl, rfl⟩
      · split <;> exact ⟨rfl, rfl⟩
      next l => exact absurd rfl (hl l)
      · exact ⟨rfl, rfl⟩
      · exact ⟨rfl, rfl⟩
    exact this
  · show u.chan c = _
    rw [hu, chan_actOnWrite, withLimits_eq]
    have hlim : u.limits c = ({ v with config := storeItem v.config k w } : State).limits c := by
      rw [hu, actOnWrite_frame]
      rfl
    have hlo : ∀ r, (sendReply r u).lo c = ({ v with config := storeItem v.config k w } : State).lo c :=
      fun _ => congrArg Prod.fst hlim
    have hhi : ∀ r, (sendReply r u).hi c = ({ v with config := storeItem v.config k w } : State).hi c :=
      fun _ => congrArg Prod.snd hlim
    rw [hlo, hhi]
    by_cases hc : limitItem k = some c ∧ limitsConfigured s c = true
    · exact (if_pos hc).trans (if_pos (c := (k = .softLo c ∨ k = .softHi c) ∧ limitsConfigured s c = true)
        ⟨limitItem_eq.1 hc.1, hc.2⟩).symm
    · exact (if_neg hc).trans (if_neg (c := (k = .softLo c ∨ k = .softHi c) ∧ limitsConfigured s c = true)
        fun h => hc ⟨limitItem_eq.2 h.1, h.2⟩).symm

/-- s with line l refilled (R65). -/
def refilled (l : Fin 12) (s : State) : State :=
  { s with
    presence := s.presence.set l
      ⟨⟨true, true, true, true, (s.presence.get l).filter.changed || !(s.presence.get l).filter.filtered⟩, true, none⟩ }

theorem refillLine_eq (l : Fin 12) (s : State) : refillLine l s =
    if (s.presence.get l).filter.filtered = true then refilled l s else raiseInput (refilled l s) := by
  unfold refillLine refilled
  cases h : (s.presence.get l).filter.filtered <;> simp [h]

theorem refillLine_presence (s : State) (l : Fin 12) : (refillLine l s).presence = s.presence.set l
    ⟨⟨true, true, true, true, (s.presence.get l).filter.changed || !(s.presence.get l).filter.filtered⟩, true, none⟩ := by
  rw [refillLine_eq]
  split <;> rfl

theorem refillLine_notices (s : State) (l : Fin 12) : (refillLine l s).notices =
    if (s.presence.get l).filter.filtered = true then s.notices
    else noticesWith { s.notices with input := ⟨some (changeFlags (refillLine l s)), s.notices.input.detail.isSome⟩ } := by
  rw [refillLine_eq]
  split
  · rfl
  · exact withAttn_eq _

/-- R65: a write of a polarity. -/
theorem configSet_polarity {l : Fin 12} (h : s.canReceive = true) (hk : configItem item = some (.polarity l))
    (hv : value.toInt = 0 ∨ value.toInt = 1) :
    ∃ t, Replied (.configSet item value) s t .ok (item :: s32 value.toInt) ∧
      (t.config.lines.get l).polarity = (if value.toInt = 0 then .highOccupied else .lowOccupied) ∧
      t.presence.get l = ⟨⟨true, true, true, true,
        (s.presence.get l).filter.changed || !(s.presence.get l).filter.filtered⟩, true, none⟩ ∧
      (∀ j, j ≠ l → t.presence.get j = s.presence.get j) ∧
      t.notices = if (s.presence.get l).filter.filtered = true then s.notices
        else noticesWith { s.notices with input := ⟨some (changeFlags t), s.notices.input.detail.isSome⟩ } := by
  have hw : max (itemRange (.polarity l)).1 (min (itemRange (.polarity l)).2 value.toInt) = value.toInt := by
    show max 0 (min 1 value.toInt) = _
    omega
  set v := serveSupervision s with hvd
  set x : State := { v with config := storeItem v.config (.polarity l) value.toInt } with hx
  have hf := requestConfigSet_stored (s := v) hk (fun _ => hv) nofun rfl
  rw [hw, if_pos rfl] at hf
  refine ⟨_, replied_of_taken h rfl hf, ?_, ?_, fun j hj => ?_, ?_⟩
  · show ((refillLine l x).config.lines.get l).polarity = _
    rw [refillLine_frame]
    simp [hx, storeItem, setLine]
  · show (refillLine l x).presence.get l = _
    rw [refillLine_presence, PerLine.get_set, if_pos rfl]
    rfl
  · show (refillLine l x).presence.get j = _
    rw [refillLine_presence, PerLine.get_set, if_neg hj]
    rfl
  · exact refillLine_notices x l

/-- R181: a write of the supervision mode. -/
theorem configSet_mode {v : BitVec 32} (h : s.canReceive = true) (hv : v.toInt = 0 ∨ v.toInt = 1) :
    ∃ t, Replied (.configSet 0x0A#8 v) s t .ok (0x0A#8 :: s32 v.toInt) ∧
      t = { servedBy s t with config := { s.config with
        supervisionMode := if v.toInt = 0 then .periodic else .periodicNotice } } ∧
      t.link.periodic = .running 0 s.config.supervisionPeriod ∧
      t.link.noticeTimer = if v.toInt = 0 then .stopped else timerFor s.config.supervisionPeriod s.notices := by
  have hw : max (itemRange .supervisionMode).1 (min (itemRange .supervisionMode).2 v.toInt) = v.toInt := by
    show max 0 (min 1 v.toInt) = _
    omega
  have hf := requestConfigSet_stored (s := serveSupervision s) (item := 0x0A#8) (k := .supervisionMode) rfl (fun _ => hv)
    nofun rfl
  rw [hw, if_pos rfl] at hf
  refine ⟨_, replied_of_taken h rfl hf, ?_, ?_, ?_⟩
  · rw [serveSupervision_eq]
    rfl
  · rw [serveSupervision_eq]
    rfl
  · rcases hv with hv | hv
    · rw [hv]; rfl
    · rw [hv]; rfl

/-- R181: a write of the period: the timers that the acceptance started have the old one. -/
theorem configSet_period (h : s.canReceive = true) (v : BitVec 32) : ∃ t, exec (.configSet 0x09#8 v) s = .next t ∧
    t = { servedBy s t with config := { s.config with supervisionPeriod := (max 20 (min 5000 v.toInt)).toNat } } ∧
    t.link.periodic = .running 0 s.config.supervisionPeriod ∧ t.link.noticeTimer = servedTimer s := by
  have hf := requestConfigSet_stored (s := serveSupervision s) (item := 0x09#8) (k := .supervisionPeriod) (value := v) rfl
    nofun nofun rfl
  refine ⟨_, (replied_of_taken h rfl hf).1, ?_, ?_, ?_⟩
  · rw [serveSupervision_eq]
    rfl
  · rw [serveSupervision_eq]
    rfl
  · rw [serveSupervision_eq]
    rfl

/-- Settles O23: a write stores its value and acts at once on flags, presence and supervision. -/
theorem configSetStoresTheValue : Obligations.ConfigSetStoresTheValue :=
  ⟨fun _ _ _ _ h hk h2 hp ho => configSet_stores h hk h2 hp ho, fun _ _ _ _ h hk hv => configSet_polarity h hk hv,
    fun _ _ h hv => configSet_mode h hv, fun _ v h => configSet_period h v⟩

end Config

end Sys2Proof.Machine

/-! The change of crane state as a record, and the sequences of arming and parking (R32 to R41): O24 to O27. -/

namespace Sys2Proof.Machine

/-! ## Raising STATE -/

section Raising

variable (s : State)

/-- R31, R183, R185: a raise of STATE writes the notice and, it may be, the notice timer. -/
theorem raiseState_eq (d : StateDetail) : raiseState d s =
    { withTimerOf s (raiseState d s) with notices := stateNotice d s.notices } := by
  unfold raiseState startNoticeTimer
  split
  all_goals
    simp only [setNotices, withAttn_eq]
    rfl

/-- The crane record after a change of crane state (R43). -/
def enteredCrane (st : CraneState) (s : State) : CraneRecord :=
  { s.crane with state := st, retreat := if s.crane.state = .ready ∧ st ≠ .ready then false else s.crane.retreat }

/-- The Stop Monitor after a change of crane state (R43). -/
def enteredStops (st : CraneState) (s : State) : StopRecord :=
  { s.stops with retreatSet := if s.crane.state = .ready ∧ st ≠ .ready then [] else s.stops.retreatSet }

/-- R31, R43: a change of crane state, whole. -/
theorem enterCrane_eq (st : CraneState) (x : StateExtra) : enterCrane st x s =
    { withTimerOf s (enterCrane st x s) with
      crane := enteredCrane st s
      stops := enteredStops st s
      notices := stateNotice ⟨st, s.stops.first, x⟩ s.notices } := by
  have h : enterCrane st x s = raiseState ⟨st, s.stops.first, x⟩
      { s with crane := enteredCrane st s, stops := enteredStops st s } := by
    unfold enterCrane enteredCrane enteredStops clearRetreat
    split <;> rfl
  rw [h]
  exact raiseState_eq _ _

theorem enterCrane_brakes (st : CraneState) (x : StateExtra) : (enterCrane st x s).crane.brakes = s.crane.brakes := by
  rw [enterCrane_crane]

theorem enteredCrane_of_ne {st : CraneState} (h : s.crane.state ≠ .ready) :
    enteredCrane st s = { s.crane with state := st } := by
  rw [enteredCrane, if_neg fun e => h e.1]

theorem enteredStops_of_ne {st : CraneState} (h : s.crane.state ≠ .ready) : enteredStops st s = s.stops := by
  rw [enteredStops, if_neg fun e => h e.1]

end Raising

/-! ## The lowest of several -/

/-- The search of a list in ascending order of f finds an element below which nothing passes. -/
theorem find?_of_lowest {α : Type} {f : α → Nat} {p : α → Bool} {c : α} : ∀ {l : List α}, l.Pairwise (fun a b => f a < f b) →
    c ∈ l → p c = true → (∀ d, f d < f c → p d = false) → l.find? p = some c
  | [], _, hc, _, _ => by cases hc
  | x :: l, hl, hc, hp, h => by
    rw [List.pairwise_cons] at hl
    rw [List.find?_cons]
    rcases List.mem_cons.1 hc with rfl | hm
    · rw [hp]
    · rw [h x (hl.1 c hm)]
      exact find?_of_lowest hl.2 hm hp h

theorem allChans_ascending : allChans.Pairwise fun c d => chanIndex c < chanIndex d := by decide

theorem find?_chan_of_lowest {p : Chan → Bool} {c : Chan} (hp : p c = true)
    (h : ∀ d, chanIndex d < chanIndex c → p d = false) : allChans.find? p = some c :=
  find?_of_lowest allChans_ascending (mem_allChans c) hp h

section Sequences

variable {s : State} {n : Nat}

theorem outsideOf_eq (lo hi x : Int) : outsideOf lo hi x = standsOutside lo hi x := by
  simp only [outsideOf, standsOutside, Bool.decide_or]

theorem enableChannel_eq (lo hi : Int) (r : Channel) :
    enableChannel lo hi r = { followRecord lo hi r.feedback .enabling r with commanded := true } := by
  rw [enableChannel, withOutside, outsideOf_eq]
  rfl

/-- The brakes that the start of a parking slot applies (R40). -/
theorem brakes_startParkingSlot (n : Nat) (s : State) {c : Chan} {b : Fin 4} (h : brakeOf c = some b) :
    (startParkingSlot n s).crane.brakes.get b = (s.crane.brakes.get b || decide ((s.cfg c).releaseSlot = n)) := by
  have hb := get_foldl_brakes (fun c => decide ((s.cfg c).releaseSlot = n)) true s.crane.brakes h
  simp only [decide_eq_true_eq] at hb
  refine Eq.trans hb ?_
  by_cases hn : (s.cfg c).releaseSlot = n <;> simp [hn]

theorem startParkingSlot_frame (n : Nat) (s : State) : startParkingSlot n s =
    { s with crane := { s.crane with
        slotPointer := some n, slotTimer := 0, brakes := (startParkingSlot n s).crane.brakes } } := rfl

/-! ## ARM (R33, R34) -/

theorem requestArm_notParked (h : s.crane.state ≠ .parked) : requestArm s = refuse s .state := if_pos h

theorem requestArm_latched (h : s.crane.state = .parked) (hl : noneLatched s.stops.latches = false) :
    requestArm s = refuse s .latched := by
  rw [requestArm, if_neg (by simp [h]), if_pos hl]

theorem requestArm_zone (h : s.crane.state = .parked) (hl : noneLatched s.stops.latches = true)
    (hz : s.stops.conditions.zone ≠ none) : requestArm s = refuse s .causeActive := by
  rw [requestArm, if_neg (by simp [h]), if_neg (by simp [hl]), if_pos (Option.isSome_iff_ne_none.2 hz)]

theorem requestArm_stale (h : s.crane.state = .parked) (hl : noneLatched s.stops.latches = true)
    (hz : s.stops.conditions.zone = none) (hd : drivesFresh s = false) : requestArm s = refuse s .state := by
  rw [requestArm, if_neg (by simp [h]), if_neg (by simp [hl]), if_neg (by simp [hz]), if_pos hd]

theorem drivesFresh_iff : drivesFresh s = true ↔
    s.head.valid = true ∧ ∀ c, (s.chan c).known = true ∧ (s.chan c).stale = 0 := by
  simp [drivesFresh, mem_allChans]

/-- R34: the arming that starts at slot n, from a crane in PARKED. -/
def armedFrom (n : Nat) (s : State) : State :=
  enterCrane .arming .none (startArmingSlot n { s with crane := { s.crane with sequence := .up } })

theorem requestArm_granted (h : s.crane.state = .parked) (hl : noneLatched s.stops.latches = true)
    (hz : s.stops.conditions.zone = none) (hd : drivesFresh s = true) (hn : lowestSlot s = some n) :
    requestArm s = accept (armedFrom n s) [] := by
  rw [requestArm, if_neg (by simp [h]), if_neg (by simp [hl]), if_neg (by simp [hz]), if_neg (by simp [hd]), hn]
  rfl

theorem armedFrom_frame (h : s.crane.state = .parked) : armedFrom n s =
    { withTimerOf s (armedFrom n s) with
      crane := { s.crane with state := .arming, sequence := .up, slotPointer := some n, slotTimer := 0 }
      channels := (armedFrom n s).channels
      notices := stateNotice ⟨.arming, s.stops.first, .none⟩ s.notices } := by
  set v := startArmingSlot n { s with crane := { s.crane with sequence := .up } } with hv
  have hvs : v.crane.state ≠ .ready := by rw [hv]; show s.crane.state ≠ .ready; simp [h]
  have hc : (armedFrom n s).channels = v.channels := enterCrane_channels ..
  refine (enterCrane_eq v _ _).trans ?_
  rw [enteredCrane_of_ne v hvs, enteredStops_of_ne v hvs, hc, hv]
  rfl

theorem chan_armedFrom (c : Chan) : (armedFrom n s).chan c =
    if (s.cfg c).releaseSlot = n ∧ (s.chan c).drive ≠ .active then
      { followRecord (s.lo c) (s.hi c) (s.chan c).feedback .enabling (s.chan c) with commanded := true }
    else s.chan c := by
  rw [← enableChannel_eq]
  exact (chan_enterCrane ..).trans (chan_startArmingSlot ..)

theorem noneLatched_false_iff {p : PerCause} : noneLatched p = false ↔ ∃ k, getCause p k ≠ none := by
  rw [← Bool.not_eq_true, noneLatched_iff, not_forall]

/-- Settles O24: ARM by its tests, and the slot that it starts. -/
theorem armStartsTheLowestSlot : Obligations.ArmStartsTheLowestSlot := by
  intro s h hslots
  set v := serveSupervision s with hv
  refine ⟨fun hs => refusedWith_of_accepted (f := requestArm) h rfl (requestArm_notParked hs),
    fun hs hl => refusedWith_of_accepted (f := requestArm) h rfl (requestArm_latched hs (noneLatched_false_iff.2 hl)),
    fun hs hl hz => refusedWith_of_accepted (f := requestArm) h rfl (requestArm_zone hs (noneLatched_iff.2 hl) hz),
    fun hs hl hz hd => refusedWith_of_accepted (f := requestArm) h rfl
      (requestArm_stale hs (noneLatched_iff.2 hl) hz ?stale), fun hs hl hz hd hf => ?granted⟩
  case stale =>
    rw [← Bool.not_eq_true, drivesFresh_iff]
    rintro ⟨hval, hall⟩
    rcases hd with hd | ⟨c, hk | hst⟩
    · exact absurd hval (by rw [show v.head = s.head from rfl, hd]; simp)
    · exact absurd (hall c).1 (by simp [hk])
    · exact hst (by simpa [hv] using (hall c).2)
  case granted =>
    obtain ⟨n, hn, hused, hleast⟩ := lowestSlot_spec hslots
    have hrep := replied_of_taken (i := .arm) (f := requestArm) h rfl
      (requestArm_granted (s := v) (n := n) hs (noneLatched_iff.2 hl) hz (drivesFresh_iff.2 ⟨hd, by simpa [hv] using hf⟩) hn)
    refine ⟨_, n, hrep, hused, hleast, ?_, fun c => ?_⟩
    · rw [armedFrom_frame (s := v) hs, hv, serveSupervision_eq]
      rfl
    · exact chan_armedFrom (s := v) c

/-! ## The slot event (R32) -/

theorem exec_slotEvent (hr : s.running = true) : exec .slotEvent s = .next (slotEvent s) := by
  show Host.Outcome.next _ = _
  rw [whileRunning_of_running _ _ hr]

theorem slotEvent_tick (hp : s.crane.slotPointer = some n) (ht : s.crane.slotTimer + 1 < s.config.slotDuration) :
    slotEvent s = { s with crane := { s.crane with slotTimer := s.crane.slotTimer + 1 } } := by
  rw [slotEvent, hp]
  exact if_pos ht

theorem slotDue_of (hp : s.crane.slotPointer = some n) (ht : s.config.slotDuration ≤ s.crane.slotTimer + 1) :
    slotDue s = true := by
  simp [slotDue, hp, ht]

theorem slotEvent_up (hp : s.crane.slotPointer = some n) (hu : s.crane.sequence = .up)
    (ht : s.config.slotDuration ≤ s.crane.slotTimer + 1) : slotEvent s = armingSlotEnd n s := by
  rw [slotEvent, hp]
  dsimp only
  rw [if_neg (by omega), hu]

theorem slotEvent_down (hp : s.crane.slotPointer = some n) (hd : s.crane.sequence = .down)
    (ht : s.config.slotDuration ≤ s.crane.slotTimer + 1) : slotEvent s = parkingSlotEnd n s := by
  rw [slotEvent, hp]
  dsimp only
  rw [if_neg (by omega), hd]

theorem exec_armingSlotEnd (hr : s.running = true) (hp : s.crane.slotPointer = some n) (hu : s.crane.sequence = .up)
    (ht : s.config.slotDuration ≤ s.crane.slotTimer + 1) : exec .armingSlotEnd s = exec .slotEvent s := by
  rw [exec_slotEvent hr]
  exact congrArg _ (eventOf_of_happens s slotEvent _ hr (by simp [slotDue_of hp ht, hu]))

theorem exec_parkingSlotEnd (hr : s.running = true) (hp : s.crane.slotPointer = some n) (hd : s.crane.sequence = .down)
    (ht : s.config.slotDuration ≤ s.crane.slotTimer + 1) : exec .parkingSlotEnd s = exec .slotEvent s := by
  rw [exec_slotEvent hr]
  exact congrArg _ (eventOf_of_happens s slotEvent _ hr (by simp [slotDue_of hp ht, hd]))

/-! ## The end of an arming slot (R36, R37) -/

/-- R36: the parking that starts where channel c has not become ACTIVE. -/
def armFailed (n : Nat) (c : Chan) (s : State) : State :=
  enterCrane .parking (.armFail c) (startParkingSlot n { s with crane := { s.crane with sequence := .down } })

theorem armingSlotEnd_failed {c : Chan} (hc : (s.cfg c).releaseSlot = n) (ha : (s.chan c).drive ≠ .active)
    (hlow : ∀ d, chanIndex d < chanIndex c → (s.cfg d).releaseSlot = n → (s.chan d).drive = .active) :
    armingSlotEnd n s = armFailed n c s := by
  have hf : (allChans.find? fun c => inSlot s n c && !((s.chan c).drive == .active)) = some c :=
    find?_chan_of_lowest (by simp [inSlot, hc, ha]) fun d hd => by
      by_cases hn : (s.cfg d).releaseSlot = n
      · simp [hlow d hd hn]
      · simp [inSlot, hn]
  rw [armingSlotEnd, hf]
  rfl

theorem armFailed_frame (h : s.crane.state = .arming) (c : Chan) : armFailed n c s =
    { withTimerOf s (armFailed n c s) with
      crane := { s.crane with
        state := .parking, sequence := .down, slotPointer := some n, slotTimer := 0,
        brakes := (armFailed n c s).crane.brakes }
      notices := stateNotice ⟨.parking, s.stops.first, .armFail c⟩ s.notices } := by
  set v := startParkingSlot n { s with crane := { s.crane with sequence := .down } } with hv
  have hvs : v.crane.state ≠ .ready := by rw [hv]; show s.crane.state ≠ .ready; simp [h]
  have hb : (armFailed n c s).crane.brakes = v.crane.brakes := enterCrane_brakes v _ _
  refine (enterCrane_eq v _ _).trans ?_
  rw [enteredCrane_of_ne v hvs, enteredStops_of_ne v hvs, hb, hv]
  rfl

theorem brakes_armFailed (c : Chan) {d : Chan} {b : Fin 4} (hb : brakeOf d = some b) :
    (armFailed n c s).crane.brakes.get b = (s.crane.brakes.get b || decide ((s.cfg d).releaseSlot = n)) := by
  rw [armFailed, enterCrane_crane]
  exact brakes_startParkingSlot n { s with crane := { s.crane with sequence := .down } } hb

/-- R36: no channel of the slot has failed to become ACTIVE. -/
theorem find_failed_none (h : ∀ c, (s.cfg c).releaseSlot = n → (s.chan c).drive = .active) :
    (allChans.find? fun c => inSlot s n c && !((s.chan c).drive == .active)) = none :=
  List.find?_eq_none.2 fun c _ => by simpa [inSlot] using h c

theorem armingSlotEnd_next {k : Nat} (h : ∀ c, (s.cfg c).releaseSlot = n → (s.chan c).drive = .active)
    (hk : nextHigherSlot s n = some k) : armingSlotEnd n s = startArmingSlot k s := by
  simp only [armingSlotEnd, find_failed_none h, hk]

theorem armingSlotEnd_last (h : ∀ c, (s.cfg c).releaseSlot = n → (s.chan c).drive = .active)
    (hk : nextHigherSlot s n = none) : armingSlotEnd n s = enterCrane .ready .none (clearSequence s) := by
  simp only [armingSlotEnd, find_failed_none h, hk]

theorem nextHigherSlot_eq (hs : slotsInRange s) {k : Nat} {c : Chan} (hn : n < k) (hc : (s.cfg c).releaseSlot = k)
    (hleast : ∀ d, n < (s.cfg d).releaseSlot → k ≤ (s.cfg d).releaseSlot) : nextHigherSlot s n = some k := by
  cases hk : nextHigherSlot s n with
  | none => have := nextHigherSlot_none hs hk c; omega
  | some j =>
    obtain ⟨hj, ⟨d, hd⟩, hall⟩ := nextHigherSlot_some hs hk
    have h1 := hleast d (by omega)
    have h2 := hall c
    have : j = k := by omega
    rw [this]

theorem nextHigherSlot_last (hs : slotsInRange s) (h : ∀ c, (s.cfg c).releaseSlot ≤ n) : nextHigherSlot s n = none := by
  cases hk : nextHigherSlot s n with
  | none => rfl
  | some j =>
    obtain ⟨hj, ⟨d, hd⟩, -⟩ := nextHigherSlot_some hs hk
    have := h d
    omega

theorem ready_frame (h : s.crane.state = .arming) : enterCrane .ready .none (clearSequence s) =
    { withTimerOf s (enterCrane .ready .none (clearSequence s)) with
      crane := { s.crane with state := .ready, sequence := .none, slotPointer := none, slotTimer := 0 }
      notices := stateNotice ⟨.ready, s.stops.first, .none⟩ s.notices } := by
  have hvs : (clearSequence s).crane.state ≠ .ready := by show s.crane.state ≠ .ready; simp [h]
  refine (enterCrane_eq _ _ _).trans ?_
  rw [enteredCrane_of_ne _ hvs, enteredStops_of_ne _ hvs]
  rfl

/-- Settles O25: the slot events of an arming sequence. -/
theorem armingSlotsEnd : Obligations.ArmingSlotsEnd := by
  intro s n hr hslots hs hu hp
  refine ⟨fun ht => by rw [exec_slotEvent hr, slotEvent_tick hp ht], fun ht => ⟨exec_armingSlotEnd hr hp hu ht, ?_⟩⟩
  rw [exec_slotEvent hr, slotEvent_up hp hu ht]
  refine ⟨fun c hc ha hlow => ⟨_, rfl, ?_⟩, fun hall => ⟨fun k c hn hc hleast => ⟨_, rfl, ?_⟩, fun hle => ⟨_, rfl, ?_⟩⟩⟩
  · rw [armingSlotEnd_failed hc ha hlow]
    exact ⟨armFailed_frame hs c, fun d b hb => brakes_armFailed c hb⟩
  · rw [armingSlotEnd_next hall (nextHigherSlot_eq hslots hn hc hleast)]
    exact ⟨startArmingSlot_frame s k, fun d => by rw [← enableChannel_eq]; exact chan_startArmingSlot k s d⟩
  · rw [armingSlotEnd_last hall (nextHigherSlot_last hslots hle)]
    exact ready_frame hs

/-! ## PARK (R39, R40) -/

/-- R40, R43: the parking that starts at slot n. -/
def parkedFrom (n : Nat) (s : State) : State :=
  enterCrane .parking .none (startParkingSlot n { s with crane := { s.crane with sequence := .down } })

theorem requestPark_state (h : s.crane.state ≠ .ready ∨ s.engine.take ≠ none) : requestPark s = refuse s .state := by
  by_cases hs : s.crane.state = .ready
  · rw [requestPark, if_neg (by simp [hs]), if_pos (Option.isSome_iff_ne_none.2 (h.resolve_left (by simp [hs])))]
  · exact if_pos hs

theorem requestPark_moving (hs : s.crane.state = .ready) (ht : s.engine.take = none)
    (hm : ∃ c, isLens c = false ∧ ((s.chan c).owner ≠ .none ∨ (s.chan c).velocity ≠ 0)) :
    requestPark s = refuse s .moving := by
  have hf : (allChans.all fun c => isLens c || (((s.chan c).owner == .none) && decide ((s.chan c).velocity = 0))) = false := by
    rw [← Bool.not_eq_true, bodyFree_iff]
    obtain ⟨c, hc, hm⟩ := hm
    exact fun hall => hm.elim (fun ho => ho (hall c hc).1) fun hv => hv (hall c hc).2
  rw [requestPark, if_neg (by simp [hs]), if_neg (by simp [ht]), if_pos hf]

theorem requestPark_granted (hs : s.crane.state = .ready) (ht : s.engine.take = none)
    (hf : ∀ c, isLens c = false → (s.chan c).owner = .none ∧ (s.chan c).velocity = 0) (hn : highestSlot s = some n) :
    requestPark s = accept (parkedFrom n s) [] := by
  rw [requestPark, if_neg (by simp [hs]), if_neg (by simp [ht]), if_neg (by rw [bodyFree_iff.2 hf]; decide), hn]
  rfl

theorem parkedFrom_frame (h : s.crane.state = .ready) : parkedFrom n s =
    { withTimerOf s (parkedFrom n s) with
      crane := { s.crane with
        state := .parking, sequence := .down, slotPointer := some n, slotTimer := 0, retreat := false,
        brakes := (parkedFrom n s).crane.brakes }
      stops := { s.stops with retreatSet := [] }
      notices := stateNotice ⟨.parking, s.stops.first, .none⟩ s.notices } := by
  set v := startParkingSlot n { s with crane := { s.crane with sequence := .down } } with hv
  have hvs : v.crane.state = .ready ∧ CraneState.parking ≠ .ready := ⟨h, by decide⟩
  have hb : (parkedFrom n s).crane.brakes = v.crane.brakes := enterCrane_brakes v _ _
  refine (enterCrane_eq v _ _).trans ?_
  rw [enteredCrane, enteredStops, if_pos hvs, if_pos hvs, hb, hv]
  rfl

theorem brakes_parkedFrom {d : Chan} {b : Fin 4} (hb : brakeOf d = some b) :
    (parkedFrom n s).crane.brakes.get b = (s.crane.brakes.get b || decide ((s.cfg d).releaseSlot = n)) := by
  rw [parkedFrom, enterCrane_crane]
  exact brakes_startParkingSlot n { s with crane := { s.crane with sequence := .down } } hb

/-- Settles O26: PARK by its tests, and the slot that it starts. -/
theorem parkStartsTheHighestSlot : Obligations.ParkStartsTheHighestSlot := by
  intro s h hslots
  set v := serveSupervision s with hv
  refine ⟨fun hs => refusedWith_of_accepted (f := requestPark) h rfl (requestPark_state hs),
    fun hs ht hm => refusedWith_of_accepted (f := requestPark) h rfl (requestPark_moving hs ht (by simpa using hm)),
    fun hs ht hf => ?_⟩
  obtain ⟨n, hn, hused, hmost⟩ := highestSlot_spec hslots
  have hrep := replied_of_taken (i := .park) (f := requestPark) h rfl
    (requestPark_granted (s := v) (n := n) hs ht (by simpa [v] using hf) hn)
  refine ⟨_, n, hrep, hused, hmost, ?_, fun c b hb => brakes_parkedFrom (s := v) hb⟩
  rw [parkedFrom_frame (s := v) hs, hv, serveSupervision_eq]
  rfl

/-! ## The end of a parking slot (R40, R41) -/

theorem parkingSlotEnd_eq (n : Nat) (s : State) : parkingSlotEnd n s =
    match nextLowerSlot (parkedOff n s) n with
    | some k => startParkingSlot k (parkedOff n s)
    | none => enterCrane .parked .none (clearSequence (parkedOff n s)) := rfl

theorem nextLowerSlot_eq (hs : slotsInRange s) {k : Nat} {c : Chan} (hn : k < n) (hc : (s.cfg c).releaseSlot = k)
    (hmost : ∀ d, (s.cfg d).releaseSlot < n → (s.cfg d).releaseSlot ≤ k) : nextLowerSlot s n = some k := by
  cases hk : nextLowerSlot s n with
  | none => have := nextLowerSlot_none hs hk c; omega
  | some j =>
    obtain ⟨hj, ⟨d, hd⟩, hall⟩ := nextLowerSlot_some hs hk
    have h1 := hmost d (by omega)
    have h2 := hall c
    have : j = k := by omega
    rw [this]

theorem nextLowerSlot_last (hs : slotsInRange s) (h : ∀ c, n ≤ (s.cfg c).releaseSlot) : nextLowerSlot s n = none := by
  cases hk : nextLowerSlot s n with
  | none => rfl
  | some j =>
    obtain ⟨hj, ⟨d, hd⟩, -⟩ := nextLowerSlot_some hs hk
    have := h d
    omega

/-- R169: tracking going OFF, whole. -/
theorem trackingOff_eq (s : State) : trackingOff s = if s.lens.tracking.state = .off then s else { s with
      lens := { s.lens with tracking := { s.lens.tracking with state := .off, target := none, range := false } }
      notices := noticesWith { s.notices with track := ⟨some ⟨.off, false, none⟩, s.notices.track.detail.isSome⟩ } } := by
  unfold trackingOff raiseTrack setNotices raised
  rw [withAttn_eq]

section ParkedOff

variable (n : Nat) (s : State)

/-- R40: s with the channels of slot n commanded off and their moves ended, before tracking ends. -/
def parkedChannels (n : Nat) (s : State) : State :=
  interruptMoves (parksOff s n)
    (mapChannels s fun c r => if parksOff s n c then { commandOff r with owner := .none } else r)

theorem parkedOff_eq : parkedOff n s =
    if parksOff s n .focus = true then trackingOff (parkedChannels n s) else parkedChannels n s := rfl

theorem parkedChannels_lens : (parkedChannels n s).lens = s.lens := by rw [parkedChannels, interruptMoves_frame]; rfl

theorem parkedOff_frame : parkedOff n s =
    { s with
      channels := (parkedOff n s).channels
      moves := (parkedOff n s).moves
      lens := (parkedOff n s).lens
      notices := (parkedOff n s).notices } := by
  rw [parkedOff_eq, trackingOff_eq, parkedChannels, interruptMoves_frame]
  split
  · split <;> rfl
  · rfl

/-- R27, R169: the notices after the drives of a slot have been commanded off, but TRACK. -/
theorem parkedOff_notices : (parkedOff n s).notices.move = moveSourceAfter (parksOff s n) s.moves s.notices.move ∧
    (parkedOff n s).notices.state = s.notices.state := by
  obtain ⟨hm, hs, -⟩ := interruptMoves_sources (s := mapChannels s fun c r =>
    if parksOff s n c then { commandOff r with owner := .none } else r) (parksOff s n)
  rw [parkedOff_eq, trackingOff_eq]
  split
  · split <;> exact ⟨hm, hs⟩
  · exact ⟨hm, hs⟩

/-- R169: tracking ends where the slot holds FOCUS. -/
theorem parkedOff_tracking (hf : parksOff s n .focus = true) (ht : s.lens.tracking.state ≠ .off) :
    (parkedOff n s).lens = { s.lens with tracking := { s.lens.tracking with state := .off, target := none, range := false } } ∧
      (parkedOff n s).notices.track = ⟨some ⟨.off, false, none⟩, s.notices.track.detail.isSome⟩ := by
  obtain ⟨-, -, -, -, htr, -⟩ := interruptMoves_sources (s := mapChannels s fun c r =>
    if parksOff s n c then { commandOff r with owner := .none } else r) (parksOff s n)
  have hl := parkedChannels_lens n s
  rw [parkedOff_eq, if_pos hf, trackingOff_eq, if_neg (by rw [hl]; exact ht), hl]
  refine ⟨rfl, ?_⟩
  show (⟨_, (parkedChannels n s).notices.track.detail.isSome⟩ : NoticeSource TrackDetail) = _
  rw [parkedChannels, htr]
  rfl

theorem parkedOff_untracked (h : parksOff s n .focus = false ∨ s.lens.tracking.state = .off) :
    (parkedOff n s).lens = s.lens ∧ (parkedOff n s).notices.track = s.notices.track := by
  obtain ⟨-, -, -, -, htr, -⟩ := interruptMoves_sources (s := mapChannels s fun c r =>
    if parksOff s n c then { commandOff r with owner := .none } else r) (parksOff s n)
  have hl := parkedChannels_lens n s
  have he : parkedOff n s = parkedChannels n s := by
    rw [parkedOff_eq]
    split
    next hf => rw [trackingOff_eq, hl, if_pos (h.resolve_left (by simp [hf]))]
    · rfl
  rw [he]
  exact ⟨hl, htr⟩

end ParkedOff

/-- The rest of the end of a parking slot leaves all but crane, STATE and notice timer as the drives' commanding off
has left it. -/
theorem parkingSlotEnd_kept (n : Nat) (s : State) :
    (parkingSlotEnd n s).channels = (parkedOff n s).channels ∧ (parkingSlotEnd n s).moves = (parkedOff n s).moves ∧
      (parkingSlotEnd n s).lens = (parkedOff n s).lens ∧
      (parkingSlotEnd n s).notices.move = (parkedOff n s).notices.move ∧
      (parkingSlotEnd n s).notices.track = (parkedOff n s).notices.track := by
  rw [parkingSlotEnd_eq]
  cases nextLowerSlot (parkedOff n s) n with
  | some k => exact ⟨rfl, rfl, rfl, rfl, rfl⟩
  | none =>
    rw [enterCrane_eq]
    exact ⟨rfl, rfl, rfl, rfl, rfl⟩

theorem parkingSlotEnd_frame (h : s.crane.state = .parking) : parkingSlotEnd n s =
    { withTimerOf s (parkingSlotEnd n s) with
      channels := (parkingSlotEnd n s).channels
      moves := (parkingSlotEnd n s).moves
      crane := (parkingSlotEnd n s).crane
      lens := (parkingSlotEnd n s).lens
      notices := (parkingSlotEnd n s).notices } := by
  rw [parkingSlotEnd_eq]
  cases nextLowerSlot (parkedOff n s) n with
  | some k =>
    dsimp only
    rw [startParkingSlot_frame, parkedOff_frame]
    rfl
  | none =>
    dsimp only
    have hvs : (clearSequence (parkedOff n s)).crane.state ≠ .ready := by
      show (parkedOff n s).crane.state ≠ .ready
      rw [parkedOff_frame]
      simp [h]
    rw [enterCrane_eq, enteredStops_of_ne _ hvs, parkedOff_frame]
    rfl

/-- Settles O27: the slot events of a parking sequence. -/
theorem parkingSlotsEnd : Obligations.ParkingSlotsEnd := by
  refine ⟨fun s n hr hp ht => by rw [exec_slotEvent hr, slotEvent_tick hp ht], fun s n hr hslots hs hd hp ht => ?_⟩
  intro hit
  have hhit : hit = parksOff s n := funext fun c => by simp [hit, parksOff, inSlot, Bool.beq_eq_decide_eq]
  clear_value hit
  subst hhit
  obtain ⟨hch, hmv, hl, hnm, hnt⟩ := parkingSlotEnd_kept n s
  obtain ⟨hpm, hps⟩ := parkedOff_notices n s
  have hcfg : ∀ c, (parkedOff n s).cfg c = s.cfg c := fun c => by rw [parkedOff_frame]; rfl
  have hcrane : (parkedOff n s).crane = s.crane := by rw [parkedOff_frame]
  have hslots' : slotsInRange (parkedOff n s) := fun c => by rw [hcfg]; exact hslots c
  refine ⟨parkingSlotEnd n s, by rw [exec_slotEvent hr, slotEvent_down hp hd ht],
    by rw [exec_parkingSlotEnd hr hp hd ht, exec_slotEvent hr, slotEvent_down hp hd ht], fun c => ?_,
    hmv.trans (parkedOff_moves n s), hnm.trans hpm, fun hf => ?_, fun hf => hl.trans (parkedOff_untracked n s (.inl hf)).1,
    fun hf ho => ?_, fun hf => ?_, parkingSlotEnd_frame hs, fun k c hk hc hmost => ?_, fun hle => ?_⟩
  · rw [chan_eq_of_channels hch, chan_parkedOff]
  · rw [hl]
    by_cases ho : s.lens.tracking.state = .off
    · rw [(parkedOff_untracked n s (.inr ho)).1, ho]
    · rw [(parkedOff_tracking n s hf ho).1]
  · rw [hl, hnt]
    exact parkedOff_tracking n s hf ho
  · rw [hl, hnt]
    exact parkedOff_untracked n s hf
  · rw [parkingSlotEnd_eq, nextLowerSlot_eq hslots' hk (by rw [hcfg, hc]) (by simpa only [hcfg] using hmost)]
    refine ⟨?_, hps, fun d b hb => ?_⟩
    · rw [← hcrane]
      rfl
    · dsimp only
      rw [brakes_startParkingSlot k _ hb, hcrane, hcfg]
  · rw [parkingSlotEnd_eq, nextLowerSlot_last hslots' (by simpa only [hcfg] using hle)]
    have hvs : (clearSequence (parkedOff n s)).crane.state ≠ .ready := by
      show (parkedOff n s).crane.state ≠ .ready
      rw [hcrane, hs]
      simp
    dsimp only
    rw [enterCrane_crane, enterCrane_notices]
    refine ⟨?_, ?_⟩
    · rw [if_neg fun e => hvs e.1]
      rw [← hcrane]
      rfl
    · show (⟨some ⟨_, (parkedOff n s).stops.first, _⟩, (parkedOff n s).notices.state.detail.isSome⟩ :
        NoticeSource StateDetail) = _
      rw [hps, show (parkedOff n s).stops = s.stops by rw [parkedOff_frame]]

end Sequences

end Sys2Proof.Machine

/-! Claims and the console's motion requests (R16 to R28): O28 to O30. -/

namespace Sys2Proof.Machine

/-! ## The tests of a claim (R16, R17) -/

section Claims

variable {s : State} {c : Chan}

theorem claimAllowed_iff : claimAllowed s c = true ↔ if isLens c = true then (s.chan c).drive = .active
    else s.crane.state = .ready ∨
      (s.crane.state = .parked ∧ isHead c = true ∧ (s.cfg c).keepActive = true ∧ (s.chan c).drive = .active) := by
  unfold claimAllowed isLens isHead
  cases groupOf c <;> simp [and_assoc]

theorem claimCode_eq (p : Party) (moves : Bool) : claimCode p moves s c =
    if claimAllowed s c = false then some .state
    else if p = .console ∧ moves = true ∧ isLens c = false ∧ s.gripHeld = false then some .noGrip
    else ownerTest p c (s.chan c) := by
  simp only [claimCode, isBody, Bool.not_eq_true']

theorem ownerTest_console (c : Chan) (r : Channel) : ownerTest .console c r =
    if r.owner = .none ∨ r.owner = .console then none else some .owned := by
  cases h : r.owner <;> simp [ownerTest, h]

theorem ownerTest_wheel (c : Chan) (r : Channel) : ownerTest .wheel c r = none ↔ r.owner ≠ .take ∨ isArm c = false := by
  cases h : r.owner <;> simp [ownerTest, h]
  cases c <;> decide

theorem ownerTest_claimed (c : Chan) (r : Channel) {p : Party} (hp : p = .take ∨ p = .track) : ownerTest p c r =
    if r.owner = .none ∨ (r.owner = .console ∧ r.velocity = 0) ∨ (r.owner = .track ∧ p = .track) then none
    else if r.owner = .console then some .moving else some .owned := by
  rcases hp with rfl | rfl <;> cases h : r.owner <;> simp [ownerTest, h]

theorem owner_of_granted {moves : Bool} (h : claimCode .console moves s c = none) :
    (s.chan c).owner = .none ∨ (s.chan c).owner = .console := by
  rw [claimCode_eq] at h
  split at h
  · cases h
  · split at h
    · cases h
    · rw [ownerTest_console] at h
      split at h
      · assumption
      · cases h

end Claims

/-! ## Grants on channels that no other party owns (R18) -/

section Grants

variable {s : State}

/-- A channel that stands in no open move, so that ending its move ends none. -/
theorem interruptMoves_of_none {hit : Chan → Bool} (h : ∀ m ∈ s.moves, holdsAny hit m = false) : interruptMoves hit s = s := by
  have h1 : s.moves.filter (moveHits hit) = [] :=
    List.filter_eq_nil_iff.2 fun m hm => by rw [← holdsAny_eq, h m hm]; simp
  have h2 : (s.moves.filter fun m => !moveHits hit m) = s.moves :=
    List.filter_eq_self.2 fun m hm => by rw [← holdsAny_eq, h m hm]; rfl
  rw [interruptMoves, h1, h2]
  rfl

theorem holdsAny_single {m : ConsoleMove} {c : Chan} : holdsAny (fun d => d == c) m = m.remaining.get c := by
  rw [Bool.eq_iff_iff]
  simp [holdsAny, mem_allChans]

/-- R18, R27: a grant on a channel of the console, or of nobody. -/
theorem grant_frame {p : Party} {m : Mode} {d x : Option Int} {c : Chan}
    (ho : (s.chan c).owner = .none ∨ (s.chan c).owner = .console) :
    grant p m d x c s = { s with
      channels := (grant p m d x c s).channels
      moves := (grant p m d x c s).moves
      notices := (grant p m d x c s).notices } := by
  rcases ho with ho | ho
  · rw [grant, ho]
    rfl
  · rw [grant, ho, reportLoss, interruptMoves_frame]
    rfl

theorem grant_of_none {p : Party} {m : Mode} {d x : Option Int} {c : Chan} (ho : (s.chan c).owner = .none) :
    grant p m d x c s = s.setChan c (grantRecord p m d x (s.chan c)) := by
  rw [grant, ho]
  rfl

theorem grant_of_console {p : Party} {m : Mode} {d x : Option Int} {c : Chan} (ho : (s.chan c).owner = .console) :
    grant p m d x c s = interruptMoves (fun d => d == c) (s.setChan c (grantRecord p m d x (s.chan c))) := by
  rw [grant, ho]
  rfl

/-- R18: no move ends where the channel stands in none. -/
theorem grant_of_free {p : Party} {m : Mode} {d x : Option Int} {c : Chan}
    (ho : (s.chan c).owner = .none ∨ (s.chan c).owner = .console) (hm : ∀ k ∈ s.moves, k.remaining.get c = false) :
    grant p m d x c s = s.setChan c (grantRecord p m d x (s.chan c)) := by
  rcases ho with ho | ho
  · exact grant_of_none ho
  · rw [grant_of_console ho, interruptMoves_of_none fun k hk => by rw [holdsAny_single]; exact hm k hk]

/-- R16, R18: grants on several such channels write their records alone. -/
theorem foldl_grant_frame {α : Type} (p : Party) (m : Mode) (d x : α → Option Int) (key : α → Chan) :
    ∀ (l : List α) (v : State), (l.map key).Nodup →
      (∀ a ∈ l, (v.chan (key a)).owner = .none ∨ (v.chan (key a)).owner = .console) →
      (∀ a ∈ l, ∀ k ∈ v.moves, k.remaining.get (key a) = false) →
      l.foldl (fun v a => grant p m (d a) (x a) (key a) v) v =
        { v with channels := (l.foldl (fun v a => grant p m (d a) (x a) (key a) v) v).channels }
  | [], _, _, _, _ => rfl
  | a :: l, v, hn, ho, hm => by
    rw [List.map_cons, List.nodup_cons] at hn
    rw [List.foldl_cons, grant_of_free (ho a List.mem_cons_self) (hm a List.mem_cons_self)]
    refine foldl_grant_frame p m d x key l _ hn.2 (fun b hb => ?_) fun b hb => hm b (List.mem_cons_of_mem _ hb)
    have hne : key b ≠ key a := fun he => hn.1 (he ▸ List.mem_map_of_mem hb)
    rw [chan_setChan, if_neg hne]
    exact ho b (List.mem_cons_of_mem _ hb)

theorem findSome?_of_lowest {β : Type} {f : Chan → Option β} {c : Chan} {x : β} (hc : f c = some x) :
    ∀ {l : List Chan}, l.Pairwise (fun c d => chanIndex c < chanIndex d) → c ∈ l →
      (∀ d ∈ l, chanIndex d < chanIndex c → f d = none) → l.findSome? f = some x
  | [], _, hm, _ => by cases hm
  | a :: l, hl, hm, hlow => by
    rw [List.pairwise_cons] at hl
    rw [List.findSome?_cons]
    rcases List.mem_cons.1 hm with rfl | hm
    · rw [hc]
    · rw [hlow a List.mem_cons_self (hl.1 c hm)]
      exact findSome?_of_lowest hc hl.2 hm fun d hd => hlow d (List.mem_cons_of_mem _ hd)

end Grants

/-! ## JOG (R25) -/

section Jog

variable {s : State} {c : Chan} {b : Byte} {v : BitVec 32}

theorem jog_valid (low : -1000000 ≤ v.toInt) (high : v.toInt ≤ 1000000) : inRange (-jogLimit) jogLimit v.toInt = true :=
  inRange_iff.2 ⟨low, high⟩

theorem requestJog_refused {code : ResultCode} (hc : chanOfIndex b.toNat = some c) (low : -1000000 ≤ v.toInt)
    (high : v.toInt ≤ 1000000) (h : claimCode .console (decide (v.toInt ≠ 0)) s c = some code) :
    requestJog b v s = refuse s code := by
  rw [requestJog, hc]
  dsimp only
  rw [jog_valid low high, if_neg (by simp), h]

theorem requestJog_granted (hc : chanOfIndex b.toNat = some c) (low : -1000000 ≤ v.toInt)
    (high : v.toInt ≤ 1000000) (h : claimCode .console (decide (v.toInt ≠ 0)) s c = none) :
    requestJog b v s = (grant .console .velocity
        (some (max (-(Int.ofNat (s.cfg c).vmax)) (min (Int.ofNat (s.cfg c).vmax) v.toInt))) none c s,
      ⟨if max (-(Int.ofNat (s.cfg c).vmax)) (min (Int.ofNat (s.cfg c).vmax) v.toInt) = v.toInt then .ok else .clamped,
        []⟩) := by
  rw [requestJog, hc]
  dsimp only
  rw [jog_valid low high, if_neg (by simp), h, clampInt_eq (by show -((s.cfg c).vmax : Int) ≤ (s.cfg c).vmax; omega)]

/-- R25: the code of a JOG's claim, by its tests. -/
theorem jog_claim (ha : claimAllowed s c = true) (hg : v.toInt = 0 ∨ isLens c = true ∨ s.gripHeld = true) :
    claimCode .console (decide (v.toInt ≠ 0)) s c =
      if (s.chan c).owner = .none ∨ (s.chan c).owner = .console then none else some .owned := by
  rw [claimCode_eq, if_neg (by simp [ha]), if_neg, ownerTest_console]
  rintro ⟨-, hm, hl, hh⟩
  rcases hg with hz | hl' | hh'
  · simp [hz] at hm
  · rw [hl'] at hl; cases hl
  · rw [hh'] at hh; cases hh

theorem consoleRecord_eq (m : Mode) (d x : Option Int) (r : Channel) : grantRecord .console m d x r = consoleRecord m d x r := rfl

/-- R18, R25, R27: an accepted JOG. -/
theorem jog_replied (h : s.canReceive = true) (hc : chanOfIndex b.toNat = some c) (low : -1000000 ≤ v.toInt)
    (high : v.toInt ≤ 1000000) (ha : claimAllowed s c = true) (hg : v.toInt = 0 ∨ isLens c = true ∨ s.gripHeld = true)
    (ho : (s.chan c).owner = .none ∨ (s.chan c).owner = .console) :
    ∃ t w, w = max (-(Int.ofNat (s.cfg c).vmax)) (min (Int.ofNat (s.cfg c).vmax) v.toInt) ∧
      Replied (.jog b v) s t (if w = v.toInt then .ok else .clamped) [] ∧
      t.chan c = consoleRecord .velocity (some w) none (s.chan c) ∧ (∀ d, d ≠ c → t.chan d = s.chan d) ∧
      ((s.chan c).owner = .none → t.moves = s.moves ∧ t.notices = s.notices) ∧
      ((s.chan c).owner = .console → t.moves = movesLeft (fun d => d == c) s.moves ∧
        t.notices.move = moveSourceAfter (fun d => d == c) s.moves s.notices.move) ∧
      t = { servedBy s t with channels := t.channels, moves := t.moves, notices := t.notices } := by
  set u := serveSupervision s with hu
  set w := max (-(Int.ofNat (s.cfg c).vmax)) (min (Int.ofNat (s.cfg c).vmax) v.toInt) with hw
  have hclaim : claimCode .console (decide (v.toInt ≠ 0)) u c = none := by
    have := jog_claim (s := u) (c := c) (v := v) ha hg
    rwa [if_pos (by simpa [hu] using ho)] at this
  have hrep := replied_of_taken (i := .jog b v) (f := requestJog b v) h rfl (requestJog_granted (s := u) hc low high hclaim)
  have hch := fun d => chan_grant u .console .velocity (some w) none c d
  refine ⟨_, w, rfl, hrep, (hch c).trans (if_pos rfl), fun d hd => (hch d).trans (if_neg hd), fun hn => ?_, fun hn => ?_, ?_⟩
  · rw [grant_of_none (s := u) hn]
    exact ⟨rfl, serveSupervision_notices s⟩
  · rw [grant_of_console (s := u) hn]
    obtain ⟨hm, -⟩ := interruptMoves_sources (s := u.setChan c (grantRecord .console .velocity (some w) none (u.chan c)))
      (fun d => d == c)
    refine ⟨interruptMoves_moves .., hm.trans ?_⟩
    rw [setChan_notices, hu, serveSupervision_notices]
    rfl
  · rw [grant_frame (s := u) ho, hu, serveSupervision_eq]
    rfl

/-- Settles O28: the tests of a claim, and JOG by them. -/
theorem jogClaimsTheChannel : Obligations.JogClaimsTheChannel := by
  refine ⟨fun s c => ⟨claimAllowed_iff, fun p moves => claimCode_eq p moves⟩,
    fun c r => ⟨ownerTest_console c r, ownerTest_wheel c r, fun p hp => ownerTest_claimed c r hp⟩,
    fun s b v c h hc low high => ⟨fun ha => ?_, fun ha hv hl hg => ?_, fun ha hg hn hcon => ?_,
      fun ha hg ho => jog_replied h hc low high ha hg ho⟩⟩
  all_goals refine refusedWith_of_accepted (f := requestJog b v) h rfl (requestJog_refused hc low high ?_)
  · rw [claimCode_eq]
    exact if_pos ha
  · rw [claimCode_eq, if_neg (by rw [show claimAllowed (serveSupervision s) c = true from ha]; simp),
      if_pos ⟨rfl, by simpa using hv, hl, hg⟩]
  · refine (jog_claim (s := serveSupervision s) ha hg).trans (if_neg ?_)
    exact not_or.2 ⟨hn, hcon⟩

end Jog

/-! ## GOTO and GOTO_MARK (R26) -/

section Goto

variable {s : State} {m : ChannelMask} {ts : List (Chan × Int)} {hit : Chan → Bool}

theorem goto_refused {code : ResultCode} {c : Chan} (hl : (ts.map (·.1)).Pairwise fun c d => chanIndex c < chanIndex d)
    (hc : c ∈ ts.map (·.1)) (h : claimCode .console true s c = some code)
    (hlow : ∀ d ∈ ts.map (·.1), chanIndex d < chanIndex c → claimCode .console true s d = none) :
    goto m ts s = refuse s code := by
  unfold goto claimAllCode
  dsimp only
  rw [findSome?_of_lowest h hl hc hlow]

/-- The code of an accepted GOTO: CLAMPED where a target had to be brought within the limits. -/
def gotoCode (ts : List (Chan × Int)) (s : State) : ResultCode :=
  if ts.any (fun p => clampInt (s.lo p.1) (s.hi p.1) p.2 != p.2) = true then .clamped else .ok

theorem goto_granted (h : ∀ c ∈ ts.map (·.1), claimCode .console true s c = none) :
    goto m ts s = (gotoOpened m ts s, ⟨gotoCode ts s, []⟩) := by
  unfold goto claimAllCode
  dsimp only
  rw [List.findSome?_eq_none_iff.2 h]
  rfl

theorem gotoCode_cases (ts : List (Chan × Int)) (s : State) : gotoCode ts s = .ok ∨ gotoCode ts s = .clamped := by
  unfold gotoCode
  split
  · exact .inr rfl
  · exact .inl rfl

theorem gotoCode_ok : gotoCode ts s = .ok ↔ ∀ p ∈ ts, clampInt (s.lo p.1) (s.hi p.1) p.2 = p.2 := by
  unfold gotoCode
  split
  next h =>
    obtain ⟨p, hp, hne⟩ := List.any_eq_true.1 h
    exact ⟨nofun, fun hall => absurd (hall p hp) (bne_iff_ne.1 hne)⟩
  next h =>
    rw [List.any_eq_true] at h
    exact ⟨fun _ p hp => by_contra fun hne => h ⟨p, hp, bne_iff_ne.2 hne⟩, fun _ => rfl⟩

/-- What an accepted GOTO or GOTO_MARK leaves (R26, R27); `hit` names the channels of its targets. -/
structure GotoLeaves (m : ChannelMask) (hit : Chan → Bool) (ts : List (Chan × Int)) (s t : State) : Prop where
  goes : ∀ p ∈ ts, t.chan p.1 = consoleRecord .position none (some (clampInt (s.lo p.1) (s.hi p.1) p.2)) (s.chan p.1)
  stays : ∀ c, hit c = false → t.chan c = s.chan c
  moves : t.moves = movesLeft hit s.moves ++ [⟨m, .ofFn hit⟩]
  notice : t.notices.move = moveSourceAfter hit s.moves s.notices.move
  rest : t = { s with channels := t.channels, moves := t.moves, notices := t.notices }

theorem gotoOpened_leaves (hh : ∀ c, (ts.map (·.1)).contains c = hit c) (hn : (ts.map (·.1)).Nodup)
    (hc : ∀ c ∈ ts.map (·.1), claimCode .console true s c = none) : GotoLeaves m hit ts s (gotoOpened m ts s) := by
  have hhit : (fun c => (ts.map (·.1)).contains c) = hit := funext hh
  set v := interruptMoves hit s with hv
  set g := ts.foldl (fun t p => grant .console .position none (some (clampInt (s.lo p.1) (s.hi p.1) p.2)) p.1 t) v with hg
  have ht : gotoOpened m ts s = { g with moves := g.moves ++ [⟨m, .ofFn hit⟩] } := by
    unfold gotoOpened
    rw [hhit]
  have hchan : ∀ c, v.chan c = s.chan c := chan_interruptMoves s hit
  have hframe : g = { v with channels := g.channels } := by
    refine foldl_grant_frame .console .position (fun _ => none) (fun p => some (clampInt (s.lo p.1) (s.hi p.1) p.2))
      (·.1) ts v hn (fun a ha => ?_) fun a ha k hk => ?_
    · rw [hchan]
      exact owner_of_granted (hc _ (List.mem_map_of_mem ha))
    · rw [hv, interruptMoves_moves] at hk
      refine eq_false_of_ne_true fun he => ?_
      have := (mem_movesLeft.1 hk).2 a.1 he
      rw [← hh, List.contains_iff_mem.2 (List.mem_map_of_mem ha)] at this
      cases this
  have hmoves : g.moves = movesLeft hit s.moves := by rw [hframe]; exact interruptMoves_moves ..
  have hnot : g.notices = v.notices := by rw [hframe]
  rw [ht]
  refine ⟨fun p hp => ?_, fun c hcf => ?_, ?_, ?_, ?_⟩
  · refine (chan_foldl_grant_mem .console .position (fun _ => none)
      (fun p => some (clampInt (s.lo p.1) (s.hi p.1) p.2)) (·.1) hn v hp).trans ?_
    rw [hchan]
    rfl
  · refine (chan_foldl_grant_other .console .position (fun _ => none)
      (fun p : Chan × Int => some (clampInt (s.lo p.1) (s.hi p.1) p.2)) (·.1) ts v fun p hp he => ?_).trans (hchan c)
    rw [← hh, ← he, List.contains_iff_mem.2 (List.mem_map_of_mem hp)] at hcf
    cases hcf
  · show g.moves ++ _ = _
    rw [hmoves]
  · show g.notices.move = _
    rw [hnot]
    exact (interruptMoves_sources s hit).1
  · show ({ g with moves := g.moves ++ [⟨m, .ofFn hit⟩] } : State) = _
    rw [hframe, hv, interruptMoves_frame]

variable {i : Instr} {f : State → State × Reply}

/-- R26, R27: an accepted GOTO or GOTO_MARK, answered. -/
theorem goto_replied (h : s.canReceive = true) (he : exec i s = .next (acceptUnit f s))
    (hf : f (serveSupervision s) = goto m ts (serveSupervision s)) (hh : ∀ c, (ts.map (·.1)).contains c = hit c)
    (hn : (ts.map (·.1)).Nodup) (hc : ∀ c ∈ ts.map (·.1), claimCode .console true s c = none) :
    ∃ t code, Replied i s t code [] ∧ (code = .ok ∨ code = .clamped) ∧
      (code = .ok ↔ ∀ p ∈ ts, clampInt (s.lo p.1) (s.hi p.1) p.2 = p.2) ∧
      (∀ p ∈ ts, t.chan p.1 = consoleRecord .position none (some (clampInt (s.lo p.1) (s.hi p.1) p.2)) (s.chan p.1)) ∧
      (∀ c, hit c = false → t.chan c = s.chan c) ∧ t.moves = movesLeft hit s.moves ++ [⟨m, .ofFn hit⟩] ∧
      t.notices.move = moveSourceAfter hit s.moves s.notices.move ∧
      t = { servedBy s t with channels := t.channels, moves := t.moves, notices := t.notices } := by
  set v := serveSupervision s with hv
  have hl := gotoOpened_leaves (m := m) (s := v) hh hn hc
  refine ⟨_, _, replied_of_taken h he (hf.trans (goto_granted (s := v) hc)), gotoCode_cases ts v, gotoCode_ok,
    hl.goes, hl.stays, hl.moves, ?_, ?_⟩
  · exact hl.notice.trans (by rw [hv, serveSupervision_notices]; rfl)
  · rw [hl.rest, hv, serveSupervision_eq]
    rfl

theorem maskChans_ascending (m : ChannelMask) : (maskChans m).Pairwise fun c d => chanIndex c < chanIndex d :=
  allChans_ascending.filter _

theorem gotoOperands_fst {ps : List (BitVec 32)} (hl : ps.length = maskCount m) (hm : m.toNat < 512) :
    (((maskChans m).zip (ps.map BitVec.toInt)).map (·.1)) = maskChans m :=
  gotoTargets_fst hm hl

theorem requestGoto_goto {ps : List (BitVec 32)} (h0 : m ≠ 0#16) (hm : m.toNat < 512) (hl : ps.length = maskCount m)
    (s : State) : requestGoto m ps s = goto m ((maskChans m).zip (ps.map BitVec.toInt)) s := by
  rw [requestGoto, if_neg (by simp [hl]), maskValid_iff.2 ⟨h0, hm⟩, if_neg (by simp)]

/-- R26: GOTO by its claims. -/
theorem goto_cases {ps : List (BitVec 32)} (h : s.canReceive = true) (h0 : m ≠ 0#16) (hm : m.toNat < 512)
    (hl : ps.length = maskCount m) :
    (∀ c code, maskHas m c = true → claimCode .console true s c = some code →
      (∀ d, maskHas m d = true → chanIndex d < chanIndex c → claimCode .console true s d = none) →
      RefusedWith (.goto m ps) s code) ∧
    ((∀ c, maskHas m c = true → claimCode .console true s c = none) →
      ∃ t code, Replied (.goto m ps) s t code [] ∧
        (code = .ok ∨ code = .clamped) ∧
        (code = .ok ↔ ∀ p ∈ (maskChans m).zip ps, clampInt (s.lo p.1) (s.hi p.1) p.2.toInt = p.2.toInt) ∧
        (∀ p ∈ (maskChans m).zip ps, t.chan p.1 =
          consoleRecord .position none (some (clampInt (s.lo p.1) (s.hi p.1) p.2.toInt)) (s.chan p.1)) ∧
        (∀ c, maskHas m c = false → t.chan c = s.chan c) ∧
        t.moves = movesLeft (maskHas m) s.moves ++ [⟨m, setOfMask m⟩] ∧
        t.notices.move = moveSourceAfter (maskHas m) s.moves s.notices.move ∧
        t = { servedBy s t with channels := t.channels, moves := t.moves, notices := t.notices }) := by
  have hfst := gotoTargets_fst hm hl
  have hf := requestGoto_goto h0 hm hl
  have hz : (maskChans m).zip (ps.map BitVec.toInt) = ((maskChans m).zip ps).map fun p => (p.1, p.2.toInt) :=
    List.zip_map_right
  constructor
  · intro c code hc hcode hlow
    refine refusedWith_of_accepted (f := requestGoto m ps) h rfl ((hf _).trans (goto_refused ?_ ?_ hcode ?_))
    · rw [hfst]
      exact maskChans_ascending m
    · rw [hfst]
      exact mem_maskChans.2 hc
    · rw [hfst]
      exact fun d hd => hlow d (mem_maskChans.1 hd)
  · intro hall
    obtain ⟨t, code, h1, h2, h3, h4, h5, h6, h7, h8⟩ := goto_replied (i := .goto m ps) (f := requestGoto m ps)
      (hit := maskHas m) h rfl (hf _)
      (fun c => by rw [hfst, Bool.eq_iff_iff, List.contains_iff_mem, mem_maskChans]) (by rw [hfst]; exact maskChans_nodup m)
      (by rw [hfst]; exact fun c hc => hall c (mem_maskChans.1 hc))
    rw [hz, List.forall_mem_map] at h3 h4
    exact ⟨t, code, h1, h2, h3, h4, h5, h6, h7, h8⟩

/-- The channels that a GOTO_MARK names (R26, R117). -/
def markNamed (k : Mark) (m : ChannelMask) (c : Chan) : Bool := maskHas m c && (k.values.get c).isSome

theorem mem_markTargets {k : Mark} {c : Chan} {v : Int} :
    (c, v) ∈ markTargets k m ↔ maskHas m c = true ∧ k.values.get c = some v := by
  simp only [markTargets, List.mem_filterMap, mem_maskChans, Option.map_eq_some_iff, Prod.mk.injEq]
  constructor
  · rintro ⟨d, hd, w, hw, rfl, rfl⟩
    exact ⟨hd, hw⟩
  · rintro ⟨hc, hv⟩
    exact ⟨c, hc, v, hv, rfl, rfl⟩

theorem mem_markTargets_fst {k : Mark} {c : Chan} : c ∈ (markTargets k m).map (·.1) ↔ markNamed k m c = true := by
  rw [markTargets_fst, List.mem_filter, mem_maskChans, markNamed, Bool.and_eq_true]

theorem requestGotoMark_found {n : Byte} {k : Mark} {u : State × Reply} (h0 : m ≠ 0#16) (hm : m.toNat < 512)
    (h1 : 1 ≤ n.toNat) (h2 : n.toNat ≤ 128) (hk : s.findMark n.toNat = some k)
    (nobody : markTargets k m = [] → u = refuse s .badOperand)
    (named : markTargets k m ≠ [] → u = goto m (markTargets k m) s) : requestGotoMark n m s = u := by
  have hn : natRange 1 Config.markCapacity n.toNat = true := natRange_iff.2 ⟨h1, h2⟩
  rw [requestGotoMark, hn, maskValid_iff.2 ⟨h0, hm⟩, if_neg (by simp), hk]
  dsimp only
  cases he : markTargets k m with
  | nil => exact (nobody he).symm
  | cons p l => exact (he ▸ named (by simp [he])).symm

/-- R26, R117: GOTO_MARK of a stored mark, by its claims. -/
theorem gotoMark_cases {n : Byte} {k : Mark} (h : s.canReceive = true) (h0 : m ≠ 0#16) (hm : m.toNat < 512)
    (h1 : 1 ≤ n.toNat) (h2 : n.toNat ≤ 128) (hk : s.findMark n.toNat = some k) :
    ((∀ c, markNamed k m c = false) → RefusedWith (.gotoMark n m) s .badOperand) ∧
    (∀ c code, markNamed k m c = true → claimCode .console true s c = some code →
      (∀ d, markNamed k m d = true → chanIndex d < chanIndex c → claimCode .console true s d = none) →
      RefusedWith (.gotoMark n m) s code) ∧
    ((∃ c, markNamed k m c = true) → (∀ c, markNamed k m c = true → claimCode .console true s c = none) →
      ∃ t code, Replied (.gotoMark n m) s t code [] ∧ (code = .ok ∨ code = .clamped) ∧
        (code = .ok ↔ ∀ c v, maskHas m c = true → k.values.get c = some v → clampInt (s.lo c) (s.hi c) v = v) ∧
        t.notices.move = moveSourceAfter (markNamed k m) s.moves s.notices.move ∧
        (∀ c v, maskHas m c = true → k.values.get c = some v → t.chan c =
          consoleRecord .position none (some (clampInt (s.lo c) (s.hi c) v)) (s.chan c)) ∧
        (∀ c, markNamed k m c = false → t.chan c = s.chan c) ∧
        t.moves = movesLeft (markNamed k m) s.moves ++ [⟨m, .ofFn (markNamed k m)⟩] ∧
        t = { servedBy s t with channels := t.channels, moves := t.moves, notices := t.notices }) := by
  have hf : ∀ c, markNamed k m c = true → requestGotoMark n m (serveSupervision s) =
      goto m (markTargets k m) (serveSupervision s) := fun c hc => by
    refine requestGotoMark_found (s := serveSupervision s) h0 hm h1 h2 hk (fun he => ?_) fun _ => rfl
    simpa [he] using mem_markTargets_fst.2 hc
  have hfst := markTargets_fst k m
  have hmem : ∀ c, ((markTargets k m).map (·.1)).contains c = markNamed k m c := fun c => by
    rw [Bool.eq_iff_iff, List.contains_iff_mem, mem_markTargets_fst]
  refine ⟨fun hnone => ?_, fun c code hc hcode hlow => ?_, fun ⟨c, hc⟩ hall => ?_⟩
  · refine refusedWith_of_accepted (f := requestGotoMark n m) h rfl ?_
    refine requestGotoMark_found (s := serveSupervision s) h0 hm h1 h2 hk (fun _ => rfl) fun he => ?_
    obtain ⟨p, hp⟩ := List.exists_mem_of_ne_nil _ he
    have := mem_markTargets_fst.1 (List.mem_map_of_mem (f := (·.1)) hp)
    rw [hnone] at this
    cases this
  · refine refusedWith_of_accepted (f := requestGotoMark n m) h rfl ((hf c hc).trans (goto_refused ?_
      (mem_markTargets_fst.2 hc) hcode fun d hd => hlow d (mem_markTargets_fst.1 hd)))
    rw [hfst]
    exact (maskChans_ascending m).filter _
  · obtain ⟨t, code, h1, h2, h3, h4, h5, h6, h7, h8⟩ := goto_replied (i := .gotoMark n m) (f := requestGotoMark n m)
      h rfl (hf c hc) hmem (by rw [hfst]; exact (maskChans_nodup m).filter _)
      fun c hc => hall c (mem_markTargets_fst.1 hc)
    refine ⟨t, code, h1, h2, h3.trans ⟨fun hp c v hc hv => hp (c, v) (mem_markTargets.2 ⟨hc, hv⟩), fun hp p hp' =>
      hp p.1 p.2 (mem_markTargets.1 hp').1 (mem_markTargets.1 hp').2⟩, h7,
      fun c v hc hv => h4 (c, v) (mem_markTargets.2 ⟨hc, hv⟩), h5, h6, h8⟩

/-- Settles O29: GOTO and GOTO_MARK, all or none. -/
theorem gotoOpensOneMove : Obligations.GotoOpensOneMove :=
  ⟨fun _ _ _ h h0 hm hl => goto_cases h h0 hm hl, fun _ _ _ _ h h0 hm h1 h2 hk => gotoMark_cases h h0 hm h1 h2 hk⟩

end Goto

/-! ## RELEASE, WHEEL_ASSIGN and wheel edges (R20, R21, R24, R28) -/

section Releases

variable {s : State} {m : ChannelMask}

theorem releasedRecord_eq (r : Channel) : releaseChannel r = releasedRecord r := rfl

theorem release_replied (h : s.canReceive = true) (h0 : m ≠ 0#16) (hm : m.toNat < 512) :
    let hit := fun c => maskHas m c && decide ((s.chan c).owner = .console)
    ∃ t, Replied (.release m) s t .ok [] ∧
      (∀ c, t.chan c = if hit c = true then releasedRecord (s.chan c) else s.chan c) ∧
      t.moves = movesLeft hit s.moves ∧ t.notices.move = moveSourceAfter hit s.moves s.notices.move ∧
      t = { servedBy s t with channels := t.channels, moves := t.moves, notices := t.notices } := by
  intro hit
  set v := serveSupervision s with hv
  set w := mapChannels v fun c r => if hit c = true then releaseChannel r else r with hw
  have hf : requestRelease m v = (interruptMoves hit w, ⟨.ok, []⟩) := by
    have hh : hit = fun c => maskHas m c && ((v.chan c).owner == .console) := funext fun c => by
      simp [hit, hv, Bool.beq_eq_decide_eq]
    rw [requestRelease, maskValid_iff.2 ⟨h0, hm⟩, if_neg (by simp)]
    simp only [accept, hw, hh]
  refine ⟨_, replied_of_taken (i := .release m) (f := requestRelease m) h rfl hf, fun c => ?_, interruptMoves_moves .., ?_, ?_⟩
  · show (interruptMoves hit w).chan c = _
    rw [chan_interruptMoves, hw, chan_mapChannels]
    rfl
  · refine (interruptMoves_sources w hit).1.trans ?_
    rw [hw, mapChannels_notices, hv, serveSupervision_notices]
    rfl
  · rw [interruptMoves_frame, hw, hv, serveSupervision_eq]
    rfl

theorem chan_releaseWheelChannel (before : Option Chan) (u : State) (c : Chan) : (releaseWheelChannel before u).chan c =
    if before = some c ∧ (u.chan c).owner = .wheel then releasedRecord (u.chan c) else u.chan c := by
  unfold releaseWheelChannel
  cases before with
  | none => simp
  | some d =>
    by_cases hd : d = c
    · subst hd
      by_cases ho : (u.chan d).owner = .wheel <;> simp [ho, releasedRecord_eq]
    · by_cases ho : (u.chan d).owner = .wheel <;> simp [ho, hd, Ne.symm hd]

theorem wheelAssign_replied (h : s.canReceive = true) {w b : Byte} {g : BitVec 16} {i : Fin 4} {ch : Option Chan}
    (hi : wheelOfNumber w.toNat = some i) (hb : wheelChannel b = some ch) :
    ∃ t, Replied (.wheelAssign w b g) s t .ok [] ∧
      (∀ c, t.chan c = if (s.wheels.get i).channel = some c ∧ (s.chan c).owner = .wheel then
        releasedRecord (s.chan c) else s.chan c) ∧
      t = { servedBy s t with channels := t.channels, wheels := s.wheels.set i ⟨ch, g.toInt, 0, 0, none⟩ } := by
  set v := serveSupervision s with hv
  set x : State := { v with wheels := s.wheels.set i ⟨ch, g.toInt, 0, 0, none⟩ } with hx
  have hf : requestWheelAssign w b g v = (releaseWheelChannel (s.wheels.get i).channel x, ⟨.ok, []⟩) := by
    rw [requestWheelAssign, hi, hb]
    rfl
  refine ⟨_, replied_of_taken (i := .wheelAssign w b g) (f := requestWheelAssign w b g) h rfl hf, fun c => ?_, ?_⟩
  · exact chan_releaseWheelChannel _ x c
  · rw [releaseWheelChannel_frame, hx, hv, serveSupervision_eq]
    rfl

/-- Settles O30: what RELEASE and WHEEL_ASSIGN let go, and what an edge counts. -/
theorem releasesLetChannelsGo : Obligations.ReleasesLetChannelsGo := by
  refine fun s => ⟨fun h => ⟨fun m h0 hm => release_replied h h0 hm, fun w b g i ch hi hb => wheelAssign_replied h hi hb⟩,
    fun hr i up => ?_⟩
  show Host.Outcome.next _ = _
  rw [whileRunning_of_running _ _ hr]
  rfl

end Releases

end Sys2Proof.Machine

/-! The channel update in the words of the claims (R3 to R9, R20, R22, R23): the profile's record, the hand-overs of the
wheels that turn, and the channels after the whole update. -/

namespace Sys2Proof.Machine

/-! ## The profile generator -/

section Profile

variable {lo hi : Int} {r : Channel} {c : Chan} {g : ChannelConfig}

theorem inhibited_iff {v : Int} : inhibited r v = true ↔ (0 < v ∧ r.inhibitPlus = true) ∨ (v < 0 ∧ r.inhibitMinus = true) := by
  simp [inhibited]

theorem velocityStep_eq (step : Nat) (v d : Int) : velocityStep step v d = max (v - step) (min (v + step) d) := by
  unfold velocityStep
  split <;> omega

theorem steppedVelocity_eq (step : Nat) (d : Int) : (if inhibited r (velocityStep step r.velocity d) = true then 0
    else velocityStep step r.velocity d) = steppedVelocity step r d := by
  simp only [inhibited_iff, velocityStep_eq, steppedVelocity]

theorem brakingCap_eq (accel : Nat) (d : Int) : brakingCap accel d = stoppingSpeed accel d := by
  unfold brakingCap stoppingSpeed
  split
  · rw [if_neg (by omega)]
  · rw [if_pos (by omega)]

theorem stoppingSpeed_nonneg (accel : Nat) (d : Int) : 0 ≤ stoppingSpeed accel d := by
  unfold stoppingSpeed
  split
  · exact le_rfl
  · exact Int.natCast_nonneg _

theorem boundDemand_eq (accel : Nat) (d : Int) : boundDemand lo hi accel r d = allowedDemand lo hi accel r d := by
  have hs := stoppingSpeed_nonneg accel (r.setpoint - lo)
  unfold boundDemand allowedDemand capDemand
  simp only [brakingCap_eq]
  rcases lt_trichotomy d 0 with hd | rfl | hd
  · have h1 : ¬0 < d := by omega
    simp [inhibited, outward, h1, hd]
  · simp [inhibited, outward, hs]
  · have h1 : ¬d < 0 := by omega
    simp [inhibited, outward, h1, hd]

theorem stepSize_eq (g : ChannelConfig) (r : Channel) : stepSize g r = velocityStepOf g r := rfl

/-- R5, R6, R9: an advance is the claims' step and what it does to the record. -/
theorem advance_eq (step : Nat) (d : Int) : advance lo hi step d r = heldBackRecord lo hi (steppedVelocity step r d) r := by
  have hm : ∀ acc : Int, acc - acc / 1000 * 1000 = acc % 1000 := fun acc => by omega
  simp only [advance, steppedVelocity_eq, floorDiv, heldBackRecord, furtherOutside, Bool.or_eq_true, Bool.and_eq_true,
    decide_eq_true_eq, hm]

/-- R6: within the limits nothing holds a channel back. -/
theorem heldBackRecord_inside (v : Int) (h1 : lo ≤ r.setpoint) (h2 : r.setpoint ≤ hi) :
    heldBackRecord lo hi v r = advancedRecord lo hi v r := by
  unfold heldBackRecord advancedRecord
  dsimp only
  rw [if_neg (by omega)]
  simp only [h1, h2, true_and]

/-- R5, R20: what velocity 0 ends. -/
theorem settle_eq (r : Channel) : settle r = if r.velocity ≠ 0 then r else if r.owner = .none then heldRecord r
    else { r with stopDecel := false } := by
  unfold settle
  by_cases hv : r.velocity = 0
  · rw [if_pos hv, if_neg (not_not.2 hv)]
    rfl
  · rw [if_neg hv, if_pos hv]

theorem velocityDemand_eq (scale : Nat) (d : Int) : velocityDemand c g scale d =
    if isArm c = true then
      (max (-(Int.ofNat g.vmax)) (min (Int.ofNat g.vmax) d) * scale).tdiv 1024
    else max (-(Int.ofNat g.vmax)) (min (Int.ofNat g.vmax) d) := by
  have h : -(Int.ofNat g.vmax) ≤ Int.ofNat g.vmax := by
    show -(g.vmax : Int) ≤ g.vmax
    omega
  rw [velocityDemand, clampInt_eq h]
  rfl

theorem positionDemand_eq (scale : Nat) (goal x : Int) : positionDemand c g scale goal x =
    let fast := if isArm c = true then (Int.ofNat g.vmax * scale).tdiv 1024 else Int.ofNat g.vmax
    let speed := min fast (Int.ofNat (isqrt (2000 * g.accel * (goal - x).natAbs)))
    if x < goal then speed else if goal < x then -speed else 0 := by
  unfold positionDemand scaled truncDiv
  dsimp only
  rcases lt_trichotomy x goal with h | rfl | h
  · rw [Int.sign_eq_one_of_pos (by omega), if_pos h, one_mul]
  · simp
  · rw [Int.sign_eq_neg_one_of_neg (by omega), if_neg (show ¬x < goal by omega), if_pos h, neg_one_mul]

theorem profile_resting (scale : Nat) (path : Option Int) (hd : r.drive ≠ .active) :
    profile c g lo hi scale path r = restChannel lo hi r := if_pos hd

theorem profile_hold (scale : Nat) (path : Option Int) (hd : r.drive = .active) (hm : r.mode = .hold) :
    profile c g lo hi scale path r = flaggedRecord lo hi r := by
  unfold profile
  rw [if_neg (by simp [hd]), hm, ← withLimits_eq]

/-- R4 to R6, R9: the profile of VELOCITY mode; a channel without a demand has the demand 0. -/
theorem profile_velocity_getD (scale : Nat) (path : Option Int) (hd : r.drive = .active) (hm : r.mode = .velocity) :
    profile c g lo hi scale path r = settle (flaggedRecord lo hi (heldBackRecord lo hi (steppedVelocity (velocityStepOf g r) r
      (allowedDemand lo hi g.accel r (velocityDemand c g scale (r.demand.getD 0)))) r)) := by
  unfold profile
  rw [if_neg (by simp [hd]), hm, ← withLimits_eq, ← advance_eq, ← boundDemand_eq]
  rfl

theorem profile_velocity (scale : Nat) (path : Option Int) {d : Int} (hd : r.drive = .active) (hm : r.mode = .velocity)
    (hx : r.demand = some d) : profile c g lo hi scale path r = settle (flaggedRecord lo hi (heldBackRecord lo hi
      (steppedVelocity (velocityStepOf g r) r (allowedDemand lo hi g.accel r (velocityDemand c g scale d))) r)) := by
  rw [profile_velocity_getD scale path hd hm, hx, Option.getD_some]

theorem heldBackRecord_target (v : Int) (x : Option Int) :
    heldBackRecord lo hi v { r with target := x } = { heldBackRecord lo hi v r with target := x } := by
  unfold heldBackRecord
  dsimp only
  split
  · rfl
  · split
    · rfl
    · split <;> rfl

/-- R4 to R7, R9: the profile of POSITION mode; a channel without a target has its setpoint for one. -/
theorem profile_position_getD (scale : Nat) (path : Option Int) {x : Int} (hd : r.drive = .active) (hm : r.mode = .position)
    (hx : r.target.getD r.setpoint = x) : profile c g lo hi scale path r =
      settle (flaggedRecord lo hi (arrivedRecord g.accel (clampInt lo hi x) { heldBackRecord lo hi
        (steppedVelocity (velocityStepOf g r) r (allowedDemand lo hi g.accel r
          (positionDemand c g scale (clampInt lo hi x) r.setpoint))) r with target := some (clampInt lo hi x) })) := by
  have hp : profile c g lo hi scale path r = settle (withLimits lo hi (arrive g.accel (clampInt lo hi x)
      (advance lo hi (stepSize g r) (boundDemand lo hi g.accel r (positionDemand c g scale (clampInt lo hi x) r.setpoint))
        { r with target := some (clampInt lo hi x) }))) := by
    cases r
    dsimp only at hd hm hx
    subst hd hm hx
    rfl
  rw [hp, withLimits_eq, arrive_eq, advance_eq, boundDemand_eq, heldBackRecord_target]
  rfl

theorem profile_position (scale : Nat) (path : Option Int) {x : Int} (hd : r.drive = .active) (hm : r.mode = .position)
    (hx : r.target = some x) : profile c g lo hi scale path r =
      settle (flaggedRecord lo hi (arrivedRecord g.accel (clampInt lo hi x) { heldBackRecord lo hi
        (steppedVelocity (velocityStepOf g r) r (allowedDemand lo hi g.accel r
          (positionDemand c g scale (clampInt lo hi x) r.setpoint))) r with target := some (clampInt lo hi x) })) :=
  profile_position_getD scale path hd hm (by rw [hx, Option.getD_some])

end Profile

/-! ## The hand-overs of the wheels that turn (R22) -/

section HandOvers

theorem foldl_raiseMove_wheels (r : Bool) (w : PerFour WheelInput) : ∀ (ms : List ConsoleMove) (u : State),
    ms.foldl (fun s m => raiseMove ⟨m.mask, r⟩ s) { u with wheels := w } =
      { ms.foldl (fun s m => raiseMove ⟨m.mask, r⟩ s) u with wheels := w }
  | [], _ => rfl
  | m :: ms, u => foldl_raiseMove_wheels r w ms (raiseMove ⟨m.mask, r⟩ u)

theorem interruptMoves_wheels_comm (hit : Chan → Bool) (w : PerFour WheelInput) (u : State) :
    interruptMoves hit { u with wheels := w } = { interruptMoves hit u with wheels := w } :=
  foldl_raiseMove_wheels false w _ { u with moves := u.moves.filter fun m => !moveHits hit m }

theorem endTake_wheels_comm (r : TakeResult) (w : PerFour WheelInput) (u : State) :
    endTake r { u with wheels := w } = { endTake r u with wheels := w } := by
  unfold endTake
  dsimp only
  split <;> rfl

theorem overtake_wheels_comm (c : Chan) (w : PerFour WheelInput) (u : State) :
    overtake c { u with wheels := w } = { overtake c u with wheels := w } := by
  rw [overtake_eq, overtake_eq]
  split
  · exact endTake_wheels_comm _ w { u with engine := overtakenEngine c u.engine }
  · rfl

theorem trackingOff_wheels_comm (w : PerFour WheelInput) (u : State) :
    trackingOff { u with wheels := w } = { trackingOff u with wheels := w } := by
  rw [trackingOff_eq, trackingOff_eq]
  dsimp only
  split <;> rfl

/-- R18: a grant neither reads nor writes the wheels. -/
theorem grant_wheels_comm (p : Party) (m : Mode) (d x : Option Int) (c : Chan) (w : PerFour WheelInput) (u : State) :
    grant p m d x c { u with wheels := w } = { grant p m d x c u with wheels := w } := by
  show reportLoss p c (u.chan c).owner { u.setChan c (grantRecord p m d x (u.chan c)) with wheels := w } = _
  unfold grant reportLoss
  cases (u.chan c).owner
  case console => exact interruptMoves_wheels_comm _ w _
  case take =>
    dsimp only
    split
    · exact overtake_wheels_comm c w _
    · rfl
  case track =>
    dsimp only
    split
    · rfl
    · exact trackingOff_wheels_comm w _
  all_goals rfl

/-- R22: the hand-over of a wheel reads no other wheel. -/
theorem handOver_wheels_comm (i : Fin 4) (w : PerFour WheelInput) (u : State) (h : w.get i = u.wheels.get i) :
    handOver i { u with wheels := w } = { handOver i u with wheels := w.set i ((handOver i u).wheels.get i) } := by
  have hget : ∀ x, (u.wheels.set i x).get i = x := fun x => by simp
  unfold handOver
  dsimp only
  rw [h]
  split
  · simp
  · split
    · simp
    · rw [show claimCode .wheel false { u with wheels := w } = claimCode .wheel false u from rfl]
      split
      · simp
      · rw [(settled_eq_iff.1 (grant_settled ..)).2.1, hget]
        exact (grant_wheels_comm _ _ _ _ _ _ u).trans (by
          rw [grant_wheels_comm _ _ _ _ _ (u.wheels.set i _) u]
          rfl)

/-- R22, R23: a wheel without channel, gain or count, after an update. -/
def stillWheel (limit : Nat) (w : WheelInput) : WheelInput := { w with counter := 0, idle := idleAfter limit w.idle }

/-- The hand-overs of some wheels, in turn. -/
def handOvers (l : List (Fin 4)) (s : State) : State := l.foldl (fun s i => handOver i s) s

theorem handOverAll_eq (s : State) : handOverAll s = handOvers [0, 1, 2, 3] s := rfl

theorem handOvers_cons (i : Fin 4) (l : List (Fin 4)) (s : State) : handOvers (i :: l) s = handOvers l (handOver i s) := rfl

theorem handOver_config (i : Fin 4) (s : State) : (handOver i s).config = s.config := (handOver_body i s).config

theorem handOvers_wheel_other {l : List (Fin 4)} {i : Fin 4} : i ∉ l → ∀ s, (handOvers l s).wheels.get i = s.wheels.get i := by
  induction l with
  | nil => exact fun _ _ => rfl
  | cons k l ih =>
    intro h s
    rw [List.mem_cons, not_or] at h
    rw [handOvers_cons, ih h.2, handOver_other s k i h.1]

/-- R22, R23: only the wheels that turn (`p`) hand over; each of the others is as a still wheel is left. -/
theorem handOvers_turning (p : Fin 4 → Bool) : ∀ (l : List (Fin 4)), l.Nodup → ∀ (u : State) (w : PerFour WheelInput),
    (∀ k ∈ l, p k = true → w.get k = u.wheels.get k) →
    (∀ k ∈ l, p k = false → (w.get k).channel = none ∨ (w.get k).gain = 0 ∨ (w.get k).counter = 0) →
    ∃ v, handOvers l { u with wheels := w } = { handOvers (l.filter p) u with wheels := v } ∧
      ∀ k, v.get k = if k ∈ l then
        (if p k = true then (handOvers (l.filter p) u).wheels.get k else stillWheel u.config.wheelIdle (w.get k))
        else w.get k
  | [], _, u, w, _, _ => ⟨w, rfl, fun k => by simp⟩
  | a :: l, hn, u, w, ht, hs => by
    rw [List.nodup_cons] at hn
    have hne : ∀ k ∈ l, k ≠ a := fun k hk he => hn.1 (he ▸ hk)
    cases ha : p a with
    | false =>
      have hstill := handOver_still { u with wheels := w } a (hs a List.mem_cons_self ha)
      obtain ⟨v, hv, hget⟩ := handOvers_turning p l hn.2 u (w.set a (stillWheel u.config.wheelIdle (w.get a)))
        (fun k hk hp => by rw [PerFour.get_set, if_neg (hne k hk)]; exact ht k (List.mem_cons_of_mem _ hk) hp)
        fun k hk hp => by rw [PerFour.get_set, if_neg (hne k hk)]; exact hs k (List.mem_cons_of_mem _ hk) hp
      refine ⟨v, ?_, fun k => ?_⟩
      · rw [handOvers_cons, hstill, List.filter_cons_of_neg (by simp [ha])]
        exact hv
      · rw [hget, List.filter_cons_of_neg (by simp [ha])]
        by_cases hka : k = a
        · subst hka
          rw [if_neg hn.1, PerFour.get_set, if_pos rfl, if_pos List.mem_cons_self, if_neg (by simp [ha])]
        · simp [hka]
    | true =>
      have hcomm := handOver_wheels_comm a w u (ht a List.mem_cons_self ha)
      obtain ⟨v, hv, hget⟩ := handOvers_turning p l hn.2 (handOver a u) (w.set a ((handOver a u).wheels.get a))
        (fun k hk hp => by
          rw [PerFour.get_set, if_neg (hne k hk), handOver_other u a k (hne k hk)]
          exact ht k (List.mem_cons_of_mem _ hk) hp)
        fun k hk hp => by rw [PerFour.get_set, if_neg (hne k hk)]; exact hs k (List.mem_cons_of_mem _ hk) hp
      refine ⟨v, ?_, fun k => ?_⟩
      · rw [handOvers_cons, hcomm, List.filter_cons_of_pos (by simp [ha]), handOvers_cons]
        exact hv
      · rw [hget, List.filter_cons_of_pos (by simp [ha]), handOvers_cons, handOver_config]
        by_cases hka : k = a
        · subst hka
          rw [if_neg hn.1, PerFour.get_set, if_pos rfl, if_pos List.mem_cons_self, if_pos ha,
            handOvers_wheel_other fun hm => hn.1 (List.mem_filter.1 hm).1]
        · simp [hka]

theorem mem_wheels (i : Fin 4) : i ∈ ([0, 1, 2, 3] : List (Fin 4)) := by fin_cases i <;> decide

/-- R22, R23: the hand-overs of an update, where only the wheels `p` turn. -/
theorem handOverAll_turning (p : Fin 4 → Bool) (s : State)
    (hs : ∀ k, p k = false →
      (s.wheels.get k).channel = none ∨ (s.wheels.get k).gain = 0 ∨ (s.wheels.get k).counter = 0) :
    ∃ v, handOverAll s = { handOvers ([0, 1, 2, 3].filter p) s with wheels := v } ∧ ∀ k, v.get k =
      if p k = true then (handOvers ([0, 1, 2, 3].filter p) s).wheels.get k
      else stillWheel s.config.wheelIdle (s.wheels.get k) := by
  obtain ⟨v, hv, hget⟩ := handOvers_turning p [0, 1, 2, 3] (by decide) s s.wheels (fun _ _ _ => rfl) fun k _ => hs k
  exact ⟨v, hv, fun k => by rw [hget, if_pos (mem_wheels k)]⟩

/-- R23: the hand-overs of an update where no wheel turns. -/
theorem handOverAll_still {s : State} (h : wheelsStill s) : handOverAll s =
    { s with wheels := .ofFn fun i => { s.wheels.get i with idle := idleAfter s.config.wheelIdle (s.wheels.get i).idle } } := by
  obtain ⟨v, hv, hget⟩ := handOverAll_turning (fun _ => false) s fun k _ => .inr (.inr (h k))
  have hw : v = .ofFn fun i => { s.wheels.get i with idle := idleAfter s.config.wheelIdle (s.wheels.get i).idle } := by
    refine PerFour.ext_get fun k => ?_
    rw [hget, if_neg (by simp), PerFour.get_ofFn, stillWheel, ← h k]
  rw [hv, hw]
  rfl

end HandOvers

/-! ## The channels after an update -/

section Updated

variable {s : State} {c : Chan}

/-- R23: what the idle release makes of a channel's record. -/
def idleReleased (h : State) (c : Chan) (r : Channel) : Channel :=
  if r.owner = .wheel ∧ r.velocity = 0 ∧ wheelsIdle h c = true then releasedRecord r else r

theorem wheelsIdle_iff : wheelsIdle s c = true ↔
    ∀ i, (s.wheels.get i).channel = some c → (s.wheels.get i).idle = none := by
  rw [wheelsIdle, List.all_eq_true]
  constructor
  · intro h i hc
    simpa [hc] using h i (mem_wheels i)
  · intro h i _
    by_cases hc : (s.wheels.get i).channel = some c
    · simp [h i hc]
    · simp [hc]

theorem reachMoves_channels (s : State) : (reachMoves s).channels = s.channels := by
  have h : ∀ (l : List Chan) (t : State),
      (l.foldl (fun t c => if (s.chan c).inPosition ∧ t.inMove c then reachMove c t else t) t).channels = t.channels := by
    intro l
    induction l with
    | nil => exact fun _ => rfl
    | cons d l ih =>
      intro t
      rw [List.foldl_cons, ih]
      split
      · exact reachMove_channels t d
      · rfl
  exact h _ _

/-- One channel's record after the profile of an update that finds h after the hand-overs. -/
def profiled (h : State) (c : Chan) : Channel :=
  profile c (h.cfg c) (h.lo c) (h.hi c) h.zoneMonitor.scale (h.engine.path.get c) (h.chan c)

/-- R3 to R9, R20, R23: the channels before the test for standstill. -/
theorem chan_updated (s : State) (c : Chan) :
    (updated s).chan c = idleReleased (handOverAll s) c (profiled (handOverAll s) c) := by
  have hb := (sameBody_runProfiles (handOverAll s)).trans (sameBody_reachMoves (runProfiles (handOverAll s)))
  have hi : ∀ d, wheelsIdle (reachMoves (runProfiles (handOverAll s))) d = wheelsIdle (handOverAll s) d := fun d => by
    unfold wheelsIdle
    rw [hb.wheels]
  unfold updated releaseIdle idleReleased
  rw [chan_mapChannels, chan_eq_of_channels (reachMoves_channels _), chan_runProfiles, hi]
  rfl

/-- R98: a standstill ends every stop deceleration. -/
theorem chan_checkStandstill (u : State) (c : Chan) : (checkStandstill u).chan c =
    if u.crane.state = .stopping ∧ bodyStill u = true then { u.chan c with stopDecel := false } else u.chan c := by
  unfold checkStandstill
  split
  · rw [chan_enterCrane, chan_mapChannels]
    rfl
  · rfl

theorem updated_crane (s : State) : (updated s).crane = s.crane := (updated_body s).crane

theorem stopDecel_cleared {r : Channel} (h : r.stopDecel = false) : { r with stopDecel := false } = r := by
  cases r
  cases h
  rfl

/-- R98: where stop deceleration cannot be left to end, a standstill leaves the channel's record as it is. -/
theorem chan_channelUpdate (h : ((updated s).chan c).stopDecel = false ∨
    (s.crane.state = .stopping → isLens c = false ∧ ((updated s).chan c).velocity ≠ 0)) :
    (channelUpdate s).chan c = (updated s).chan c := by
  rw [channelUpdate_eq, chan_checkStandstill]
  split
  next hb =>
    rcases h with h | h
    · exact stopDecel_cleared h
    · rw [updated_crane] at hb
      obtain ⟨hl, hv⟩ := h hb.1
      have := List.all_eq_true.1 hb.2 c (mem_allChans c)
      simp [hl, hv] at this
  · rfl

theorem exec_channelUpdate (hr : s.running = true) : exec .channelUpdate s = .next (channelUpdate s) := by
  show Host.Outcome.next _ = _
  rw [whileRunning_of_running _ _ hr]

end Updated

end Sys2Proof.Machine

/-! Channel updates where no wheel turns (R3 to R9, R20, R23, R98): O31 to O35. -/

namespace Sys2Proof.Machine

section Records

variable {lo hi : Int} {r : Channel}

/-- R5, R6: an advance writes setpoint, fraction, velocity and AT_LIMIT alone. -/
theorem heldBackRecord_frame (v : Int) : heldBackRecord lo hi v r = { r with
    setpoint := (heldBackRecord lo hi v r).setpoint
    fraction := (heldBackRecord lo hi v r).fraction
    velocity := (heldBackRecord lo hi v r).velocity
    atLimit := (heldBackRecord lo hi v r).atLimit } := by
  unfold heldBackRecord
  dsimp only
  split
  · rfl
  · split
    · rfl
    · split <;> rfl

theorem settle_stopDecel (h : r.velocity = 0 ∨ r.stopDecel = false) : (settle r).stopDecel = false := by
  rw [settle_eq]
  split
  next hv => exact h.resolve_left hv
  · split <;> rfl

theorem settle_of_owned (h : r.stopDecel = false) (ho : r.owner ≠ .none) : settle r = r := by
  rw [settle_eq]
  split
  · rfl
  · exact stopDecel_cleared h

/-- R5: a demand of 0 within one step of standstill. -/
theorem steppedVelocity_zero {step : Nat} (h : r.velocity.natAbs ≤ step) : steppedVelocity step r 0 = 0 := by
  have hv : max (r.velocity - step) (min (r.velocity + step) 0) = 0 := by omega
  unfold steppedVelocity
  rw [hv]
  simp

theorem allowedDemand_zero (accel : Nat) : allowedDemand lo hi accel r 0 = 0 := by simp [allowedDemand]

/-- R6: a channel at velocity 0 stays where it is. -/
theorem advancedRecord_zero (hf : r.fraction < 1000) : advancedRecord lo hi 0 r = { r with velocity := 0 } := by
  have h1 : (r.setpoint * 1000 + (r.fraction : Int) + 0) / 1000 = r.setpoint := by omega
  have h2 : ((r.setpoint * 1000 + (r.fraction : Int) + 0) % 1000).toNat = r.fraction := by omega
  unfold advancedRecord
  simp only [lt_irrefl, false_and, if_false]
  exact congrArg₂ (fun x f => { r with setpoint := x, fraction := f, velocity := 0 }) h1 h2

theorem heldBackRecord_zero : (heldBackRecord lo hi 0 r).velocity = 0 := by
  unfold heldBackRecord
  simp only [lt_irrefl, false_and, if_false]
  split <;> rfl

end Records

section Still

variable {s : State} {c : Chan}

theorem profiled_still (h : wheelsStill s) : profiled (handOverAll s) c = profiled s c := by
  rw [handOverAll_still h]
  rfl

theorem profiled_owner (h : State) (c : Chan) : (profiled h c).owner = (h.chan c).owner := (profile_owner ..).1

theorem updated_still (h : wheelsStill s) (ho : (s.chan c).owner ≠ .wheel) : (updated s).chan c = profiled s c := by
  rw [chan_updated, profiled_still h, idleReleased, if_neg]
  rintro ⟨hw, -⟩
  exact ho ((profiled_owner s c).symm.trans hw)

/-! ## VELOCITY mode (R3 to R6, R9) -/

/-- R4, R5, R9: the update of a channel in VELOCITY mode, wherever it stands. -/
theorem velocityMode_update {d : Int} (hr : s.running = true) (h : wheelsStill s)
    (hs : s.crane.state = .stopping → isLens c = false ∨ (s.chan c).stopDecel = false)
    (hd : (s.chan c).drive = .active) (hm : (s.chan c).mode = .velocity) (hx : (s.chan c).demand = some d)
    (ho : (s.chan c).owner ≠ .wheel) : ∃ t, exec .channelUpdate s = .next t ∧
      t.chan c = settle (flaggedRecord (s.lo c) (s.hi c) (heldBackRecord (s.lo c) (s.hi c)
        (steppedVelocity (velocityStepOf (s.cfg c) (s.chan c)) (s.chan c) (allowedDemand (s.lo c) (s.hi c) (s.cfg c).accel
          (s.chan c) (velocityDemand c (s.cfg c) s.zoneMonitor.scale d))) (s.chan c))) := by
  set r := flaggedRecord (s.lo c) (s.hi c) (heldBackRecord (s.lo c) (s.hi c)
    (steppedVelocity (velocityStepOf (s.cfg c) (s.chan c)) (s.chan c) (allowedDemand (s.lo c) (s.hi c) (s.cfg c).accel
      (s.chan c) (velocityDemand c (s.cfg c) s.zoneMonitor.scale d))) (s.chan c)) with hrd
  have hu : (updated s).chan c = settle r := (updated_still h ho).trans (profile_velocity _ _ hd hm hx)
  have hstop : r.stopDecel = (s.chan c).stopDecel := by
    rw [hrd, heldBackRecord_frame]
    rfl
  refine ⟨_, exec_channelUpdate hr, (chan_channelUpdate ?_).trans hu⟩
  rw [hu]
  by_cases hv : r.velocity = 0
  · exact .inl (settle_stopDecel (.inl hv))
  · by_cases hst : (s.chan c).stopDecel = false
    · exact .inl (settle_stopDecel (.inr (hstop.trans hst)))
    · exact .inr fun hc => ⟨(hs hc).resolve_right hst, by rw [settle_eq, if_pos hv]; exact hv⟩

/-- Settles O31: the update in VELOCITY mode within the limits. -/
theorem velocityModeFollowsTheDemand : Obligations.VelocityModeFollowsTheDemand := by
  intro s c d hr h hs hd hm hx ho hlo hhi _
  obtain ⟨t, ht, hc⟩ := velocityMode_update hr h hs hd hm hx ho
  rw [settle_eq, heldBackRecord_inside _ hlo hhi, velocityDemand_eq] at hc
  exact ⟨t, ht, hc⟩

/-! ## POSITION mode (R4 to R7) -/

/-- R4 to R7: the record of a channel in POSITION mode, within its limits, after its profile. -/
theorem profiled_position {x : Int} (hd : (s.chan c).drive = .active) (hm : (s.chan c).mode = .position)
    (hx : (s.chan c).target = some x) (hlo : s.lo c ≤ (s.chan c).setpoint) (hhi : (s.chan c).setpoint ≤ s.hi c) :
    profiled s c = settle (flaggedRecord (s.lo c) (s.hi c)
      (arrivedRecord (s.cfg c).accel (max (s.lo c) (min (s.hi c) x))
        (approachedRecord c (s.cfg c) (s.lo c) (s.hi c) s.zoneMonitor.scale x (s.chan c)))) := by
  unfold profiled
  rw [profile_position _ _ hd hm hx, clampInt_eq (hlo.trans hhi), heldBackRecord_inside _ hlo hhi, positionDemand_eq]
  rfl

theorem advancedRecord_frame {lo hi : Int} {r : Channel} (v : Int) : advancedRecord lo hi v r = { r with
    setpoint := (advancedRecord lo hi v r).setpoint
    fraction := (advancedRecord lo hi v r).fraction
    velocity := (advancedRecord lo hi v r).velocity
    atLimit := (advancedRecord lo hi v r).atLimit } := by
  unfold advancedRecord
  dsimp only
  split
  · rfl
  · split <;> rfl

theorem arrivedRecord_frame {r : Channel} (accel : Nat) (goal : Int) : arrivedRecord accel goal r = { r with
    setpoint := (arrivedRecord accel goal r).setpoint
    fraction := (arrivedRecord accel goal r).fraction
    velocity := (arrivedRecord accel goal r).velocity
    inPosition := (arrivedRecord accel goal r).inPosition } := by
  unfold arrivedRecord
  split <;> rfl

/-- R5 to R7: what an update in POSITION mode keeps of a channel's record. -/
theorem approached_keeps {lo hi : Int} {r : Channel} (g : ChannelConfig) (scale accel : Nat) (x goal : Int) :
    (arrivedRecord accel goal (approachedRecord c g lo hi scale x r)).stopDecel = r.stopDecel ∧
      (arrivedRecord accel goal (approachedRecord c g lo hi scale x r)).owner = r.owner := by
  rw [arrivedRecord_frame, approachedRecord, advancedRecord_frame]
  exact ⟨rfl, rfl⟩

theorem releasedRecord_rest {r : Channel} (h : r.velocity = 0) : releasedRecord r = { heldRecord r with owner := .none } :=
  if_pos h

/-- R23: the wheels of a channel after hand-overs where none turned. -/
theorem wheelsIdle_still (h : wheelsStill s) : wheelsIdle (handOverAll s) c = true ↔
    ∀ i, (s.wheels.get i).channel = some c → idleAfter s.config.wheelIdle (s.wheels.get i).idle = none := by
  rw [wheelsIdle_iff, handOverAll_still h]
  simp only [PerFour.get_ofFn]

/-- Settles O32: the update in POSITION mode within the limits. -/
theorem positionModeReachesTheTarget : Obligations.PositionModeReachesTheTarget := by
  intro s c x hr h hd hm hx ho hlo hhi _ hst
  dsimp only
  set r := flaggedRecord (s.lo c) (s.hi c) (arrivedRecord (s.cfg c).accel (max (s.lo c) (min (s.hi c) x))
    (approachedRecord c (s.cfg c) (s.lo c) (s.hi c) s.zoneMonitor.scale x (s.chan c))) with hrd
  obtain ⟨hk1, hk2⟩ := approached_keeps (c := c) (lo := s.lo c) (hi := s.hi c) (r := s.chan c) (s.cfg c) s.zoneMonitor.scale
    (s.cfg c).accel x (max (s.lo c) (min (s.hi c) x))
  have hrs : r.stopDecel = false := hk1.trans hst
  have hro : r.owner = (s.chan c).owner := hk2
  have hn : r.owner ≠ .none := by rw [hro]; rcases ho with ho | ho | ho <;> simp [ho]
  have hp : profiled s c = r := (profiled_position hd hm hx hlo hhi).trans (settle_of_owned hrs hn)
  have hu : (updated s).chan c = if (s.chan c).owner = .wheel ∧ r.velocity = 0 ∧
      (∀ i, (s.wheels.get i).channel = some c → idleAfter s.config.wheelIdle (s.wheels.get i).idle = none) then
      { heldRecord r with owner := .none } else r := by
    rw [chan_updated, profiled_still h, hp, idleReleased, hro]
    simp only [wheelsIdle_still h]
    split
    next hc => exact releasedRecord_rest hc.2.1
    · rfl
  simp only [approachedRecord, velocityStepOf, hst, if_neg Bool.false_ne_true] at hrd
  refine ⟨_, exec_channelUpdate hr, ((chan_channelUpdate (.inl ?_)).trans hu).trans (by rw [hrd])⟩
  rw [hu]
  split
  · rfl
  · exact hrs

end Still

/-! ## Arrival (R7, R27) -/

section Arrival

variable {s : State} {c : Chan}

/-- R27: c stands in no open move. -/
def leftMoves (c : Chan) (s : State) : Prop := ∀ m ∈ s.moves, m.remaining.get c = false

theorem leftMoves_iff : leftMoves c s ↔ s.inMove c = false := by
  rw [← Bool.not_eq_true, State.inMove, List.any_eq_true]
  simp [leftMoves]

theorem leftMoves_reachMove (d : Chan) (h : leftMoves c s ∨ d = c) : leftMoves c (reachMove d s) := by
  intro m hm
  rw [reachMove_moves, List.mem_filter] at hm
  obtain ⟨k, hk, rfl⟩ := List.mem_map.1 hm.1
  rw [PerChannel.get_set]
  split
  · rfl
  next hne => exact h.resolve_right (fun he => hne he.symm) k hk

/-- R27: the update takes every channel that is in position out of its move. -/
theorem leftMoves_reachMoves (h : (s.chan c).inPosition = true) : leftMoves c (reachMoves s) := by
  have hstep : ∀ (t : State) (d : Chan), leftMoves c t ∨ d = c →
      leftMoves c (if (s.chan d).inPosition ∧ t.inMove d then reachMove d t else t) := by
    intro t d hd
    split
    · exact leftMoves_reachMove d hd
    next hn =>
      rcases hd with hd | rfl
      · exact hd
      · exact leftMoves_iff.2 (eq_false_of_ne_true fun hm => hn ⟨h, hm⟩)
  have hall : ∀ (l : List Chan) (t : State), leftMoves c t ∨ c ∈ l →
      leftMoves c (l.foldl (fun t d => if (s.chan d).inPosition ∧ t.inMove d then reachMove d t else t) t) := by
    intro l
    induction l with
    | nil => exact fun t ht => ht.resolve_right (by simp)
    | cons d l ih =>
      intro t ht
      rw [List.foldl_cons]
      refine ih _ ?_
      rcases ht with ht | ht
      · exact .inl (hstep t d (.inl ht))
      · exact (List.mem_cons.1 ht).imp_left fun he => hstep t d (.inr he.symm)
  exact hall allChans s (.inr (mem_allChans c))

theorem foldl_reachMove_none (v : State) : ∀ (l : List Chan) (t : State), (∀ d ∈ l, t.inMove d = false) →
    l.foldl (fun t d => if (v.chan d).inPosition ∧ t.inMove d then reachMove d t else t) t = t
  | [], _, _ => rfl
  | d :: l, t, h => by
    rw [List.foldl_cons, if_neg (by simp [h d List.mem_cons_self])]
    exact foldl_reachMove_none v l t fun e he => h e (List.mem_cons_of_mem _ he)

/-- R27: the arrival of the last channel of the only open move. -/
theorem reachMoves_last {k : ConsoleMove} (h : (s.chan c).inPosition = true) (hm : s.moves = [k])
    (hk : ∀ d, k.remaining.get d = decide (d = c)) : reachMoves s = raiseMove ⟨k.mask, true⟩ { s with moves := [] } := by
  have hin : ∀ d, s.inMove d = decide (d = c) := fun d => by simp [State.inMove, hm, hk]
  have hempty : setEmpty (k.remaining.set c false) = true := setEmpty_iff.2 fun d => by
    rw [PerChannel.get_set]
    split
    · rfl
    next hd => simp [hk, hd]
  have hreach : reachMove c s = raiseMove ⟨k.mask, true⟩ { s with moves := [] } := by
    simp [reachMove, hm, hempty]
  obtain ⟨a, b, hab⟩ := List.append_of_mem (mem_allChans c)
  have hnd := allChans_nodup
  rw [hab, List.nodup_append, List.nodup_cons] at hnd
  unfold reachMoves
  rw [hab, List.foldl_append, foldl_reachMove_none s a s, List.foldl_cons, if_pos ⟨h, by simp [hin]⟩, hreach]
  · exact foldl_reachMove_none s b _ fun _ _ => rfl
  · intro d hd
    have hne : d ≠ c := hnd.2.2 d hd c List.mem_cons_self
    simp [hin, hne]

theorem channelUpdate_moves (s : State) : (channelUpdate s).moves = (reachMoves (runProfiles (handOverAll s))).moves ∧
    (channelUpdate s).notices.move = (reachMoves (runProfiles (handOverAll s))).notices.move := by
  rw [channelUpdate_eq]
  rcases checkStandstill_cases (updated s) with he | ⟨-, -, he⟩
  · rw [he]
    exact ⟨rfl, rfl⟩
  · rw [he, enterCrane_notices]
    exact ⟨(enterCrane_moves ..).trans rfl, rfl⟩

/-- R7, R27: the update at which a channel comes to be in position. -/
theorem arrival_update {x : Int} (hr : s.running = true) (h : wheelsStill s) (hd : (s.chan c).drive = .active)
    (hm : (s.chan c).mode = .position) (ho : (s.chan c).owner = .console ∨ (s.chan c).owner = .track)
    (hx : (s.chan c).target = some x) (hlo : s.lo c ≤ (s.chan c).setpoint) (hhi : (s.chan c).setpoint ≤ s.hi c)
    (hin : (s.chan c).inPosition = false) (hst : (s.chan c).stopDecel = false) :
    let goal := max (s.lo c) (min (s.hi c) x)
    let r := approachedRecord c (s.cfg c) (s.lo c) (s.hi c) s.zoneMonitor.scale x (s.chan c)
    (goal - r.setpoint).natAbs ≤ 1 → r.velocity.natAbs ≤ (s.cfg c).accel →
    ∃ t, exec (.inPosition c) s = .next t ∧ exec .channelUpdate s = .next t ∧
      t.chan c = flaggedRecord (s.lo c) (s.hi c) { r with setpoint := goal, fraction := 0, velocity := 0, inPosition := true } ∧
      (∀ m ∈ t.moves, m.remaining.get c = false) ∧
      (∀ k, s.moves = [k] → (∀ d, k.remaining.get d = decide (d = c)) →
        t.moves = [] ∧ t.notices.move = ⟨some ⟨k.mask, true⟩, s.notices.move.detail.isSome⟩) := by
  intro goal r h1 h2
  obtain ⟨hk1, hk2⟩ := approached_keeps (c := c) (lo := s.lo c) (hi := s.hi c) (r := s.chan c) (s.cfg c) s.zoneMonitor.scale
    (s.cfg c).accel x goal
  have harr : arrivedRecord (s.cfg c).accel goal r =
      { r with setpoint := goal, fraction := 0, velocity := 0, inPosition := true } := if_pos ⟨h1, h2⟩
  set q := flaggedRecord (s.lo c) (s.hi c) { r with setpoint := goal, fraction := 0, velocity := 0, inPosition := true } with hq
  have hqs : q.stopDecel = false := by rw [hq, ← harr]; exact hk1.trans hst
  have hqo : q.owner = (s.chan c).owner := by rw [hq, ← harr]; exact hk2
  have hp : profiled s c = q := by
    rw [profiled_position hd hm hx hlo hhi, settle_of_owned, hq, ← harr]
    · exact hk1.trans hst
    · refine fun hn => ?_
      have := hk2.symm.trans hn
      rcases ho with ho | ho <;> simp [ho] at this
  have hu : (updated s).chan c = q := (updated_still h (by rcases ho with ho | ho <;> simp [ho])).trans hp
  have hc : (channelUpdate s).chan c = q := (chan_channelUpdate (.inl (by rw [hu]; exact hqs))).trans hu
  have hv : (runProfiles (handOverAll s)).chan c = q := (chan_runProfiles _ c).trans ((profiled_still h).trans hp)
  have hvi : ((runProfiles (handOverAll s)).chan c).inPosition = true := by rw [hv]; rfl
  obtain ⟨hmv, hnt⟩ := channelUpdate_moves s
  refine ⟨_, ?_, exec_channelUpdate hr, hc, ?_, fun k hk hrem => ?_⟩
  · exact congrArg Host.Outcome.next (eventOf_of_happens s channelUpdate _ hr (by rw [hc, hin]; rfl))
  · rw [hmv]
    exact leftMoves_reachMoves hvi
  · have hms : (runProfiles (handOverAll s)).moves = [k] := by rw [handOverAll_still h]; exact hk
    have hns : (runProfiles (handOverAll s)).notices = s.notices := by rw [handOverAll_still h]; rfl
    rw [hmv, hnt, reachMoves_last hvi hms hrem]
    refine ⟨rfl, ?_⟩
    show (⟨_, (runProfiles (handOverAll s)).notices.move.detail.isSome⟩ : NoticeSource MoveDetail) = _
    rw [hns]

end Arrival

/-! ## Rest (R3, R5, R20, R23) -/

section Rest

variable {s : State} {c : Chan}

/-- R3: the update of a channel in HOLD, and of one whose drive is not ACTIVE. -/
theorem rest_update (hr : s.running = true) (h : wheelsStill s) (ho : (s.chan c).owner ≠ .wheel) :
    ∃ t, exec .channelUpdate s = .next t ∧
      let here := { s.chan c with
        outside := standsOutside (s.lo c) (s.hi c) (s.chan c).setpoint
        atLimit := (s.chan c).atLimit && standsOn (s.lo c) (s.hi c) (s.chan c).setpoint }
      ((s.chan c).drive = .active → (s.chan c).mode = .hold → (s.chan c).stopDecel = false → t.chan c = here) ∧
      ((s.chan c).drive ≠ .active → t.chan c =
        heldRecord (if (s.chan c).known = true then here else { here with outside := (s.chan c).outside })) := by
  have hu : (updated s).chan c = profiled s c := updated_still h ho
  refine ⟨_, exec_channelUpdate hr, fun hd hm hst => ?_, fun hd => ?_⟩
  · have hp : profiled s c = flaggedRecord (s.lo c) (s.hi c) (s.chan c) := profile_hold _ _ hd hm
    exact (chan_channelUpdate (.inl (by rw [hu, hp]; exact hst))).trans (hu.trans hp)
  · have hp : profiled s c = restChannel (s.lo c) (s.hi c) (s.chan c) := profile_resting _ _ hd
    have hr : restChannel (s.lo c) (s.hi c) (s.chan c) = heldRecord (if (s.chan c).known = true then
        flaggedRecord (s.lo c) (s.hi c) (s.chan c)
        else { flaggedRecord (s.lo c) (s.hi c) (s.chan c) with outside := (s.chan c).outside }) := by
      unfold restChannel
      rw [withLimits_eq]
      dsimp only
      cases hk : (s.chan c).known <;> rfl
    rw [hr] at hp
    exact (chan_channelUpdate (.inl (by rw [hu, hp]; rfl))).trans (hu.trans hp)

/-- R5, R20: the profile at which a deceleration without an owner ends. -/
theorem profiled_decelerated (hd : (s.chan c).drive = .active) (ho : (s.chan c).owner = .none)
    (hm : (s.chan c).mode = .velocity) (hx : (s.chan c).demand = some 0)
    (hv : (s.chan c).velocity.natAbs ≤ velocityStepOf (s.cfg c) (s.chan c)) :
    profiled s c = heldRecord (flaggedRecord (s.lo c) (s.hi c) (heldBackRecord (s.lo c) (s.hi c) 0 (s.chan c))) := by
  have hz : velocityDemand c (s.cfg c) s.zoneMonitor.scale 0 = 0 := by
    rw [velocityDemand_eq]
    simp
  have hz0 : (flaggedRecord (s.lo c) (s.hi c) (heldBackRecord (s.lo c) (s.hi c) 0 (s.chan c))).velocity = 0 :=
    heldBackRecord_zero
  unfold profiled
  rw [profile_velocity _ _ hd hm hx, hz, allowedDemand_zero, steppedVelocity_zero hv, settle_eq, if_neg (not_not.2 hz0),
    if_pos]
  rw [heldBackRecord_frame]
  exact ho

theorem deceleration_update (hr : s.running = true) (h : wheelsStill s) (hd : (s.chan c).drive = .active)
    (hf : (s.chan c).fraction < 1000) (hlo : s.lo c ≤ (s.chan c).setpoint) (hhi : (s.chan c).setpoint ≤ s.hi c)
    (ho : (s.chan c).owner = .none) (hm : (s.chan c).mode = .velocity) (hx : (s.chan c).demand = some 0)
    (hv : (s.chan c).velocity.natAbs ≤ velocityStepOf (s.cfg c) (s.chan c)) :
    ∃ t, exec (.decelerationEnd c) s = .next t ∧ exec .channelUpdate s = .next t ∧
      t.chan c = { heldRecord (s.chan c) with
        outside := false
        atLimit := (s.chan c).atLimit && standsOn (s.lo c) (s.hi c) (s.chan c).setpoint } := by
  have hp := profiled_decelerated hd ho hm hx hv
  rw [heldBackRecord_inside _ hlo hhi, advancedRecord_zero hf] at hp
  have hu : (updated s).chan c = _ := (updated_still h (by simp [ho])).trans hp
  have hc : (channelUpdate s).chan c = _ := (chan_channelUpdate (.inl (by rw [hu]; rfl))).trans hu
  refine ⟨_, congrArg Host.Outcome.next (eventOf_of_happens s channelUpdate _ hr ?_), exec_channelUpdate hr, hc.trans ?_⟩
  · rw [hc, ho, hm]
    rfl
  · have hout : standsOutside (s.lo c) (s.hi c) (s.chan c).setpoint = false := decide_eq_false (by omega)
    rw [← hout]
    rfl

/-- R23: the update at which the last wheel of a channel at rest turns idle. -/
theorem idle_update (hr : s.running = true) (h : wheelsStill s) (hd : (s.chan c).drive = .active)
    (hf : (s.chan c).fraction < 1000) (hlo : s.lo c ≤ (s.chan c).setpoint) (hhi : (s.chan c).setpoint ≤ s.hi c)
    (ho : (s.chan c).owner = .wheel) (hm : (s.chan c).mode = .position) (hx : (s.chan c).target = some (s.chan c).setpoint)
    (hv : (s.chan c).velocity = 0)
    (hi : ∀ i, (s.wheels.get i).channel = some c → ∀ x, (s.wheels.get i).idle = some x → s.config.wheelIdle ≤ x + 1) :
    ∃ t, exec (.wheelIdleRelease c) s = .next t ∧ exec .channelUpdate s = .next t ∧
      (t.chan c).owner = .none ∧ (t.chan c).mode = .hold ∧ (t.chan c).setpoint = (s.chan c).setpoint ∧
      (t.chan c).velocity = 0 ∧ (t.chan c).target = none := by
  have hgoal : max (s.lo c) (min (s.hi c) (s.chan c).setpoint) = (s.chan c).setpoint := by omega
  have happ : approachedRecord c (s.cfg c) (s.lo c) (s.hi c) s.zoneMonitor.scale (s.chan c).setpoint (s.chan c) =
      { s.chan c with velocity := 0, target := some (s.chan c).setpoint } := by
    unfold approachedRecord
    simp only [hgoal, lt_irrefl, if_false, allowedDemand_zero]
    rw [steppedVelocity_zero (by simp [hv]), advancedRecord_zero hf]
  have hp : profiled s c = { flaggedRecord (s.lo c) (s.hi c) { s.chan c with
      velocity := 0, target := some (s.chan c).setpoint, fraction := 0, inPosition := true } with stopDecel := false } := by
    rw [profiled_position hd hm hx hlo hhi, happ, hgoal, arrivedRecord, if_pos ⟨by simp, by simp⟩, settle_eq,
      if_neg (by simp [flaggedRecord]), if_neg (by simp [flaggedRecord, ho])]
  have hidle : wheelsIdle (handOverAll s) c = true := (wheelsIdle_still h).2 fun i hc => by
    cases hx : (s.wheels.get i).idle with
    | none => rfl
    | some x => simp [idleAfter, hi i hc x hx]
  have hu : (updated s).chan c = { heldRecord (profiled s c) with owner := .none } := by
    have hv0 : (profiled s c).velocity = 0 := by rw [hp]; rfl
    rw [chan_updated, profiled_still h, idleReleased, if_pos ⟨(profiled_owner s c).trans ho, hv0, hidle⟩,
      releasedRecord_rest hv0]
  have hc : (channelUpdate s).chan c = _ := (chan_channelUpdate (.inl (by rw [hu]; rfl))).trans hu
  refine ⟨_, congrArg Host.Outcome.next (eventOf_of_happens s channelUpdate _ hr ?_), exec_channelUpdate hr, ?_⟩
  · rw [hc, ho]
    rfl
  · rw [hc, hp]
    exact ⟨rfl, rfl, rfl, rfl, rfl⟩

theorem channelUpdate_wheels (s : State) : (channelUpdate s).wheels = (handOverAll s).wheels := by
  have hb : (updated s).wheels = (handOverAll s).wheels :=
    ((sameBody_runProfiles _).trans ((sameBody_reachMoves _).trans (sameBody_releaseIdle _))).wheels
  rw [channelUpdate_eq, ← hb]
  rcases checkStandstill_cases (updated s) with he | ⟨-, -, he⟩
  · rw [he]
  · rw [he, (settled_eq_iff.1 (enterCrane_settled ..)).2.1]
    rfl

/-- R23: until its last wheel turns idle, and while it moves, a channel stays the wheel's. -/
theorem wheel_keeps (h : wheelsStill s) (ho : (s.chan c).owner = .wheel)
    (hk : (∃ i, ((channelUpdate s).wheels.get i).channel = some c ∧ ((channelUpdate s).wheels.get i).idle ≠ none) ∨
      ((channelUpdate s).chan c).velocity ≠ 0) :
    ((channelUpdate s).chan c).owner = .wheel ∧
      ((s.chan c).drive = .active → (s.chan c).mode = .position → ((channelUpdate s).chan c).mode = .position) := by
  have hcs : ∀ {P : Channel → Prop}, P ((updated s).chan c) →
      (∀ r, P r → P { r with stopDecel := false }) → P ((channelUpdate s).chan c) := fun hp hs => by
    rw [channelUpdate_eq, chan_checkStandstill]
    split
    · exact hs _ hp
    · exact hp
  have hn : ¬((profiled s c).owner = .wheel ∧ (profiled s c).velocity = 0 ∧ wheelsIdle (handOverAll s) c = true) := by
    rintro ⟨h1, h2, h3⟩
    rcases hk with ⟨i, hi1, hi2⟩ | hv
    · rw [channelUpdate_wheels] at hi1 hi2
      exact hi2 (wheelsIdle_iff.1 h3 i hi1)
    · refine hv (hcs (P := fun r => r.velocity = 0) ?_ fun _ hr => hr)
      rw [chan_updated, profiled_still h, idleReleased, if_pos ⟨h1, h2, h3⟩, releasedRecord_rest h2]
      rfl
  have hu : (updated s).chan c = profiled s c := by
    rw [chan_updated, profiled_still h, idleReleased, if_neg hn]
  refine ⟨hcs (P := fun r => r.owner = .wheel) (by rw [hu, profiled_owner, ho]) fun _ hr => hr, fun hd hm =>
    hcs (P := fun r => r.mode = .position) ?_ fun _ hr => hr⟩
  rw [hu]
  exact ((profile_owner ..).2.2 hd (by simp [ho])).trans hm

/-- Settles O33: how channels come to rest. -/
theorem channelsComeToRest : Obligations.ChannelsComeToRest := by
  refine ⟨fun s c x hr h hd hm ho _ hx hlo hhi hin hst => arrival_update hr h hd hm ho hx hlo hhi hin hst,
    fun s c hr h ho => rest_update hr h ho, fun s c hr h hd hf hlo hhi => ⟨deceleration_update hr h hd hf hlo hhi,
      idle_update hr h hd hf hlo hhi⟩, fun s hr h => ⟨_, exec_channelUpdate hr, fun i => ?_, fun c ho hk =>
      wheel_keeps h ho hk⟩⟩
  rw [channelUpdate_wheels, handOverAll_still h]
  simp only [PerFour.get_ofFn]

end Rest

/-! ## Standstill (R98) -/

section Standstill

variable {s : State} {c : Chan}

/-- R98: a channel that is at rest, or within one step of it, is at rest after the profile. -/
theorem profiled_rests (ho : (s.chan c).owner = .none) (hd : (s.chan c).drive = .active)
    (hm : (s.chan c).mode = .hold ∧ (s.chan c).velocity = 0 ∨ (s.chan c).mode = .velocity ∧ (s.chan c).demand = some 0 ∧
      (s.chan c).velocity.natAbs ≤ velocityStepOf (s.cfg c) (s.chan c)) :
    (profiled s c).velocity = 0 ∧ (profiled s c).owner = .none := by
  refine ⟨?_, (profiled_owner s c).trans ho⟩
  rcases hm with ⟨hm, hv⟩ | ⟨hm, hx, hv⟩
  · unfold profiled
    rw [profile_hold _ _ hd hm]
    exact hv
  · rw [profiled_decelerated hd ho hm hx hv]
    rfl

/-- Settles O34: the update that finds arm and head at rest. -/
theorem standstillHaltsTheCrane : Obligations.StandstillHaltsTheCrane := by
  intro s hr h hs hall
  have hrest : ∀ c, isLens c = false → ((updated s).chan c).velocity = 0 ∧ ((updated s).chan c).owner = .none := by
    intro c hc
    obtain ⟨ho, hd, hm⟩ := hall c hc
    rw [updated_still h (by simp [ho])]
    exact profiled_rests ho hd hm
  have hstill : bodyStill (updated s) = true := by
    rw [bodyStill, List.all_eq_true]
    intro c _
    cases hc : isLens c with
    | true => rfl
    | false => simp [(hrest c hc).1]
  have hb := updated_body s
  have hcond : (updated s).crane.state = .stopping ∧ bodyStill (updated s) = true := ⟨by rw [updated_crane, hs], hstill⟩
  set w := mapChannels { updated s with stops := { (updated s).stops with deadlineTimer := none } }
    fun _ r => { r with stopDecel := false } with hw
  have ht : channelUpdate s = enterCrane .halted .none w := by
    rw [channelUpdate_eq, checkStandstill, if_pos hcond]
  have hwc : w.crane.state ≠ .ready := by rw [hw, mapChannels_crane]; simp [updated_crane, hs]
  have hst : (channelUpdate s).crane.state = .halted := by rw [ht, enterCrane_state]
  have hch : ∀ c, (channelUpdate s).chan c = { (updated s).chan c with stopDecel := false } := fun c => by
    rw [ht, chan_enterCrane, hw, chan_mapChannels]
    rfl
  refine ⟨_, congrArg Host.Outcome.next (eventOf_of_happens s channelUpdate _ hr (by rw [hst, hs]; rfl)),
    exec_channelUpdate hr, hst, ?_, fun c => by rw [hch], fun c hc => by rw [hch]; exact hrest c hc, ?_, ?_⟩
  · rw [ht, enterCrane_stops]
    rfl
  · rw [ht, enterCrane_stops, hw, ← hb.stops]
    rfl
  · rw [ht, enterCrane_notices]
    show (⟨some ⟨.halted, (updated s).stops.first, .none⟩, (updated s).notices.state.detail.isSome⟩ :
      NoticeSource StateDetail) = _
    rw [hb.stops, (sameWatch_updated s).state]

end Standstill

/-! ## Outside the limits (R6, R9) -/

section Outside

variable {s : State} {c : Chan} {lo hi : Int} {r : Channel}

theorem beyond_inside {x : Int} (h1 : lo ≤ x) (h2 : x ≤ hi) : beyond lo hi x = 0 := by
  unfold beyond
  omega

theorem beyond_nonneg (lo hi x : Int) : 0 ≤ beyond lo hi x := le_max_right _ _

/-- R6, R9: an advance takes no step further outside. -/
theorem heldBackRecord_beyond (h : lo ≤ hi) (hf : r.fraction < 1000) (v : Int) :
    beyond lo hi (heldBackRecord lo hi v r).setpoint ≤ beyond lo hi r.setpoint := by
  have hn := beyond_nonneg lo hi r.setpoint
  unfold heldBackRecord
  dsimp only
  have hv : (Int.ofNat r.fraction) = (r.fraction : Int) := rfl
  rw [hv]
  split
  · exact le_rfl
  · split
    · rw [beyond_inside h le_rfl]
      exact hn
    · split
      · rw [beyond_inside le_rfl h]
        exact hn
      · dsimp only
        unfold beyond
        omega

theorem onLimit_eq (lo hi x : Int) : onLimit lo hi x = standsOn lo hi x := by
  simp only [onLimit, standsOn, Bool.decide_or]

/-- R8, R9: a value taken in PATH mode, in the words of the claims. -/
theorem takePath_eq (h : lo ≤ hi) (w : Int) : takePath lo hi w r = pathRecord lo hi w r := by
  have hb : inhibited r (max lo (min hi w) - r.setpoint) = true ↔ (r.setpoint < max lo (min hi w) ∧ r.inhibitPlus = true) ∨
      (max lo (min hi w) < r.setpoint ∧ r.inhibitMinus = true) := by
    rw [inhibited_iff, sub_pos, sub_neg]
  unfold takePath
  dsimp only
  rw [furtherOutside_clampInt h, Bool.or_false, clampInt_eq h]
  unfold pathRecord
  dsimp only
  simp only [← hb, outsideOf_eq, onLimit_eq]
  split
  · simp
  · rfl

theorem pathRecord_beyond (h : lo ≤ hi) {w : Int} : beyond lo hi (pathRecord lo hi w r).setpoint ≤ beyond lo hi r.setpoint := by
  unfold pathRecord
  dsimp only
  split
  · exact le_rfl
  · rw [beyond_inside (le_max_left _ _) (max_le h (min_le_left _ _))]
    exact beyond_nonneg _ _ _

theorem profile_beyond (h : lo ≤ hi) (hf : r.fraction < 1000) (g : ChannelConfig) (scale : Nat) (path : Option Int) :
    beyond lo hi (profile c g lo hi scale path r).setpoint ≤ beyond lo hi r.setpoint := by
  have hset : ∀ q : Channel, (settle q).setpoint = q.setpoint := fun q => by
    rw [settle_eq]
    split
    · rfl
    · split <;> rfl
  by_cases hd : r.drive = .active
  · cases hm : r.mode with
    | hold => rw [profile_hold _ _ hd hm]; exact le_rfl
    | velocity =>
      rw [profile_velocity_getD _ _ hd hm, hset]
      exact heldBackRecord_beyond h hf _
    | position =>
      rw [profile_position_getD _ _ hd hm rfl, hset]
      show beyond lo hi (arrivedRecord _ _ _).setpoint ≤ _
      unfold arrivedRecord
      split
      · rw [clampInt_eq h, beyond_inside (le_max_left _ _) (max_le h (min_le_left _ _))]
        exact beyond_nonneg _ _ _
      · exact heldBackRecord_beyond h hf _
    | path =>
      unfold profile
      rw [if_neg (by simp [hd]), hm]
      cases path with
      | none => exact le_rfl
      | some w =>
        dsimp only
        rw [takePath_eq h]
        exact pathRecord_beyond h
  · have hx : (restChannel lo hi r).setpoint = r.setpoint := by
      unfold restChannel
      dsimp only
      split <;> rfl
    rw [profile_resting _ _ hd, hx]

/-- R22: a hand-over moves no setpoint. -/
theorem handOver_spot (i : Fin 4) (s : State) : ((handOver i s).chan c).setpoint = (s.chan c).setpoint ∧
    ((handOver i s).chan c).fraction = (s.chan c).fraction := by
  rcases chan_handOver s i c with h | ⟨-, -, h⟩
  · rw [h]
    exact ⟨rfl, rfl⟩
  · rw [h]
    exact ⟨rfl, rfl⟩

theorem handOver_limits (i : Fin 4) (s : State) : (handOver i s).limits = s.limits := by
  unfold handOver
  dsimp only
  split
  · rfl
  · split
    · rfl
    · split
      · rfl
      · exact limits_grant ..

theorem handOverAll_keeps (s : State) (c : Chan) : ((handOverAll s).chan c).setpoint = (s.chan c).setpoint ∧
    ((handOverAll s).chan c).fraction = (s.chan c).fraction ∧ (handOverAll s).limits = s.limits := by
  refine ⟨?_, ?_, ?_⟩
  · exact (handOver_spot 3 _).1.trans ((handOver_spot 2 _).1.trans ((handOver_spot 1 _).1.trans (handOver_spot 0 s).1))
  · exact (handOver_spot 3 _).2.trans ((handOver_spot 2 _).2.trans ((handOver_spot 1 _).2.trans (handOver_spot 0 s).2))
  · exact (handOver_limits 3 _).trans ((handOver_limits 2 _).trans ((handOver_limits 1 _).trans (handOver_limits 0 s)))

theorem reachMoves_lens (s : State) : (reachMoves s).lens = s.lens := by
  refine foldl_keeps (P := fun t => t.lens = s.lens) allChans rfl fun u hu c _ => ?_
  split
  · exact (reachMove_lens u c).trans hu
  · exact hu

/-- R1: an update keeps the limits in force. -/
theorem channelUpdate_limits (s : State) (c : Chan) : (channelUpdate s).limits c = s.limits c := by
  have h1 : (updated s).limits = (handOverAll s).limits :=
    limits_eq_of ((sameBody_reachMoves _).config.trans rfl) (by rw [show (updated s).lens = _ from reachMoves_lens _]; rfl)
      (by rw [show (updated s).lens = _ from reachMoves_lens _]; rfl)
  have h2 : (channelUpdate s).limits = (updated s).limits := by
    rw [channelUpdate_eq]
    rcases checkStandstill_cases (updated s) with he | ⟨-, -, he⟩
    · rw [he]
    · rw [he]
      exact limits_of_settled (enterCrane_settled ..) (by rw [enterCrane_lens]; rfl) (by rw [enterCrane_lens]; rfl)
  rw [h2, h1, (handOverAll_keeps s c).2.2]

theorem foldl_min_le (l : List MapPoint) (a : Nat) : l.foldl (fun a q => min a q.count) a ≤ a := by
  induction l generalizing a with
  | nil => exact le_rfl
  | cons q l ih => exact (ih _).trans (min_le_left _ _)

theorem le_foldl_max (l : List MapPoint) (a : Nat) : a ≤ l.foldl (fun a q => max a q.count) a := by
  induction l generalizing a with
  | nil => exact le_rfl
  | cons q l ih => exact (le_max_left _ _).trans (ih _)

theorem focusSpan_ordered (m : LensMap) : (focusSpan m).1 ≤ (focusSpan m).2 := by
  unfold focusSpan
  split
  · decide
  next p ps _ => exact Int.ofNat_le.2 ((foldl_min_le ps _).trans (le_foldl_max ps _))

/-- R1, R156: the limits in force are in order where those configured and those of every map are. -/
theorem LimitsOrdered.lo_le_hi (h : LimitsOrdered s) (c : Chan) : s.lo c ≤ s.hi c := by
  have hb : ∀ p, (s.selectedMap.bind fun m => mapLimits m c) = some p → p.1 ≤ p.2 := by
    intro p hp
    obtain ⟨m, hm, hp⟩ := Option.bind_eq_some_iff.1 hp
    obtain ⟨b, -, hb⟩ := Option.bind_eq_some_iff.1 hm
    unfold mapLimits at hp
    split at hp
    · cases hp
      exact focusSpan_ordered m
    · obtain ⟨q, hq, rfl⟩ := Option.map_eq_some_iff.1 hp
      exact Int.ofNat_le.2 (h.iris b m q hb hq)
    · obtain ⟨q, hq, rfl⟩ := Option.map_eq_some_iff.1 hp
      exact Int.ofNat_le.2 (h.zoom b m q hb hq)
    · cases hp
  unfold State.lo State.hi State.limits
  cases hl : s.selectedMap.bind fun m => mapLimits m c with
  | none => exact h.configured c
  | some p => exact hb p hl

/-- R6, R9: one channel's part of an update. -/
theorem channelUpdate_beyond (ho : LimitsOrdered s) (hs : RemaindersSmall s) (c : Chan) :
    beyond (s.lo c) (s.hi c) ((channelUpdate s).chan c).setpoint ≤ beyond (s.lo c) (s.hi c) (s.chan c).setpoint := by
  obtain ⟨h1, h2, h3⟩ := handOverAll_keeps s c
  have hx : ((channelUpdate s).chan c).setpoint = (profiled (handOverAll s) c).setpoint := by
    have hu : ((channelUpdate s).chan c).setpoint = ((updated s).chan c).setpoint := by
      rw [channelUpdate_eq, chan_checkStandstill]
      split <;> rfl
    rw [hu, chan_updated, idleReleased]
    split
    · unfold releasedRecord
      split <;> rfl
    · rfl
  have hp := profile_beyond (lo := s.lo c) (hi := s.hi c) (c := c) (r := (handOverAll s).chan c) (ho.lo_le_hi c)
    (by rw [h2]; exact hs.fraction c) ((handOverAll s).cfg c) (handOverAll s).zoneMonitor.scale
    ((handOverAll s).engine.path.get c)
  have hlo : (handOverAll s).lo c = s.lo c := congrArg (fun l => (l c).1) h3
  have hhi : (handOverAll s).hi c = s.hi c := congrArg (fun l => (l c).2) h3
  rw [hx, profiled, hlo, hhi, ← h1]
  exact hp

/-- Settles O35: no update moves a channel further outside, and the update of a channel that stands outside. -/
theorem noUpdateMovesFurtherOutside : Obligations.NoUpdateMovesFurtherOutside := by
  refine ⟨fun s t c ho hs ht => ?_, fun s c d hr h _ hd hm hx hw _ hs _ => ?_⟩
  · cases ht
    unfold whileRunning
    split
    · exact ⟨channelUpdate_limits s c, channelUpdate_beyond ho hs c⟩
    · exact ⟨rfl, le_rfl⟩
  · obtain ⟨t, ht, hc⟩ := velocityMode_update hr h hs hd hm hx hw
    rw [settle_eq, velocityDemand_eq] at hc
    exact ⟨t, ht, hc⟩

end Outside

end Sys2Proof.Machine

/-! Wheels that turn (R16 to R18, R21, R22, R151): O36. -/

namespace Sys2Proof.Machine

section Wheels

variable {s : State} {c : Chan} {i : Fin 4}

/-! ## One hand-over (R22) -/

/-- R22: the wheel after a granted hand-over. -/
def turnedWheel (w : WheelInput) : WheelInput :=
  { w with counter := 0, idle := some 0, carry := ((w.counter * w.gain + Int.ofNat w.carry) % 256).toNat }

/-- R22: the wheel after a claim that is not granted. -/
def discardedWheel (w : WheelInput) : WheelInput := { w with counter := 0, idle := some 0 }

/-- R22: where a wheel's contribution is added. -/
def wheelStart (r : Channel) : Int := if r.owner = .wheel then r.target.getD r.setpoint else r.setpoint

/-- R22: a wheel's whole counts. -/
def wholeCounts (w : WheelInput) : Int := (w.counter * w.gain + Int.ofNat w.carry) / 256

theorem wheelTarget_eq (r : Channel) (w : WheelInput) : wheelTarget r w = wheelStart r + wholeCounts w := rfl

theorem turnedWheel_eq (w : WheelInput) : { w with counter := 0, idle := some 0, carry := wheelCarry w } = turnedWheel w := by
  have h : wheelSum w - 256 * wheelWhole w = (w.counter * w.gain + Int.ofNat w.carry) % 256 := (Int.emod_def _ _).symm
  rw [turnedWheel, wheelCarry, h]

theorem wheelClaim_iff : claimCode .wheel false s c = none ↔
    claimAllowed s c = true ∧ ownerTest .wheel c (s.chan c) = none := by
  rw [claimCode_eq]
  cases claimAllowed s c <;> simp

theorem handOver_granted (hc : (s.wheels.get i).channel = some c) (hn : (s.wheels.get i).counter ≠ 0)
    (hg : (s.wheels.get i).gain ≠ 0) (hcl : claimCode .wheel false s c = none) : handOver i s =
      grant .wheel .position none (some (wheelStart (s.chan c) + wholeCounts (s.wheels.get i))) c
        { s with wheels := s.wheels.set i (turnedWheel (s.wheels.get i)) } := by
  unfold handOver
  dsimp only
  split
  next h => rw [hc] at h; cases h
  next d h =>
    rw [hc] at h
    cases h
    rw [if_neg (by simp [hn, hg]), hcl]
    dsimp only
    rw [turnedWheel_eq, wheelTarget_eq]

theorem handOver_refused (hc : (s.wheels.get i).channel = some c) (hn : (s.wheels.get i).counter ≠ 0)
    (hg : (s.wheels.get i).gain ≠ 0) (hcl : claimCode .wheel false s c ≠ none) : handOver i s =
      { s with wheels := s.wheels.set i (discardedWheel (s.wheels.get i)) } := by
  obtain ⟨code, hcode⟩ := Option.ne_none_iff_exists'.1 hcl
  unfold handOver
  dsimp only
  split
  next h => rw [hc] at h; cases h
  next d h =>
    rw [hc] at h
    cases h
    rw [if_neg (by simp [hn, hg]), hcode]
    rfl

/-! ## The update after the hand-overs -/

theorem channelUpdate_play (s : State) : (channelUpdate s).engine = { (handOverAll s).engine with untaken := noChannels } ∧
    (channelUpdate s).takes = (handOverAll s).takes ∧ (channelUpdate s).marks = (handOverAll s).marks ∧
    (channelUpdate s).notices.take = (handOverAll s).notices.take := by
  have h1 : ∀ v : State, (reachMoves v).engine = v.engine ∧ (reachMoves v).takes = v.takes ∧ (reachMoves v).marks = v.marks ∧
      (reachMoves v).notices.take = v.notices.take := by
    intro v
    refine foldl_keeps (P := fun t => t.engine = v.engine ∧ t.takes = v.takes ∧ t.marks = v.marks ∧
      t.notices.take = v.notices.take) allChans ⟨rfl, rfl, rfl, rfl⟩ fun u hu d _ => ?_
    split
    · obtain ⟨h1, h2, h3, h4⟩ := hu
      refine ⟨(reachMove_engine u d).trans h1, (reachMove_takes u d).trans h2, (reachMove_marks u d).trans h3, ?_⟩
      refine Eq.trans ?_ h4
      exact foldl_keeps (P := fun t => t.notices.take = u.notices.take) _ rfl fun _ h _ _ => h
    · exact hu
  obtain ⟨g1, g2, g3, g4⟩ := h1 (runProfiles (handOverAll s))
  rw [channelUpdate_eq]
  rcases checkStandstill_cases (updated s) with he | ⟨-, -, he⟩
  · rw [he]
    exact ⟨g1, g2, g3, g4⟩
  · rw [he, enterCrane_engine, enterCrane_takes, enterCrane_marks, enterCrane_notices]
    exact ⟨g1, g2, g3, g4⟩

/-- R5 to R7, R22: the update of a channel that the wheels have been granted, with target x. -/
theorem granted_update {x : Int} {k : Fin 4} (hd : (s.chan c).drive = .active)
    (hch : (handOverAll s).chan c = grantRecord .wheel .position none (some x) (s.chan c))
    (hk : ((handOverAll s).wheels.get k).channel = some c) (hi : ((handOverAll s).wheels.get k).idle = some 0)
    (hl : s.lo c ≤ s.hi c) :
    (channelUpdate s).chan c = flaggedRecord (s.lo c) (s.hi c) (arrivedRecord (s.cfg c).accel
      (max (s.lo c) (min (s.hi c) x)) { heldBackRecord (s.lo c) (s.hi c)
        (steppedVelocity (s.cfg c).accel (s.chan c) (allowedDemand (s.lo c) (s.hi c) (s.cfg c).accel (s.chan c)
          (positionDemand c (s.cfg c) s.zoneMonitor.scale (max (s.lo c) (min (s.hi c) x)) (s.chan c).setpoint)))
        (grantRecord .wheel .position none (some x) (s.chan c)) with target := some (max (s.lo c) (min (s.hi c) x)) }) := by
  set q := flaggedRecord (s.lo c) (s.hi c) (arrivedRecord (s.cfg c).accel
      (max (s.lo c) (min (s.hi c) x)) { heldBackRecord (s.lo c) (s.hi c)
        (steppedVelocity (s.cfg c).accel (s.chan c) (allowedDemand (s.lo c) (s.hi c) (s.cfg c).accel (s.chan c)
          (positionDemand c (s.cfg c) s.zoneMonitor.scale (max (s.lo c) (min (s.hi c) x)) (s.chan c).setpoint)))
        (grantRecord .wheel .position none (some x) (s.chan c)) with target := some (max (s.lo c) (min (s.hi c) x)) }) with hq
  obtain ⟨-, -, h3⟩ := handOverAll_keeps s c
  have hlo : (handOverAll s).lo c = s.lo c := congrArg (fun l => (l c).1) h3
  have hhi : (handOverAll s).hi c = s.hi c := congrArg (fun l => (l c).2) h3
  have hb := handOverAll_body s
  have hqs : q.stopDecel = false := by rw [hq, arrivedRecord_frame, heldBackRecord_frame]; rfl
  have hqo : q.owner = .wheel := by rw [hq, arrivedRecord_frame, heldBackRecord_frame]; rfl
  have hp : profiled (handOverAll s) c = q := by
    unfold profiled
    rw [hlo, hhi, cfg_eq_of_config hb.config, hb.zoneMonitor, hch, 
      profile_position (r := grantRecord .wheel .position none (some x) (s.chan c)) (x := x) _ _ hd rfl rfl, clampInt_eq hl]
    exact settle_of_owned (r := q) hqs (by rw [hqo]; decide)
  have hu : (updated s).chan c = q := by
    rw [chan_updated, hp, idleReleased, if_neg]
    rintro ⟨-, -, hw⟩
    have := wheelsIdle_iff.1 hw k hk
    rw [hi] at this
    cases this
  exact (chan_channelUpdate (.inl (by rw [hu]; exact hqs))).trans hu

/-! ## One wheel -/

theorem filter_one (i : Fin 4) : ([0, 1, 2, 3] : List (Fin 4)).filter (fun k => decide (k = i)) = [i] := by
  revert i
  decide

/-- R22: the hand-overs of an update where one wheel turns. -/
theorem handOverAll_one (h : ∀ j, j ≠ i → (s.wheels.get j).counter = 0) :
    ∃ v, handOverAll s = { handOver i s with wheels := v } ∧ v.get i = (handOver i s).wheels.get i := by
  obtain ⟨v, hv, hget⟩ := handOverAll_turning (fun k => decide (k = i)) s
    fun k hk => .inr (.inr (h k (of_decide_eq_false hk)))
  rw [filter_one] at hv hget
  exact ⟨v, hv, by rw [hget, if_pos (by simp)]; rfl⟩

section One

variable (hc : (s.wheels.get i).channel = some c) (hn : (s.wheels.get i).counter ≠ 0) (hg : (s.wheels.get i).gain ≠ 0)
  (h : ∀ j, j ≠ i → (s.wheels.get j).counter = 0)

include hc hn hg h

theorem handOverAll_granted (hcl : claimCode .wheel false s c = none) : ∃ v, handOverAll s =
    { grant .wheel .position none (some (wheelStart (s.chan c) + wholeCounts (s.wheels.get i))) c s with wheels := v } ∧
      v.get i = turnedWheel (s.wheels.get i) := by
  obtain ⟨v, hv, hget⟩ := handOverAll_one h
  have hg' := handOver_granted hc hn hg hcl
  rw [grant_wheels_comm] at hg'
  rw [hg'] at hv hget
  exact ⟨v, hv, hget.trans (by simp)⟩

theorem one_granted (hcl : claimCode .wheel false s c = none) (hd : (s.chan c).drive = .active) (hl : s.lo c ≤ s.hi c) :
    let x := wheelStart (s.chan c) + wholeCounts (s.wheels.get i)
    (channelUpdate s).wheels.get i = turnedWheel (s.wheels.get i) ∧
    (channelUpdate s).chan c = flaggedRecord (s.lo c) (s.hi c) (arrivedRecord (s.cfg c).accel
      (max (s.lo c) (min (s.hi c) x)) { heldBackRecord (s.lo c) (s.hi c)
        (steppedVelocity (s.cfg c).accel (s.chan c) (allowedDemand (s.lo c) (s.hi c) (s.cfg c).accel (s.chan c)
          (positionDemand c (s.cfg c) s.zoneMonitor.scale (max (s.lo c) (min (s.hi c) x)) (s.chan c).setpoint)))
        (grantRecord .wheel .position none (some x) (s.chan c)) with target := some (max (s.lo c) (min (s.hi c) x)) }) := by
  obtain ⟨v, hv, hget⟩ := handOverAll_granted hc hn hg h hcl
  refine ⟨by rw [channelUpdate_wheels, hv]; exact hget, granted_update (k := i) hd ?_ ?_ ?_ hl⟩
  · rw [hv]
    exact (chan_grant ..).trans (if_pos rfl)
  · rw [hv]
    show (v.get i).channel = _
    rw [hget]
    exact hc
  · rw [hv]
    show (v.get i).idle = _
    rw [hget]
    rfl

theorem one_refused (hcl : claimCode .wheel false s c ≠ none) :
    (channelUpdate s).wheels.get i = discardedWheel (s.wheels.get i) := by
  obtain ⟨v, hv, hget⟩ := handOverAll_one h
  rw [channelUpdate_wheels, hv]
  refine hget.trans ?_
  rw [handOver_refused hc hn hg hcl]
  simp

end One

/-- The fields of a granted channel's record after its update. -/
theorem granted_fields {lo hi v x goal : Int} {accel : Nat} {r : Channel} :
    let q := flaggedRecord lo hi (arrivedRecord accel goal { heldBackRecord lo hi v
      (grantRecord .wheel .position none (some x) r) with target := some goal })
    q.owner = .wheel ∧ q.mode = .position ∧ q.target = some goal := by
  intro q
  show (arrivedRecord _ _ _).owner = _ ∧ (arrivedRecord _ _ _).mode = _ ∧ (arrivedRecord _ _ _).target = _
  rw [arrivedRecord_frame, heldBackRecord_frame]
  exact ⟨rfl, rfl, rfl⟩

/-- R7: target and arrival flag are written by the update, whatever they were. -/
theorem approached_of_granted {lo hi x : Int} {g : ChannelConfig} {scale accel : Nat} {r : Channel} (h1 : lo ≤ r.setpoint)
    (h2 : r.setpoint ≤ hi) (goal : Int) (hgoal : goal = max lo (min hi x)) :
    arrivedRecord accel goal { heldBackRecord lo hi (steppedVelocity g.accel r (allowedDemand lo hi g.accel r
      (positionDemand c g scale goal r.setpoint))) (grantRecord .wheel .position none (some x) r) with target := some goal } =
    arrivedRecord accel goal (approachedRecord c g lo hi scale x
      { r with owner := .wheel, mode := .position, demand := none, stopDecel := false }) := by
  have hadv : ∀ v, heldBackRecord lo hi v (grantRecord .wheel .position none (some x) r) =
      { advancedRecord lo hi v { r with owner := .wheel, mode := .position, demand := none, stopDecel := false } with
        target := some x, inPosition := false } := fun v => by
    refine (heldBackRecord_inside (r := grantRecord .wheel .position none (some x) r) v h1 h2).trans ?_
    unfold advancedRecord
    dsimp only [grantRecord]
    split
    · rfl
    · split <;> rfl
  rw [hadv, positionDemand_eq, hgoal]
  unfold arrivedRecord approachedRecord
  dsimp only
  split
  · rfl
  · rfl

/-- Settles the last clause of O36: one wheel's counts on a channel. -/
theorem wheel_handsOver (hr : s.running = true) (hc : (s.wheels.get i).channel = some c)
    (hn : (s.wheels.get i).counter ≠ 0) (hg : (s.wheels.get i).gain ≠ 0)
    (h : ∀ j, j ≠ i → (s.wheels.get j).counter = 0) (hl : s.lo c ≤ s.hi c) :
    let w := s.wheels.get i
    let sum := w.counter * w.gain + Int.ofNat w.carry
    let start := if (s.chan c).owner = .wheel then (s.chan c).target.getD (s.chan c).setpoint else (s.chan c).setpoint
    ∃ t, exec .channelUpdate s = .next t ∧
      (claimAllowed s c = true → ownerTest .wheel c (s.chan c) = none → (s.chan c).drive = .active →
        (t.chan c).owner = .wheel ∧ (t.chan c).mode = .position ∧
        (t.chan c).target = some (max (s.lo c) (min (s.hi c) (start + sum / 256))) ∧
        (s.lo c ≤ (s.chan c).setpoint → (s.chan c).setpoint ≤ s.hi c → (s.chan c).fraction < 1000 →
          t.chan c = flaggedRecord (s.lo c) (s.hi c) (arrivedRecord (s.cfg c).accel
            (max (s.lo c) (min (s.hi c) (start + sum / 256)))
            (approachedRecord c (s.cfg c) (s.lo c) (s.hi c) s.zoneMonitor.scale (start + sum / 256)
              { s.chan c with owner := .wheel, mode := .position, demand := none, stopDecel := false }))) ∧
        t.wheels.get i = { w with counter := 0, idle := some 0, carry := (sum % 256).toNat }) ∧
      (claimAllowed s c = false ∨ ownerTest .wheel c (s.chan c) ≠ none →
        t.wheels.get i = { w with counter := 0, idle := some 0 }) := by
  intro w sum start
  refine ⟨_, exec_channelUpdate hr, fun ha ho hd => ?_, fun hno => one_refused hc hn hg h fun hcl => ?_⟩
  · obtain ⟨hw, hch⟩ := one_granted hc hn hg h (wheelClaim_iff.2 ⟨ha, ho⟩) hd hl
    refine ⟨?_, ?_, ?_, fun h1 h2 _ => ?_, hw⟩
    · rw [hch]; exact granted_fields.1
    · rw [hch]; exact granted_fields.2.1
    · rw [hch]; exact granted_fields.2.2
    · rw [hch, approached_of_granted h1 h2 _ rfl]
      rfl
  · obtain ⟨ha, ho⟩ := wheelClaim_iff.1 hcl
    rcases hno with hno | hno
    · rw [ha] at hno; cases hno
    · exact hno ho

/-! ## A wheel without channel or gain (R22) -/

theorem wheel_discarded (hr : s.running = true) (h : (s.wheels.get i).channel = none ∨ (s.wheels.get i).gain = 0) :
    exec .channelUpdate s =
        exec .channelUpdate { s with wheels := s.wheels.set i { s.wheels.get i with counter := 0 } } ∧
      ∃ t, exec .channelUpdate s = .next t ∧ t.wheels.get i =
        { s.wheels.get i with counter := 0, idle := idleAfter s.config.wheelIdle (s.wheels.get i).idle } := by
  have hne : ∀ k : Fin 4, decide (k ≠ i) = true → k ≠ i := fun k hk => of_decide_eq_true hk
  have hi : ∀ k : Fin 4, decide (k ≠ i) = false → k = i := fun k hk => by simpa using hk
  obtain ⟨v, hv, hget⟩ := handOverAll_turning (fun k => decide (k ≠ i)) s fun k hk => by
    rw [hi k hk, ← or_assoc]
    exact .inl h
  obtain ⟨v', hv', hget'⟩ := handOvers_turning (fun k => decide (k ≠ i)) [0, 1, 2, 3] (by decide) s
    (s.wheels.set i { s.wheels.get i with counter := 0 })
    (fun k _ hk => by rw [PerFour.get_set, if_neg (hne k hk)])
    fun k _ hk => by rw [hi k hk, PerFour.get_set, if_pos rfl]; exact .inr (.inr rfl)
  have hvv : v' = v := PerFour.ext_get fun k => by
    rw [hget, hget', if_pos (mem_wheels k)]
    split
    · rfl
    next hk =>
      rw [hi k (eq_false_of_ne_true hk), PerFour.get_set, if_pos rfl]
      rfl
  have hall : handOverAll { s with wheels := s.wheels.set i { s.wheels.get i with counter := 0 } } = handOverAll s := by
    rw [hv, ← hvv]
    exact hv'
  constructor
  · refine (exec_channelUpdate hr).trans (Eq.trans ?_ (exec_channelUpdate
      (s := { s with wheels := s.wheels.set i { s.wheels.get i with counter := 0 } }) hr).symm)
    unfold channelUpdate
    rw [hall]
  · refine ⟨_, exec_channelUpdate hr, ?_⟩
    rw [channelUpdate_wheels, hv]
    show v.get i = _
    rw [hget, if_neg (by simp)]
    rfl

/-! ## Two wheels on one channel (R22) -/

theorem filter_two : ∀ i j : Fin 4, i ≠ j →
    ([0, 1, 2, 3] : List (Fin 4)).filter (fun k => decide (k = i ∨ k = j)) = [i, j] ∨
      ([0, 1, 2, 3] : List (Fin 4)).filter (fun k => decide (k = i ∨ k = j)) = [j, i] := by decide

section Two

variable {a b : Fin 4} (hab : a ≠ b) (ha : (s.wheels.get a).channel = some c ∧ (s.wheels.get a).counter ≠ 0 ∧
    (s.wheels.get a).gain ≠ 0)
  (hb : (s.wheels.get b).channel = some c ∧ (s.wheels.get b).counter ≠ 0 ∧ (s.wheels.get b).gain ≠ 0)

include hab ha hb

/-- R22: two granted hand-overs, one after the other. -/
theorem two_granted (hcl : claimCode .wheel false s c = none) :
    (handOvers [a, b] s).chan c = grantRecord .wheel .position none
        (some (wheelStart (s.chan c) + wholeCounts (s.wheels.get a) + wholeCounts (s.wheels.get b))) (s.chan c) ∧
      (handOvers [a, b] s).wheels.get a = turnedWheel (s.wheels.get a) ∧
      (handOvers [a, b] s).wheels.get b = turnedWheel (s.wheels.get b) := by
  obtain ⟨ha1, ha2, ha3⟩ := ha
  have hbo : (handOver a s).wheels.get b = s.wheels.get b := handOver_other s a b hab.symm
  obtain ⟨hb1, hb2, hb3⟩ := hb
  have h1 := handOver_granted ha1 ha2 ha3 hcl
  set x := wheelStart (s.chan c) + wholeCounts (s.wheels.get a) with hx
  have hch : (handOver a s).chan c = grantRecord .wheel .position none (some x) (s.chan c) := by
    rw [h1]
    exact (chan_grant ..).trans (if_pos rfl)
  have hbody := handOver_body a s
  have hcl2 : claimCode .wheel false (handOver a s) c = none := by
    refine wheelClaim_iff.2 ⟨?_, by rw [hch]; rfl⟩
    have := (wheelClaim_iff.1 hcl).1
    rw [claimAllowed_iff] at this ⊢
    rw [hch, hbody.crane, cfg_eq_of_config hbody.config]
    exact this
  have h2 := handOver_granted (by rw [hbo]; exact hb1) (by rw [hbo]; exact hb2) (by rw [hbo]; exact hb3) hcl2
  have hw2 := handOver_other (handOver a s) b a hab
  refine ⟨?_, ?_, ?_⟩
  · show (handOver b (handOver a s)).chan c = _
    rw [h2]
    refine (chan_grant ..).trans ((if_pos rfl).trans ?_)
    show grantRecord _ _ _ _ ((handOver a s).chan c) = _
    rw [hbo, hch]
    rfl
  · refine hw2.trans ?_
    rw [h1, (settled_eq_iff.1 (grant_settled ..)).2.1]
    simp
  · show (handOver b (handOver a s)).wheels.get b = _
    rw [h2, (settled_eq_iff.1 (grant_settled ..)).2.1, hbo]
    simp

theorem two_refused (hcl : claimCode .wheel false s c ≠ none) :
    (handOvers [a, b] s).wheels.get a = discardedWheel (s.wheels.get a) ∧
      (handOvers [a, b] s).wheels.get b = discardedWheel (s.wheels.get b) := by
  obtain ⟨ha1, ha2, ha3⟩ := ha
  obtain ⟨hb1, hb2, hb3⟩ := hb
  have hbo : (handOver a s).wheels.get b = s.wheels.get b := handOver_other s a b hab.symm
  have h1 := handOver_refused ha1 ha2 ha3 hcl
  have hcl2 : claimCode .wheel false (handOver a s) c ≠ none := by rw [h1]; exact hcl
  have h2 := handOver_refused (by rw [hbo]; exact hb1) (by rw [hbo]; exact hb2) (by rw [hbo]; exact hb3) hcl2
  refine ⟨(handOver_other (handOver a s) b a hab).trans (by rw [h1]; simp), ?_⟩
  show (handOver b (handOver a s)).wheels.get b = _
  rw [h2, hbo]
  simp

/-- R22: an update where these two wheels turn, in this order. -/
theorem two_update (hf : ([0, 1, 2, 3] : List (Fin 4)).filter (fun k => decide (k = a ∨ k = b)) = [a, b])
    (h : ∀ k, k ≠ a → k ≠ b → (s.wheels.get k).counter = 0) (hl : s.lo c ≤ s.hi c) :
    (claimAllowed s c = true → ownerTest .wheel c (s.chan c) = none → (s.chan c).drive = .active →
      ((channelUpdate s).chan c).owner = .wheel ∧ ((channelUpdate s).chan c).mode = .position ∧
      ((channelUpdate s).chan c).target = some (max (s.lo c) (min (s.hi c)
        (wheelStart (s.chan c) + wholeCounts (s.wheels.get a) + wholeCounts (s.wheels.get b)))) ∧
      ∀ k, k = a ∨ k = b → (channelUpdate s).wheels.get k = turnedWheel (s.wheels.get k)) ∧
    (claimAllowed s c = false ∨ ownerTest .wheel c (s.chan c) ≠ none →
      ∀ k, k = a ∨ k = b → (channelUpdate s).wheels.get k = discardedWheel (s.wheels.get k)) := by
  obtain ⟨v, hv, hget⟩ := handOverAll_turning (fun k => decide (k = a ∨ k = b)) s fun k hk => by
    have := of_decide_eq_false hk
    exact .inr (.inr (h k (fun e => this (.inl e)) fun e => this (.inr e)))
  rw [hf] at hv hget
  have hw : ∀ k, k = a ∨ k = b → (channelUpdate s).wheels.get k = (handOvers [a, b] s).wheels.get k := fun k hk => by
    rw [channelUpdate_wheels, hv]
    exact (hget k).trans (if_pos (decide_eq_true hk))
  refine ⟨fun hal how hd => ?_, fun hno k hk => ?_⟩
  · obtain ⟨h1, h2, h3⟩ := two_granted hab ha hb (wheelClaim_iff.2 ⟨hal, how⟩)
    have hwa := (hw a (.inl rfl)).trans h2
    rw [channelUpdate_wheels] at hwa
    have hch := granted_update (k := a) hd (by rw [hv]; exact h1) (by rw [hwa]; exact ha.1) (by rw [hwa]; rfl) hl
    rw [hch]
    obtain ⟨q1, q2, q3⟩ := granted_fields (lo := s.lo c) (hi := s.hi c)
      (v := steppedVelocity (s.cfg c).accel (s.chan c) (allowedDemand (s.lo c) (s.hi c) (s.cfg c).accel (s.chan c)
        (positionDemand c (s.cfg c) s.zoneMonitor.scale (max (s.lo c) (min (s.hi c)
          (wheelStart (s.chan c) + wholeCounts (s.wheels.get a) + wholeCounts (s.wheels.get b)))) (s.chan c).setpoint)))
      (x := wheelStart (s.chan c) + wholeCounts (s.wheels.get a) + wholeCounts (s.wheels.get b))
      (goal := max (s.lo c) (min (s.hi c)
        (wheelStart (s.chan c) + wholeCounts (s.wheels.get a) + wholeCounts (s.wheels.get b))))
      (accel := (s.cfg c).accel) (r := s.chan c)
    refine ⟨q1, q2, q3, fun k hk => (hw k hk).trans ?_⟩
    rcases hk with rfl | rfl
    · exact h2
    · exact h3
  · have hcl : claimCode .wheel false s c ≠ none := fun hcl => by
      obtain ⟨h1, h2⟩ := wheelClaim_iff.1 hcl
      rcases hno with hno | hno
      · rw [h1] at hno; cases hno
      · exact hno h2
    obtain ⟨h1, h2⟩ := two_refused hab ha hb hcl
    refine (hw k hk).trans ?_
    rcases hk with rfl | rfl
    · exact h1
    · exact h2

end Two

/-! ## The overtake of a take's channel (R151, R154) -/

/-- R123, R153: the record of a take after its play. -/
theorem findTake_played {n lag : Nat} {r : TakeResult} {k : Take} (hk : s.findTake n = some k) :
    (s.takes.map fun t => if t.number = n then storePlay r lag t else t).find? (fun t => t.number == n) =
      some (storePlay r lag k) := by
  have h := find_map_key (key := Take.number) (xs := s.takes)
    (f := fun t => if t.number = n then storePlay r lag t else t) (fun t => by split <;> rfl) n
  rw [h, show s.takes.find? (fun t => t.number == n) = some k from hk, Option.map_some, if_pos (findTake_some hk).2]

/-- R151: a wheel that takes a channel of a running take. -/
theorem overtaken_update {n : Nat} (hc : (s.wheels.get i).channel = some c) (hn : (s.wheels.get i).counter ≠ 0)
    (hg : (s.wheels.get i).gain ≠ 0) (h : ∀ j, j ≠ i → (s.wheels.get j).counter = 0) (ha : claimAllowed s c = true)
    (harm : isArm c = false) (ho : (s.chan c).owner = .take)
    (ht : s.engine.take = some n) :
    ((channelUpdate s).chan c).owner = .wheel ∧
      ((∃ d, d ≠ c ∧ s.engine.set.get d = true) →
        (channelUpdate s).engine = { s.engine with
          set := s.engine.set.set c false, path := s.engine.path.set c none, spans := s.engine.spans.set c none
          untaken := .ofFn fun _ => false, overtaken := true } ∧
        (channelUpdate s).takes = s.takes ∧ (channelUpdate s).marks = s.marks ∧
        (channelUpdate s).notices.take =
          ⟨some ⟨n, s.engine.state, .partial_, s.engine.cueIndex⟩, s.notices.take.detail.isSome⟩) ∧
      ((∀ d, d ≠ c → s.engine.set.get d = false) →
        (channelUpdate s).engine.state = .idle ∧ (channelUpdate s).engine.take = none ∧
        (∀ d, (channelUpdate s).engine.set.get d = false) ∧
        (∀ x, s.findTake n = some x → (channelUpdate s).findTake n = some { x with
          lastResult := .partial_, lastLag := min 65535 (s.engine.lag / 1024)
          passCount := min 65535 (x.passCount + 1), active := false }) ∧
        (channelUpdate s).notices.take =
          ⟨some ⟨n, .idle, .partial_, s.engine.cueIndex⟩, s.notices.take.detail.isSome⟩) := by
  have hcl : claimCode .wheel false s c = none := wheelClaim_iff.2 ⟨ha, (ownerTest_wheel c _).2 (.inr harm)⟩
  obtain ⟨v, hv, hget⟩ := handOverAll_granted hc hn hg h hcl
  obtain ⟨he, htk, hmk, hnt⟩ := channelUpdate_play s
  set x := wheelStart (s.chan c) + wholeCounts (s.wheels.get i) with hx
  set w := s.setChan c (grantRecord .wheel .position none (some x) (s.chan c)) with hw
  have hgr : grant .wheel .position none (some x) c s = overtake c w := by
    rw [grant, ho]
    rfl
  have hch : (handOverAll s).chan c = grantRecord .wheel .position none (some x) (s.chan c) := by
    rw [hv]
    exact (chan_grant ..).trans (if_pos rfl)
  have hwi : (handOverAll s).wheels.get i = turnedWheel (s.wheels.get i) := by rw [hv]; exact hget
  have howner : ((channelUpdate s).chan c).owner = .wheel := by
    have hp : (profiled (handOverAll s) c).owner = .wheel := by rw [profiled_owner, hch]; rfl
    have hu : (updated s).chan c = profiled (handOverAll s) c := by
      rw [chan_updated, idleReleased, if_neg]
      rintro ⟨-, -, hidle⟩
      have := wheelsIdle_iff.1 hidle i (by rw [hwi]; exact hc)
      rw [hwi] at this
      cases this
    rw [channelUpdate_eq, chan_checkStandstill]
    split
    · rw [hu]; exact hp
    · rw [hu]; exact hp
  have hall : handOverAll s = { overtake c w with wheels := v } := by rw [hv, hgr]
  rw [hall, overtake_eq] at he htk hmk hnt
  refine ⟨howner, fun hother => ?_, fun hlast => ?_⟩
  · have hsome : ¬setEmpty (overtakenEngine c w.engine).set = true := by
      obtain ⟨d, hd, hs⟩ := hother
      rw [Bool.not_eq_true, setEmpty_false_iff]
      exact ⟨d, by simp [overtakenEngine, hd, hw, hs]⟩
    rw [if_neg hsome] at he htk hmk hnt
    refine ⟨he, htk, hmk, hnt.trans ?_⟩
    show (⟨some ⟨s.engine.take.getD 0, _, _, _⟩, _⟩ : NoticeSource TakeDetail) = _
    rw [ht]
    rfl
  · have hnone : setEmpty (overtakenEngine c w.engine).set = true := setEmpty_iff.2 fun d => by
      rw [overtakenEngine, PerChannel.get_set]
      split
      · rfl
      next hd => exact hlast d hd
    rw [if_pos hnone, endTake_some .partial_ (s := { w with engine := overtakenEngine c w.engine }) (n := n) ht]
      at he htk hmk hnt
    refine ⟨by rw [he]; rfl, by rw [he]; rfl, fun d => by rw [he]; exact PerChannel.get_ofFn _ d, fun k hk => ?_, hnt⟩
    have hf := findTake_played (r := .partial_) (lag := s.engine.lag) hk
    show (channelUpdate s).takes.find? _ = _
    rw [htk]
    exact hf

/-- Settles O36: what the wheels hand over. -/
theorem wheelsHandOverTheirCounts : Obligations.WheelsHandOverTheirCounts := by
  refine ⟨fun s i c n hr hc hn hg h ha harm ho _ _ ht => ⟨_, exec_channelUpdate hr,
    overtaken_update hc hn hg h ha harm ho ht⟩, fun s i hr h => wheel_discarded hr h,
    fun s i j c hr hij hk h hl => ⟨_, exec_channelUpdate hr, ?_⟩,
    fun s i c hr hc hn hg h hl => wheel_handsOver hr hc hn hg h (hl.lo_le_hi c)⟩
  have hi := hk i (.inl rfl)
  have hj := hk j (.inr rfl)
  rcases filter_two i j hij with hf | hf
  · exact two_update hij hi hj hf h (hl.lo_le_hi c)
  · have hf' : ([0, 1, 2, 3] : List (Fin 4)).filter (fun k => decide (k = j ∨ k = i)) = [j, i] := by
      rw [← hf]
      simp only [or_comm]
    obtain ⟨h1, h2⟩ := two_update hij.symm hj hi hf' (fun k h1 h2 => h k h2 h1) (hl.lo_le_hi c)
    refine ⟨fun ha ho hd => ?_, fun hno k hk => h2 hno k hk.symm⟩
    obtain ⟨g1, g2, g3, g4⟩ := h1 ha ho hd
    refine ⟨g1, g2, g3.trans ?_, fun k hk => g4 k hk.symm⟩
    rw [add_right_comm]
    rfl

end Wheels

end Sys2Proof.Machine

/-! The drive exchange (R12 to R15, R35, R87, R196): O37. -/

namespace Sys2Proof.Machine

/-! ## Drive records (R196) -/

section DriveRecords

theorem driveCommand_layout (c : Chan) {r : Channel} (h : fits32 r.setpoint) : ∃ check, sumsToZero (driveCommand c r) ∧
    driveCommand c r = recordOf [(1, chanIndex c), (1, r.commanded.toNat), (4, r.setpoint)] ++ [check] := by
  have hl : chanByte c :: (if r.commanded then 1#8 else 0#8) :: s32 r.setpoint =
      recordOf [(1, (chanIndex c : Int)), (1, (r.commanded.toNat : Int)), (4, r.setpoint)] := by
    rw [recordOf_cons, recordOf_cons, recordOf_cons, recordOf_nil, field_u8, field_u8, field_s32 h, u8_flag, u8_chan,
      List.append_nil]
    cases r.commanded <;> rfl
  have hd : driveCommand c r = recordOf [(1, (chanIndex c : Int)), (1, (r.commanded.toNat : Int)), (4, r.setpoint)] ++
      [checkByte (recordOf [(1, (chanIndex c : Int)), (1, (r.commanded.toNat : Int)), (4, r.setpoint)])] := by
    rw [← hl]
    rfl
  refine ⟨_, (byteSum_eq_zero_iff _).1 ?_, hd⟩
  rw [hd, byteSum_append, checkByte]
  exact BitVec.add_right_neg _

theorem readWord_four (b3 b2 b1 b0 : Byte) : BitVec.ofNat 32 (readWord [b3, b2, b1, b0]) = word32 b3 b2 b1 b0 := by
  simp [readWord, word32]

/-- R194: four bytes and the word that they spell. -/
theorem u32_word32 (b3 b2 b1 b0 : Byte) : u32 (word32 b3 b2 b1 b0).toNat = [b3, b2, b1, b0] := by
  have h3 := b3.isLt
  have h2 := b2.isLt
  have h1 := b1.isLt
  have h0 := b0.isLt
  have hw : (word32 b3 b2 b1 b0).toNat = ((b3.toNat * 256 + b2.toNat) * 256 + b1.toNat) * 256 + b0.toNat := by
    rw [word32, BitVec.toNat_ofNat]
    omega
  simp only [u32, hw, List.cons.injEq, and_true]
  refine ⟨?_, ?_, ?_, ?_⟩
  all_goals
    refine BitVec.eq_of_toNat_eq ?_
    rw [BitVec.toNat_ofNat]
    omega

theorem fits32_toInt (w : BitVec 32) : fits32 w.toInt := by
  have h := BitVec.toInt_lt (x := w)
  have k := BitVec.le_toInt (x := w)
  constructor <;> omega

theorem field_word32 (b3 b2 b1 b0 : Byte) : fieldBytes 4 (word32 b3 b2 b1 b0).toInt = [b3, b2, b1, b0] := by
  have hf := fits32_toInt (word32 b3 b2 b1 b0)
  rw [field_s32 hf, s32, if_pos (c := int32Min ≤ _ ∧ _ ≤ int32Max) hf, BitVec.ofInt_toInt, u32_word32]

/-- R194: a signed field of four bytes spells its value. -/
theorem toInt_field {v : Int} (h : fits32 v) : ∃ b3 b2 b1 b0, fieldBytes 4 v = [b3, b2, b1, b0] ∧
    (word32 b3 b2 b1 b0).toInt = v := by
  set w := BitVec.ofInt 32 v with hw
  refine ⟨BitVec.ofNat 8 (w.toNat / 16777216), BitVec.ofNat 8 (w.toNat / 65536), BitVec.ofNat 8 (w.toNat / 256),
    BitVec.setWidth 8 w, ?_, ?_⟩
  · rw [field_s32 h, s32, if_pos (c := int32Min ≤ _ ∧ _ ≤ int32Max) h, ← hw]
    rfl
  · rw [word32_bytes, hw, BitVec.toInt_ofInt]
    obtain ⟨h1, h2⟩ := h
    rw [Int.bmod_eq_of_le] <;> omega

/-- R196: the states that a reply may report, by their codes. -/
def replyCodes : List ReplyState := [.off, .busy, .active, .fault]

theorem readReply_seven {c : Chan} {n b f3 f2 f1 f0 check : Byte} {st : ReplyState} {fb : Int} :
    readReply c [n, b, f3, f2, f1, f0, check] = some (st, fb) ↔ n = chanByte c ∧
      byteSum [n, b, f3, f2, f1, f0, check] = 0#8 ∧ replyCodes[b.toNat]? = some st ∧ (word32 f3 f2 f1 f0).toInt = fb := by
  have hcode : ∀ x : Int, (match b.toNat with
      | 0 => some (ReplyState.off, x)
      | 1 => some (.busy, x)
      | 2 => some (.active, x)
      | 3 => some (.fault, x)
      | _ => none) = some (st, fb) ↔ replyCodes[b.toNat]? = some st ∧ x = fb := by
    intro x
    have hb : b.toNat = 0 ∨ b.toNat = 1 ∨ b.toNat = 2 ∨ b.toNat = 3 ∨ ∃ m, b.toNat = m + 4 := by
      by_cases h : b.toNat < 4
      · omega
      · exact .inr (.inr (.inr (.inr ⟨b.toNat - 4, by omega⟩)))
    rcases hb with h | h | h | h | ⟨m, h⟩ <;> simp [h, replyCodes]
  unfold readReply
  dsimp only
  rw [readWord_four]
  split
  next h => exact (hcode _).trans ⟨fun ⟨h3, h4⟩ => ⟨h.1, h.2, h3, h4⟩, fun ⟨_, _, h3, h4⟩ => ⟨h3, h4⟩⟩
  next h =>
    constructor
    · exact nofun
    · rintro ⟨h1, h2, -⟩
      exact absurd ⟨h1, h2⟩ h

/-- R13, R196: the replies that are good. -/
theorem goodReply_iff (c : Chan) (bytes : List Byte) (st : ReplyState) (fb : Int) :
    goodReply c (some bytes) = some (st, fb) ↔ ∃ (code : Nat) (check : Byte),
      [ReplyState.off, .busy, .active, .fault][code]? = some st ∧ fits32 fb ∧ sumsToZero bytes ∧
      bytes = recordOf [(1, (chanIndex c : Int)), (1, (code : Int)), (4, fb)] ++ [check] := by
  show readReply c bytes = _ ↔ _
  have hrec : ∀ (code : Nat) (check : Byte), recordOf [(1, (chanIndex c : Int)), (1, (code : Int)), (4, fb)] ++ [check] =
      chanByte c :: BitVec.ofNat 8 code :: (fieldBytes 4 fb ++ [check]) := fun code check => by
    rw [recordOf_cons, recordOf_cons, recordOf_cons, recordOf_nil, field_u8, field_u8, u8_chan, List.append_nil]
    rfl
  constructor
  · intro h
    unfold readReply at h
    split at h
    next n b f3 f2 f1 f0 check =>
      obtain ⟨h1, h2, h3, h4⟩ := readReply_seven.1 (show readReply c [n, b, f3, f2, f1, f0, check] = _ from h)
      refine ⟨b.toNat, check, h3, h4 ▸ fits32_toInt _, (byteSum_eq_zero_iff _).1 h2, ?_⟩
      rw [hrec, ← h4, field_word32, h1, BitVec.ofNat_toNat, BitVec.setWidth_eq]
      rfl
    · cases h
  · rintro ⟨code, check, hcode, hf, hs, hb⟩
    obtain ⟨b3, b2, b1, b0, hbytes, hv⟩ := toInt_field hf
    have hlt : code < 4 := List.getElem?_eq_some_iff.1 hcode |>.1
    rw [hrec, hbytes] at hb
    subst hb
    refine readReply_seven.2 ⟨rfl, (byteSum_eq_zero_iff _).2 hs, ?_, hv⟩
    rw [BitVec.toNat_ofNat, Nat.mod_eq_of_lt (by omega)]
    exact hcode

end DriveRecords

/-! ## An exchange that raises no DRIVE (R13, R14, R35) -/

section Exchange

variable {s : State} {replies : PerChannel (Option (List Byte))} {c : Chan}

theorem exec_driveExchange (hr : s.running = true) : exec (.driveExchange replies) s = .next (driveExchange replies s) := by
  show Host.Outcome.next _ = _
  rw [whileRunning_of_running _ _ hr]

/-- R87: what the channels of an exchange hand over, one after another. -/
def handCauses (l : List Chan) (replies : PerChannel (Option (List Byte))) (s t : State) : State :=
  l.foldl (fun t c => (exchangeRise s replies c).elim t fun k => rise (.drive c k) t) t

theorem driveExchange_eq (replies : PerChannel (Option (List Byte))) (s : State) :
    driveExchange replies s = handCauses allChans replies s (exchanged replies s) := by
  have h : (fun t c => match exchangeRise s replies c with
      | some k => rise (.drive c k) t
      | none => t) = fun t c => (exchangeRise s replies c).elim t fun k => rise (.drive c k) t := by
    funext t c
    cases exchangeRise s replies c <;> rfl
  unfold handCauses
  rw [← h]
  rfl

theorem handCauses_none {l : List Chan} (h : ∀ c ∈ l, exchangeRise s replies c = none) (t : State) :
    handCauses l replies s t = t := by
  induction l with
  | nil => rfl
  | cons c l ih =>
    rw [handCauses, List.foldl_cons, h c List.mem_cons_self]
    exact ih fun d hd => h d (List.mem_cons_of_mem _ hd)

theorem chan_exchanged (c : Chan) : (exchanged replies s).chan c = exchangeRecord s replies c := PerChannel.get_ofFn _ c

theorem exchanged_frame : exchanged replies s = { s with
    channels := (exchanged replies s).channels
    driveBus := allChans.map fun c => driveCommand c (s.chan c)
    crane := { s.crane with brakes := (exchanged replies s).crane.brakes }
    stops := { s.stops with conditions := { s.stops.conditions with
      drive := (exchanged replies s).stops.conditions.drive } } } := rfl

theorem exchangeRecord_miss (h : goodReply c (replies.get c) = none) :
    exchangeRecord s replies c = { s.chan c with stale := min 2 ((s.chan c).stale + 1) } := by
  rw [exchangeRecord, h]
  rfl

theorem exchangeRecord_good {st : ReplyState} {fb : Int} (h : goodReply c (replies.get c) = some (st, fb)) :
    exchangeRecord s replies c = takeGoodReply (s.lo c) (s.hi c) (s.chan c) st fb := by
  rw [exchangeRecord, h]

/-- R13, R14: a drive that was and stays ACTIVE. -/
theorem takeGoodReply_active {lo hi fb : Int} {r : Channel} (hc : r.commanded = true) (hd : r.drive = .active) :
    takeGoodReply lo hi r .active fb = { r with feedback := fb, known := true, stale := 0, faultPresent := false } := by
  unfold takeGoodReply
  rw [hc, if_pos ⟨hd, rfl⟩]
  cases r
  cases hd
  rfl

/-- R14: every other good reply is followed. -/
theorem takeGoodReply_followed {lo hi fb : Int} {r : Channel} {st : ReplyState}
    (h : ¬(r.commanded = true ∧ r.drive = .active)) : takeGoodReply lo hi r st fb = followRecord lo hi fb
      (if st = .fault then .fault else if r.commanded = false then .off else if st = .active then .active else .enabling)
      { r with feedback := fb, known := true, stale := 0, faultPresent := decide (st = .fault) } := by
  have hn : nextDrive r.commanded st =
      if st = .fault then .fault else if r.commanded = false then .off else if st = .active then .active else .enabling := by
    cases st <;> cases r.commanded <;> rfl
  unfold takeGoodReply
  dsimp only
  rw [if_neg, withOutside, outsideOf_eq, hn]
  · rfl
  · rintro ⟨hd, ha⟩
    cases hc : r.commanded with
    | true => exact h ⟨hc, hd⟩
    | false =>
      rw [hc] at ha
      cases st <;> cases ha

/-- R35: the brakes that an exchange releases. -/
theorem brakes_exchanged {b : Fin 4} (hb : brakeOf c = some b) : (exchanged replies s).crane.brakes.get b =
    (s.crane.brakes.get b && !decide (s.crane.state = .arming ∧ (s.chan c).drive ≠ .active ∧
      ((exchanged replies s).chan c).drive = .active)) := by
  have h := get_foldl_brakes (fun c => decide (s.crane.state = .arming ∧ (s.chan c).drive ≠ .active ∧
    (exchangeRecord s replies c).drive = .active)) false s.crane.brakes hb
  have hch : ∀ c, ({ s with channels := .ofFn (exchangeRecord s replies), driveBus := commandRecords s } : State).chan c =
      exchangeRecord s replies c := fun c => PerChannel.get_ofFn _ c
  have hbr : (exchanged replies s).crane.brakes.get b = if decide (s.crane.state = .arming ∧ (s.chan c).drive ≠ .active ∧
      (exchangeRecord s replies c).drive = .active) = true then false else s.crane.brakes.get b := by
    rw [← h]
    show (releaseBrakes s { s with channels := .ofFn (exchangeRecord s replies), driveBus := commandRecords s }).get b = _
    simp only [releaseBrakes, hch, decide_eq_true_eq] <;> rfl
  rw [hbr, chan_exchanged]
  split
  next hd => rw [hd, Bool.not_true, Bool.and_false]
  next hd => rw [eq_false_of_ne_true hd, Bool.not_false, Bool.and_true]

/-! ## The rises of an exchange (R15, R87, R93) -/

theorem exchangeRise_iff (c : Chan) (k : DriveKind) : exchangeRise s replies c = some k ↔
    (k = .stale ∧ goodReply c (replies.get c) = none ∧ 1 ≤ (s.chan c).stale) ∨
    (k = .fault ∧ ∃ fb, goodReply c (replies.get c) = some (.fault, fb) ∧ (s.chan c).faultPresent = false) ∨
    (k = .following ∧ ∃ fb, goodReply c (replies.get c) = some (.active, fb) ∧ (s.chan c).commanded = true ∧
      (s.chan c).drive = .active ∧ (s.cfg c).followLimit < ((s.chan c).setpoint - fb).natAbs) ∨
    (k = .dropout ∧ ∃ fb st, goodReply c (replies.get c) = some (st, fb) ∧ (st = .off ∨ st = .busy) ∧
      (s.chan c).commanded = true ∧ (s.chan c).drive = .active) := by
  cases hg : goodReply c (replies.get c) with
  | none =>
    rw [exchangeRise, hg]
    cases k <;> simp [Nat.one_le_iff_ne_zero]
  | some p =>
    obtain ⟨st, fb⟩ := p
    rw [exchangeRise, hg]
    cases st <;> cases k <;> simp [replyRise]

theorem drive_latches (d : Chan) (k : DriveKind) (st : CraneState) : latches (.drive d k) st = true :=
  latches_of_ne_zone (by show Cause.drive ≠ .zone; decide) st

theorem chanIndex_injective {c d : Chan} (h : chanIndex c = chanIndex d) : c = d := by
  have hc : ∀ c, chanOfIndex (chanIndex c) = some c := fun c => by cases c <;> rfl
  exact Option.some.inj ((hc c).symm.trans ((congrArg chanOfIndex h).trans (hc d)))

/-- R87, R90, R93: where DRIVE is latched and the crane TRIPPED, a further rise of DRIVE does nothing. -/
theorem rise_drive_latched {u : State} (ht : u.crane.state = .tripped) (hl : u.stops.latches.drive ≠ none) (d : Chan)
    (k : DriveKind) : rise (.drive d k) u = u := by
  have hs : u.stops.latches.drive.isSome = true := Option.isSome_iff_ne_none.2 hl
  have hlatch : latchCause (.drive d k) u = u := if_pos hs
  have hact : actOnCrane (.drive d k) u = u := by
    rw [actOnCrane_eq, restFor_of_categoryA _ _ rfl, if_pos (show categoryA _ = true from rfl), if_pos ht]
  have hn : ¬((getCause u.stops.latches (causeOf (.drive d k))).isNone = true ∧
      (actOnCrane (.drive d k) (latchCause (.drive d k) u)).crane.state = u.crane.state) := by
    rintro ⟨h, -⟩
    rw [Option.isNone_iff_eq_none] at h
    exact hl h
  refine (if_neg (by rw [drive_latches]; simp)).trans ?_
  refine (if_neg hn).trans ?_
  rw [hlatch, hact]

theorem rise_drive_trips (u : State) (d : Chan) (k : DriveKind) : (rise (.drive d k) u).crane.state = .tripped := by
  by_cases ht : u.crane.state = .tripped
  · have hr := rise_risen (.drive d k) u
    generalize rise (.drive d k) u = t at hr
    cases hr with
    | ignored zone => cases zone
    | trips a on => exact absurd ht on
    | stops b => cases b
    | parks b => cases b
    | stays b => cases b
    | latched _ t told =>
      have hc : (restFor (.drive d k) (latchCause (.drive d k) u)).crane.state = .tripped := by
        rw [restFor_crane, latchCause_crane, ht]
      rcases told with rfl | rfl
      · exact hc
      · rw [raiseState_crane]; exact hc
  · rw [rise_of_categoryA rfl ht, entryA_state]

theorem rise_drive_latches (u : State) (d : Chan) (k : DriveKind) :
    (rise (.drive d k) u).stops.latches.drive = some (u.stops.latches.drive.getD (.drive d k)) ∧
      (rise (.drive d k) u).stops.first =
        if noneLatched u.stops.latches = true then some (.drive d k) else u.stops.first := by
  have h := rise_latched (d := .drive d k) (s := u) (drive_latches d k _)
  obtain ⟨h1, h2⟩ : (rise (.drive d k) u).stops.latches = (latchCause (.drive d k) u).stops.latches ∧
    (rise (.drive d k) u).stops.first = (latchCause (.drive d k) u).stops.first := ⟨h.latches, h.first⟩
  rw [h1, h2]
  cases hl : u.stops.latches.drive with
  | none =>
    have hc : latchCause (.drive d k) u = _ := if_neg (by
      show ¬u.stops.latches.drive.isSome = true
      simp [hl])
    rw [hc]
    exact ⟨rfl, rfl⟩
  | some x =>
    have hc : latchCause (.drive d k) u = u := if_pos (by
      show u.stops.latches.drive.isSome = true
      simp [hl])
    have hn : noneLatched u.stops.latches = false := noneLatched_false_iff.2 ⟨.drive, by
      show u.stops.latches.drive ≠ none
      simp [hl]⟩
    rw [hc, hn]
    exact ⟨hl, (if_neg (by simp)).symm⟩

/-- R87, R93: only the lowest-indexed of the channels that raise DRIVE matters. -/
theorem handCauses_lowest {k : DriveKind} (h : exchangeRise s replies c = some k)
    (hlow : ∀ d, chanIndex d < chanIndex c → exchangeRise s replies d = none) (t : State) :
    handCauses allChans replies s t = rise (.drive c k) t := by
  obtain ⟨a, b, hab⟩ := List.append_of_mem (mem_allChans c)
  have hasc := allChans_ascending
  rw [hab, List.pairwise_append] at hasc
  have ha : handCauses a replies s t = t :=
    handCauses_none (fun d hd => hlow d (hasc.2.2 d hd c List.mem_cons_self)) t
  have hrest : ∀ (l : List Chan) (u : State), u.crane.state = .tripped → u.stops.latches.drive ≠ none →
      handCauses l replies s u = u := by
    intro l
    induction l with
    | nil => exact fun _ _ _ => rfl
    | cons d l ih =>
      intro u hu hl
      rw [handCauses, List.foldl_cons]
      cases hd : exchangeRise s replies d with
      | none => exact ih u hu hl
      | some j =>
        rw [Option.elim_some, rise_drive_latched hu hl]
        exact ih u hu hl
  unfold handCauses at ha hrest ⊢
  rw [hab, List.foldl_append, ha, List.foldl_cons, h, Option.elim_some]
  exact hrest b _ (rise_drive_trips ..) (by rw [(rise_drive_latches ..).1]; simp)

/-- A channel that raises DRIVE has a lowest such channel. -/
theorem lowest_rise {k : DriveKind} (h : exchangeRise s replies c = some k) : ∃ d j, exchangeRise s replies d = some j ∧
    ∀ e, chanIndex e < chanIndex d → exchangeRise s replies e = none := by
  have hne : ∃ n, ∃ d, chanIndex d = n ∧ exchangeRise s replies d ≠ none := ⟨_, c, rfl, by rw [h]; simp⟩
  obtain ⟨n, ⟨d, hd, hr⟩, hmin⟩ : ∃ n, (∃ d, chanIndex d = n ∧ exchangeRise s replies d ≠ none) ∧
      ∀ m < n, ¬∃ d, chanIndex d = m ∧ exchangeRise s replies d ≠ none := by
    classical
    exact ⟨Nat.find hne, Nat.find_spec hne, fun m hm => Nat.find_min hne hm⟩
  obtain ⟨j, hj⟩ := Option.ne_none_iff_exists'.1 hr
  exact ⟨d, j, hj, fun e he => by_contra fun hc => hmin _ (hd ▸ he) ⟨e, rfl, hc⟩⟩

/-- R87: what an exchange hands over leaves the FAULT flags and the conditions. -/
theorem handCauses_keeps (l : List Chan) (u : State) :
    (∀ d, ((handCauses l replies s u).chan d).faultPresent = (u.chan d).faultPresent) ∧
      (handCauses l replies s u).stops.conditions = u.stops.conditions := by
  induction l generalizing u with
  | nil => exact ⟨fun _ => rfl, rfl⟩
  | cons c l ih =>
    rw [handCauses, List.foldl_cons]
    cases exchangeRise s replies c with
    | none => exact ih u
    | some k =>
      obtain ⟨h1, h2⟩ := ih (rise (.drive c k) u)
      refine ⟨fun d => (h1 d).trans ?_, h2.trans (rise_conditions _ u)⟩
      exact rise_chan (P := fun r => r.faultPresent = (u.chan d).faultPresent) u (.drive c k) d rfl (fun _ h => h)
        (fun r h => by unfold stopChannel; split <;> exact h) (fun r h => by unfold releaseChannel; split <;> exact h)
        fun _ h _ _ => h

/-- R87: the DRIVE condition names the lowest-indexed channel whose FAULT is present. -/
theorem driveCondition_exchanged : (exchanged replies s).stops.conditions.drive =
    (allChans.find? fun c => ((exchanged replies s).chan c).faultPresent).map fun c => .drive c .fault := rfl

/-- Settles O37: drive exchanges, their records and the rises of DRIVE. -/
theorem driveExchangesAreChecked : Obligations.DriveExchangesAreChecked := by
  refine ⟨fun s replies hr hnone => ⟨_, exec_driveExchange hr, ?_⟩, fun s replies c k => ⟨exchangeRise_iff c k, fun hr hk =>
    ⟨_, exec_driveExchange hr, ?_⟩⟩, fun s replies hr => ⟨_, exec_driveExchange hr, ?_⟩,
    fun c r h => driveCommand_layout c h, fun c => ⟨rfl, fun bytes st fb => goodReply_iff c bytes st fb⟩⟩
  · rw [driveExchange_eq, handCauses_none fun c _ => hnone c]
    refine ⟨exchanged_frame, fun c h => ?_, fun c fb h hc hd => ?_, fun c fb st h hn => ?_, fun c b hb => brakes_exchanged hb⟩
    · rw [chan_exchanged, exchangeRecord_miss h]
    · rw [chan_exchanged, exchangeRecord_good h, takeGoodReply_active hc hd]
    · rw [chan_exchanged, exchangeRecord_good h, takeGoodReply_followed hn]
  · have hrise := (exchangeRise_iff c k).2 hk
    obtain ⟨d, j, hd, hlow⟩ := lowest_rise hrise
    obtain ⟨hl, hf⟩ := rise_drive_latches (exchanged replies s) d j
    rw [driveExchange_eq, handCauses_lowest hd hlow]
    refine ⟨rise_drive_trips .., by rw [hl]; simp, fun hc => ?_⟩
    have hdc : d = c := by
      rcases Nat.lt_trichotomy (chanIndex d) (chanIndex c) with hlt | heq | hgt
      · rw [hc d hlt] at hd; cases hd
      · exact chanIndex_injective heq
      · rw [hlow c hgt] at hrise; cases hrise
    subst hdc
    rw [hrise] at hd
    cases hd
    exact ⟨hl, hf⟩
  · obtain ⟨hfault, hcond⟩ := handCauses_keeps (replies := replies) (s := s) allChans (exchanged replies s)
    rw [driveExchange_eq]
    simp only [hfault, hcond, driveCondition_exchanged]
    refine ⟨fun h => ?_, fun c hc hlow => ?_⟩
    · rw [List.find?_eq_none.2 fun c _ => by simp [h c]]
      rfl
    · rw [find?_chan_of_lowest hc hlow]
      rfl

end Exchange

end Sys2Proof.Machine

/-! Geometry, presence and the zone table (O38, O40, O41). -/

namespace Sys2Proof.Machine

/-! ## The head point (R53, R55 to R57) -/

theorem headValid_iff (s : State) : headValid s = true ↔ ∀ c, isArm c = true → (s.chan c).known = true ∧
    (s.crane.state = .parked ∨ s.crane.state = .tripped ∨ s.crane.state = .parking →
      (s.chan c).drive ≠ .active → (s.chan c).stale = 0) := by
  have hrest : restingState s.crane.state = true ↔
      s.crane.state = .parked ∨ s.crane.state = .tripped ∨ s.crane.state = .parking := by
    simp [restingState, or_assoc]
  simp only [headValid, List.all_eq_true, mem_allChans, true_implies, ← hrest]
  refine forall_congr' fun c => ?_
  cases isArm c <;> cases restingState s.crane.state <;> simp [Classical.or_iff_not_imp_left]

/-- Settles O38: the update publishes `headPoint` of the arm's setpoints with `headValid`, and writes no other field. -/
theorem geometryPublishesTheHeadPoint : Obligations.GeometryPublishesTheHeadPoint := by
  intro s hr
  refine ⟨geometryUpdate s, ?_, rfl, rfl, rfl, rfl, headValid_iff s⟩
  show Host.Outcome.next _ = _
  rw [whileRunning_of_running _ _ hr]

/-! ## Presence (R63, R64) -/

section Presence

variable {s : State} {levels : BitVec 12} {l : Fin 12}

theorem majority_iff (a b c : Bool) : majority a b c = true ↔ 2 ≤ a.toNat + b.toNat + c.toNat := by
  cases a <;> cases b <;> cases c <;> decide

theorem assertedLevel_eq (p : Polarity) (high : Bool) : assertedLevel p high = (high == decide (p = .highOccupied)) := by
  cases p <;> cases high <;> rfl

/-- R63, R64: the record of line l after a sample. -/
def sampledLine (levels : BitVec 12) (s : State) (l : Fin 12) : PresenceLine :=
  samplePresence (s.config.lines.get l) (levels.getLsbD l.val) (s.presence.get l)

/-- s with line l sampled, before INPUT. -/
def withSampledLine (levels : BitVec 12) (l : Fin 12) (s : State) : State :=
  { s with presence := s.presence.set l (sampledLine levels s l) }

/-- The sample makes no difference to the filtered state of l. -/
def filterKept (levels : BitVec 12) (s : State) (l : Fin 12) : Prop :=
  (sampledLine levels s l).filter.filtered = (s.presence.get l).filter.filtered

theorem samplePresenceLine_kept (h : filterKept levels s l) :
    samplePresenceLine levels l s = withSampledLine levels l s := if_neg (not_not.2 h)

theorem samplePresenceLine_turned (h : ¬filterKept levels s l) :
    samplePresenceLine levels l s = raiseInput (withSampledLine levels l s) := if_pos h

theorem samplePresenceLine_get (levels : BitVec 12) (s : State) (l j : Fin 12) :
    (samplePresenceLine levels l s).presence.get j = if j = l then sampledLine levels s l else s.presence.get j := by
  have hp : (samplePresenceLine levels l s).presence = (withSampledLine levels l s).presence := by
    by_cases h : filterKept levels s l
    · rw [samplePresenceLine_kept h]
    · rw [samplePresenceLine_turned h]; rfl
  rw [hp]
  exact PerLine.get_set ..

theorem changed_of_filterKept (h : filterKept levels s l) :
    (sampledLine levels s l).filter.changed = (s.presence.get l).filter.changed := by
  have hm : majority (s.presence.get l).filter.mid (s.presence.get l).filter.new
      (assertedLevel (s.config.lines.get l).polarity (levels.getLsbD l.val)) = (s.presence.get l).filter.filtered := h
  show ((s.presence.get l).filter.changed || majority _ _ _ != (s.presence.get l).filter.filtered) = _
  rw [hm, bne_self_eq_false, Bool.or_false]

theorem changeFlags_of_presence {s t : State} (hs : t.stops = s.stops)
    (hp : ∀ l, (t.presence.get l).filter.changed = (s.presence.get l).filter.changed) : changeFlags t = changeFlags s := by
  simp only [changeFlags, hs, hp]

/-- What the samples of these lines make of s: each of them has its sample, and INPUT tells of the change flags if one of
them turned. -/
structure LinesSampled (levels : BitVec 12) (ls : List (Fin 12)) (s t : State) : Prop where
  stops : t.stops = s.stops
  line : ∀ j, t.presence.get j = if j ∈ ls then sampledLine levels s j else s.presence.get j
  kept : (∀ l ∈ ls, filterKept levels s l) → t.notices = s.notices
  turned : (∃ l ∈ ls, ¬filterKept levels s l) → t.notices.input.detail = some (changeFlags t)

theorem linesSampled_foldl (ls : List (Fin 12)) (hn : ls.Nodup) (s : State) :
    LinesSampled levels ls s (ls.foldl (fun s i => samplePresenceLine levels i s) s) := by
  induction ls generalizing s with
  | nil => exact ⟨rfl, fun _ => rfl, fun _ => rfl, nofun⟩
  | cons i ls ih =>
    obtain ⟨hi, hn⟩ := List.nodup_cons.1 hn
    rw [List.foldl_cons]
    set u := samplePresenceLine levels i s with hu
    have ht := ih hn u
    set t := ls.foldl (fun s i => samplePresenceLine levels i s) u
    have huc : u.config = s.config := by rw [hu, samplePresenceLine_frame]
    have hus : u.stops = s.stops := by rw [hu, samplePresenceLine_frame]
    have hget (j : Fin 12) (hj : j ≠ i) : u.presence.get j = s.presence.get j := by
      rw [hu, samplePresenceLine_get, if_neg hj]
    have hsample (j : Fin 12) (hj : j ≠ i) : sampledLine levels u j = sampledLine levels s j := by
      rw [sampledLine, sampledLine, huc, hget j hj]
    have hne {j : Fin 12} (hj : j ∈ ls) : j ≠ i := fun e => hi (e ▸ hj)
    have hkept (j : Fin 12) (hj : j ∈ ls) : filterKept levels u j ↔ filterKept levels s j := by
      rw [filterKept, filterKept, hsample j (hne hj), hget j (hne hj)]
    refine ⟨ht.stops.trans hus, fun j => ?_, fun h => ?_, fun h => ?_⟩
    · rw [ht.line]
      by_cases hj : j = i
      · subst hj
        rw [if_neg hi, if_pos (List.mem_cons_self ..), hu, samplePresenceLine_get, if_pos rfl]
      · simp only [hsample j hj, hget j hj, List.mem_cons, hj, false_or]
    · rw [ht.kept fun l hl => (hkept l hl).2 (h l (List.mem_cons_of_mem _ hl)), hu,
        samplePresenceLine_kept (h i (List.mem_cons_self ..))]
      rfl
    · by_cases htail : ∃ l ∈ ls, ¬filterKept levels u l
      · exact ht.turned htail
      · have hall : ∀ l ∈ ls, filterKept levels u l := fun l hl => not_not.1 fun hk => htail ⟨l, hl, hk⟩
        have hturned : ¬filterKept levels s i := by
          obtain ⟨l, hl, hk⟩ := h
          rcases List.mem_cons.1 hl with rfl | hl
          · exact hk
          · exact absurd ((hkept l hl).1 (hall l hl)) hk
        have hflags : changeFlags t = changeFlags u := changeFlags_of_presence ht.stops fun l => by
          rw [ht.line]
          split
          next hl => exact changed_of_filterKept (hall l hl)
          · rfl
        rw [ht.kept hall, hflags, hu, samplePresenceLine_turned hturned]
        rfl

theorem presenceSample_sampled (levels : BitVec 12) (s : State) : LinesSampled levels allLines s (presenceSample levels s) :=
  linesSampled_foldl _ (by decide) s

theorem presenceSample_get (levels : BitVec 12) (s : State) (l : Fin 12) :
    (presenceSample levels s).presence.get l = sampledLine levels s l :=
  ((presenceSample_sampled levels s).line l).trans (if_pos (by fin_cases l <;> decide))

theorem stepOccupancy_asserted (delay : Nat) (was : Bool) (p : PresenceLine) :
    stepOccupancy delay was true p = (true, none) := rfl

theorem stepOccupancy_clear {p : PresenceLine} (delay : Nat) (was : Bool) (h : p.occupancy = false) :
    stepOccupancy delay was false p = (false, none) := by simp [stepOccupancy, h]

theorem stepOccupancy_falling {p : PresenceLine} (delay : Nat) (was : Bool) (h : p.occupancy = true) :
    stepOccupancy delay was false p =
      if delay ≤ (if was = true then 0 else p.releaseTimer.getD 0 + 1) then (false, none)
      else (true, some (if was = true then 0 else p.releaseTimer.getD 0 + 1)) := by
  simp [stepOccupancy, h]

/-- Settles O40: each line has its own sample, and the last line that turns tells of the change flags that then stand, which
the lines after it keep. -/
theorem presenceFollowsTheSamples : Obligations.PresenceFollowsTheSamples := by
  intro s levels hr
  have hs := presenceSample_sampled levels s
  have hget := presenceSample_get levels s
  have hall : ∀ l, l ∈ allLines := fun l => by fin_cases l <;> decide
  refine ⟨presenceSample levels s, ?_, presenceSample_frame s levels, fun l => ?_, fun h => ?_, fun ⟨l, h⟩ => ?_,
    fun l h => ?_⟩
  · show Host.Outcome.next _ = _
    rw [whileRunning_of_running _ _ hr]
  · simp only [hget, ← assertedLevel_eq]
    set p := s.presence.get l with hp
    set a := assertedLevel (s.config.lines.get l).polarity (levels.getLsbD l.val)
    have hq : sampledLine levels s l = ⟨filterSample p.filter a,
        (stepOccupancy (s.config.lines.get l).delay p.filter.filtered (majority p.filter.mid p.filter.new a) p).1,
        (stepOccupancy (s.config.lines.get l).delay p.filter.filtered (majority p.filter.mid p.filter.new a) p).2⟩ := rfl
    rw [hq]
    refine ⟨rfl, rfl, rfl, majority_iff .., ?_, fun h => ?_, fun h ho => ?_, fun h ho => ?_⟩
    · simp [filterSample]
    · have h : majority p.filter.mid p.filter.new a = true := h
      rw [h]
      exact ⟨rfl, rfl⟩
    · have h : majority p.filter.mid p.filter.new a = false := h
      rw [h, stepOccupancy_clear _ _ ho]
      exact ⟨rfl, rfl⟩
    · have h : majority p.filter.mid p.filter.new a = false := h
      rw [h, stepOccupancy_falling _ _ ho]
      generalize (if p.filter.filtered = true then 0 else p.releaseTimer.getD 0 + 1) = n
      by_cases hn : (s.config.lines.get l).delay ≤ n
      · exact cast (if_pos hn).symm (by rw [if_pos hn]; exact ⟨rfl, rfl⟩)
      · exact cast (if_neg hn).symm (by rw [if_neg hn]; exact ⟨rfl, rfl⟩)
  · exact hs.kept fun l _ => by rw [filterKept, ← hget]; exact h l
  · exact hs.turned ⟨l, hall l, by rw [filterKept, ← hget]; exact h⟩
  · have he : exec (.occupancyRelease l levels) s = .next (eventOf (presenceSample levels)
        (fun s t => (s.presence.get l).occupancy && !(t.presence.get l).occupancy) s) := rfl
    rw [he, eventOf, whileRunning_of_running _ _ hr]
    cases ht : ((presenceSample levels s).presence.get l).occupancy <;> simp [h, ht]

end Presence

/-! ## The zone table (R66 to R70) -/

section ZoneTable

variable {s : State} {z : ZoneOperands}

theorem twoValued_isSome_iff {b : Byte} : (twoValued b).isSome = true ↔ b.toNat ≤ 1 := by
  have h0 : b = 0#8 ↔ b.toNat = 0 := by constructor <;> intro h <;> bv_omega
  have h1 : b = 1#8 ↔ b.toNat = 1 := by constructor <;> intro h <;> bv_omega
  simp only [twoValued, h0, h1]
  split
  · simp; omega
  · split
    · simp; omega
    · simp; omega

theorem zoneOperandsValid_iff (z : ZoneOperands) : zoneOperandsValid z = true ↔
    1 ≤ z.number.toNat ∧ z.number.toNat ≤ 24 ∧ z.kind.toNat ≤ 1 ∧ z.line.toNat ≤ 12 ∧
    (∀ v ∈ [z.xLo, z.xHi, z.yLo, z.yHi, z.zLo, z.zHi], -1000000 ≤ v.toInt ∧ v.toInt ≤ 1000000) ∧
    z.xLo.toInt ≤ z.xHi.toInt ∧ z.yLo.toInt ≤ z.yHi.toInt ∧ z.zLo.toInt ≤ z.zHi.toInt ∧
    z.stopMargin.toNat ≤ 50000 ∧ z.slowMargin.toNat ≤ 100000 ∧ z.stopMargin.toNat < z.slowMargin.toNat := by
  simp only [zoneOperandsValid, Bool.and_eq_true, natRange_iff, inRange_iff, twoValued_isSome_iff, decide_eq_true_eq,
    List.forall_mem_cons, List.not_mem_nil, false_implies, implies_true, and_true, boundLimit, Config.zoneCapacity,
    Nat.zero_le, true_and]
  tauto

theorem inRetreat_iff {n : Nat} : inRetreat s n = true ↔ ∃ r ∈ s.stops.retreatSet, r.zone = n := by
  simp [inRetreat]

theorem inRetreat_false {n : Nat} (h : ∀ r ∈ s.stops.retreatSet, r.zone ≠ n) : inRetreat s n = false := by
  rw [← Bool.not_eq_true, inRetreat_iff]
  exact fun ⟨r, hr, he⟩ => h r hr he

theorem standingGuard_iff {z : Zone} : standingGuard z = true ↔ z.kind = .guard ∧ z.line = 0 := by simp [standingGuard]

/-- A standing GUARD stands under the number already, or is to be stored there (R68). -/
def guarded (s : State) (z : ZoneOperands) : Bool :=
  (s.findZone z.number.toNat).any standingGuard || standingGuard (zoneRecord (s.findZone z.number.toNat) z)

theorem guarded_iff : guarded s z = true ↔
    (∃ o, s.findZone z.number.toNat = some o ∧ o.kind = .guard ∧ o.line = 0) ∨ (z.kind = 0#8 ∧ z.line = 0#8) := by
  have hline : z.line.toNat = 0 ↔ z.line = 0#8 := by constructor <;> intro h <;> bv_omega
  have hkind : (zoneRecord (s.findZone z.number.toNat) z).kind = .guard ↔ z.kind = 0#8 := by
    by_cases h : z.kind = 0#8 <;> simp [zoneRecord, h]
  simp only [guarded, Bool.or_eq_true, standingGuard_iff, hkind, Option.any_eq_true]
  exact or_congr Iff.rfl (and_congr_right fun _ => hline)

theorem requestZoneSet_invalid (h : zoneOperandsValid z = false) : requestZoneSet z s = refuse s .badOperand := if_pos h

theorem requestZoneSet_occupied (h : zoneOperandsValid z = true) {o : Zone} (ho : s.findZone z.number.toNat = some o)
    (hl : s.lineOccupied o.line = true) : requestZoneSet z s = refuse s .occupied := by
  rw [requestZoneSet, if_neg (by simp [h])]
  exact if_pos (by rw [ho]; exact hl)

theorem requestZoneSet_free (h : zoneOperandsValid z = true)
    (hf : ∀ o, s.findZone z.number.toNat = some o → s.lineOccupied o.line = false) : requestZoneSet z s =
    if inRetreat s z.number.toNat = true then refuse s .inUse
    else if guarded s z = true ∧ s.crane.state ≠ .parked then refuse s .state
    else accept { s with zoneMonitor := { s.zoneMonitor with
      zones := upsert (·.number) (zoneRecord (s.findZone z.number.toNat) z) s.zoneMonitor.zones } } [] := by
  have hfree : (s.findZone z.number.toNat).any (zoneOccupied s) ≠ true := by
    cases ho : s.findZone z.number.toNat with
    | none => exact nofun
    | some o => simp [zoneOccupied, hf o ho]
  rw [requestZoneSet, if_neg (by simp [h])]
  exact if_neg hfree

/-- R68, R69: the zone operands within their ranges, no occupied zone under the number. -/
theorem zoneSet_free (hr : s.canReceive = true) (h : zoneOperandsValid z = true)
    (hf : ∀ o, s.findZone z.number.toNat = some o → s.lineOccupied o.line = false) :
    ((∃ r ∈ s.stops.retreatSet, r.zone = z.number.toNat) → RefusedWith (.zoneSet z) s .inUse) ∧
    ((∀ r ∈ s.stops.retreatSet, r.zone ≠ z.number.toNat) →
      (guarded s z = true → s.crane.state ≠ .parked → RefusedWith (.zoneSet z) s .state) ∧
      (¬guarded s z = true ∨ s.crane.state = .parked → ∃ t, Replied (.zoneSet z) s t .ok [] ∧
        t = { servedBy s t with zoneMonitor := { s.zoneMonitor with zones := t.zoneMonitor.zones } } ∧
        t.findZone z.number.toNat = some (zoneRecord (s.findZone z.number.toNat) z) ∧
        ∀ k, k ≠ z.number.toNat → t.findZone k = s.findZone k)) := by
  have hfree := requestZoneSet_free (s := serveSupervision s) h hf
  have hunused (hu : ∀ r ∈ s.stops.retreatSet, r.zone ≠ z.number.toNat) :
      ¬inRetreat (serveSupervision s) z.number.toNat = true :=
    fun hin => Bool.false_ne_true ((inRetreat_false (s := serveSupervision s) hu).symm.trans hin)
  refine ⟨fun hu => refusedWith_of_accepted hr (f := requestZoneSet z) rfl ?_, fun hu => ⟨fun hg hc =>
    refusedWith_of_accepted hr (f := requestZoneSet z) rfl ?_, fun hg => ?_⟩⟩
  · exact hfree.trans (if_pos (inRetreat_iff.2 hu))
  · exact hfree.trans ((if_neg (hunused hu)).trans (if_pos ⟨hg, hc⟩))
  · have hset := hfree.trans ((if_neg (hunused hu)).trans (if_neg fun ⟨hg1, hc⟩ => hg.elim (· hg1) hc))
    refine ⟨_, replied_of_taken hr (f := requestZoneSet z) rfl hset, ?_,
      find_upsert_self (fun x : Zone => x.number) (zoneRecord (s.findZone z.number.toNat) z) _, fun k hk => find_upsert_other (fun x : Zone => x.number) _ hk _⟩
    rw [serveSupervision_eq]
    rfl

/-- R70: a zone of the table. -/
theorem requestZoneRetire_found {b : Byte} {o : Zone} (h1 : 1 ≤ b.toNat) (h2 : b.toNat ≤ 24)
    (ho : s.findZone b.toNat = some o) : requestZoneRetire b s =
    if zoneOccupied s o then refuse s .occupied
    else if latchedZone s b.toNat || inRetreat s b.toNat then refuse s .inUse
    else if standingGuard o ∧ s.crane.state ≠ .parked then refuse s .state
    else accept { s with zoneMonitor := { s.zoneMonitor with
      zones := eraseKey (·.number) b.toNat s.zoneMonitor.zones } } [] := by
  rw [requestZoneRetire, if_neg (by simp [natRange, Config.zoneCapacity, h1, h2]), ho]

theorem zoneInUse_iff {n : Nat} : (latchedZone s n || inRetreat s n) = true ↔
    (s.stops.latches.zone = some (.zone n) ∨ ∃ r ∈ s.stops.retreatSet, r.zone = n) := by
  rw [Bool.or_eq_true, inRetreat_iff, latchedZone, beq_iff_eq]

/-- R70: the tests of ZONE_RETIRE in their order, and the retirement. -/
theorem zoneRetire_found {b : Byte} {o : Zone} (hr : s.canReceive = true) (h1 : 1 ≤ b.toNat) (h2 : b.toNat ≤ 24)
    (ho : s.findZone b.toNat = some o) :
    let used := s.stops.latches.zone = some (.zone b.toNat) ∨ ∃ r ∈ s.stops.retreatSet, r.zone = b.toNat
    (s.lineOccupied o.line = true → RefusedWith (.zoneRetire b) s .occupied) ∧
    (s.lineOccupied o.line = false → used → RefusedWith (.zoneRetire b) s .inUse) ∧
    (s.lineOccupied o.line = false → ¬used → o.kind = .guard → o.line = 0 → s.crane.state ≠ .parked →
      RefusedWith (.zoneRetire b) s .state) ∧
    (s.lineOccupied o.line = false → ¬used → o.kind = .slow ∨ o.line ≠ 0 ∨ s.crane.state = .parked →
      ∃ t, Replied (.zoneRetire b) s t .ok [] ∧
        t = { servedBy s t with zoneMonitor := { s.zoneMonitor with zones := t.zoneMonitor.zones } } ∧
        t.findZone b.toNat = none ∧ ∀ k, k ≠ b.toNat → t.findZone k = s.findZone k) := by
  have hf := requestZoneRetire_found (s := serveSupervision s) h1 h2 ho
  have hfree (hl : s.lineOccupied o.line = false) : ¬zoneOccupied (serveSupervision s) o = true := by
    show ¬s.lineOccupied o.line = true
    rw [hl]
    exact nofun
  have hiff := zoneInUse_iff (s := serveSupervision s) (n := b.toNat)
  refine ⟨fun hl => refusedWith_of_accepted hr (f := requestZoneRetire b) rfl (hf.trans (if_pos hl)), fun hl hu =>
    refusedWith_of_accepted hr (f := requestZoneRetire b) rfl ?_, fun hl hu hk hz hc =>
    refusedWith_of_accepted hr (f := requestZoneRetire b) rfl ?_, fun hl hu hg => ?_⟩
  · exact hf.trans ((if_neg (hfree hl)).trans (if_pos (hiff.2 hu)))
  · exact hf.trans ((if_neg (hfree hl)).trans ((if_neg fun h => hu (hiff.1 h)).trans
      (if_pos ⟨standingGuard_iff.2 ⟨hk, hz⟩, hc⟩)))
  · have hkept : ¬(standingGuard o = true ∧ s.crane.state ≠ .parked) := by
      rintro ⟨hs, hc⟩
      obtain ⟨hk, hz⟩ := standingGuard_iff.1 hs
      simp [hk, hz, hc] at hg
    have hset := hf.trans ((if_neg (hfree hl)).trans ((if_neg fun h => hu (hiff.1 h)).trans (if_neg hkept)))
    refine ⟨_, replied_of_taken hr (f := requestZoneRetire b) rfl hset, ?_,
      find_eraseKey_self (fun x : Zone => x.number) _ _, fun k hk => find_eraseKey_other (fun x : Zone => x.number) hk _⟩
    rw [serveSupervision_eq]
    rfl

/-- Settles O41: the tests of both requests in their order; a stored zone is `zoneRecord`, found under its number. -/
theorem zonesAreStoredAndRetired : Obligations.ZonesAreStoredAndRetired := by
  refine ⟨zoneOperandsValid_iff, fun s z hr => ⟨fun h => ?_, fun h o ho hl => ?_, fun h hf => ?_⟩,
    fun s b o hr h1 h2 ho => zoneRetire_found hr h1 h2 ho⟩
  · exact refusedWith_of_accepted hr (f := requestZoneSet z) rfl (requestZoneSet_invalid h)
  · exact refusedWith_of_accepted hr (f := requestZoneSet z) rfl (requestZoneSet_occupied h ho hl)
  · obtain ⟨hused, hfree⟩ := zoneSet_free hr h hf
    refine ⟨hused, fun hu => ?_⟩
    obtain ⟨hstate, hstored⟩ := hfree hu
    rw [guarded_iff] at hstate hstored
    refine ⟨hstate, fun hg => ?_⟩
    obtain ⟨t, hrep, ht, hself, hother⟩ := hstored hg
    refine ⟨t, _, hrep, ht, hself, hother, rfl, rfl, rfl, rfl, rfl, rfl, rfl, rfl, rfl, rfl, fun ho => ?_, fun o ho => ?_⟩
    · rw [ho]
      exact ⟨rfl, rfl, rfl, rfl, rfl⟩
    · rw [ho]
      exact ⟨rfl, rfl, rfl, rfl, rfl⟩

end ZoneTable

end Sys2Proof.Machine

/-! The zone evaluation: the measures, the published scale, the ZONE notice, the ZONE condition and the retreat set
(O42, O43). -/

namespace Sys2Proof.Machine

/-! ## What a rise leaves of the ZONE and INPUT notices, the breach set and the retreat set -/

section Rise

variable {s t u : State}

/-- ZONE and INPUT are as they were. -/
structure SameSensors (s t : State) : Prop where
  zone : t.notices.zone = s.notices.zone
  input : t.notices.input = s.notices.input

theorem SameSensors.refl (s : State) : SameSensors s s := ⟨rfl, rfl⟩

theorem SameSensors.trans (h : SameSensors s t) (k : SameSensors t u) : SameSensors s u :=
  ⟨k.zone.trans h.zone, k.input.trans h.input⟩

theorem sameSensors_of_notices (h : t.notices = s.notices) : SameSensors s t := ⟨by rw [h], by rw [h]⟩

theorem SameSensors.of_notices (h : SameSensors s t) (hn : u.notices = t.notices) : SameSensors s u :=
  h.trans (sameSensors_of_notices hn)

theorem sameSensors_interruptMoves (hit : Chan → Bool) (h : t.notices = s.notices) :
    SameSensors s (interruptMoves hit t) := by
  obtain ⟨-, -, hz, -, -, hi, -⟩ := interruptMoves_sources (s := t) hit
  exact ⟨by rw [hz, h], by rw [hi, h]⟩

theorem SameSensors.enterCrane (h : SameSensors s t) (st : CraneState) (x : StateExtra) :
    SameSensors s (enterCrane st x t) := by
  refine h.trans ⟨?_, ?_⟩
  · rw [enterCrane_notices]; rfl
  · rw [enterCrane_notices]; rfl

theorem sameSensors_raiseState (d : StateDetail) (s : State) : SameSensors s (raiseState d s) :=
  ⟨by rw [raiseState_notices]; rfl, by rw [raiseState_notices]; rfl⟩

theorem sameSensors_endTake (r : TakeResult) (s : State) : SameSensors s (endTake r s) := by
  cases h : s.engine.take with
  | none => exact sameSensors_of_notices (by simp [endTake, h])
  | some n => exact ⟨by rw [endTake_some s r h]; rfl, by rw [endTake_some s r h]; rfl⟩

theorem sameSensors_trackingOff (s : State) : SameSensors s (trackingOff s) := by
  rw [trackingOff_eq]
  split <;> exact ⟨rfl, rfl⟩

theorem sameSensors_entryA (s : State) : SameSensors s (entryA s) := by
  have ht := (sameSensors_interruptMoves (fun _ => true) (t := dropChannels s) (s := s) rfl).trans (sameSensors_endTake .stopped _)
  refine SameSensors.enterCrane ?_ _ _
  exact (ht.trans (sameSensors_trackingOff _)).of_notices rfl

theorem sameSensors_entryBReady (s : State) : SameSensors s (entryBReady s) := by
  have ht (f : Chan → Channel → Channel) :=
    (sameSensors_interruptMoves isBody (t := mapChannels s f) (s := s) rfl).trans (sameSensors_endTake .stopped _)
  refine SameSensors.enterCrane ?_ _ _
  exact (ht _).of_notices rfl

theorem sameSensors_stopLiveHead (s : State) : SameSensors s (stopLiveHead s) := sameSensors_interruptMoves _ rfl

theorem sameSensors_entryBArming (s : State) : SameSensors s (entryBArming s) := by
  refine SameSensors.enterCrane ?_ _ _
  exact (sameSensors_stopLiveHead s).of_notices rfl

theorem sameSensors_restFor (d : CauseDetail) (s : State) : SameSensors s (restFor d s) := by
  unfold restFor
  split
  · exact sameSensors_interruptMoves _ rfl
  · exact .refl s

theorem Noticed.sensors (h : Noticed u t) : SameSensors u t := by
  obtain rfl | rfl := h
  · exact .refl t
  · exact sameSensors_raiseState _ _

theorem sameSensors_rise (d : CauseDetail) (s : State) : SameSensors s (rise d s) := by
  have hl : SameSensors s (latchCause d s) := sameSensors_of_notices (by simp)
  have hv := hl.trans (sameSensors_restFor d _)
  have hr := rise_risen d s
  generalize rise d s = t at hr
  cases hr with
  | ignored => exact .refl s
  | trips => exact hl.trans (sameSensors_entryA _)
  | stops => exact hv.trans (sameSensors_entryBReady _)
  | parks => exact hv.trans (sameSensors_entryBArming _)
  | stays _ _ _ told => exact (hv.trans (sameSensors_stopLiveHead _)).trans told.sensors
  | latched _ _ told => exact hv.trans told.sensors

/-- What a rise leaves of the breach set, and of RETREAT where the crane state stays. -/
structure SameBreach (s t : State) : Prop where
  breach : t.stops.breachSet = s.stops.breachSet
  retreat : t.crane.state = s.crane.state → t.stops.retreatSet = s.stops.retreatSet ∧ t.crane.retreat = s.crane.retreat

theorem latchCause_breachSet (d : CauseDetail) (s : State) : (latchCause d s).stops.breachSet = s.stops.breachSet := by
  unfold latchCause
  split <;> rfl

theorem sameBreach_rise (d : CauseDetail) (s : State) : SameBreach s (rise d s) := by
  have hl := latchCause_breachSet d s
  have hr := rise_risen d s
  generalize rise d s = t at hr
  cases hr with
  | ignored => exact ⟨rfl, fun _ => ⟨rfl, rfl⟩⟩
  | trips _ on => exact ⟨by simp [entryA, enterCrane_stops, hl], fun h => absurd (h.symm.trans (entryA_state _)) on⟩
  | stops _ ready =>
    exact ⟨by simp [entryBReady, enterCrane_stops, hl], fun h => by rw [entryBReady_state, ready] at h; cases h⟩
  | parks _ arming =>
    exact ⟨by simp [entryBArming, enterCrane_stops, stopLiveHead, startParkingSlot, hl],
      fun h => by rw [entryBArming_state, arming] at h; cases h⟩
  | stays _ _ _ told => exact ⟨by simp [told.stops, stopLiveHead, hl], fun _ => by simp [told.stops, told.crane, stopLiveHead]⟩
  | latched _ _ told => exact ⟨by simp [told.stops, hl], fun _ => by simp [told.stops, told.crane]⟩

/-- R43, R95: a category B rise in READY empties the retreat set. -/
theorem rise_clears_retreat {d : CauseDetail} (hb : categoryA (causeOf d) = false) (hr : s.crane.state = .ready) :
    (rise d s).stops.retreatSet = [] ∧ (rise d s).crane.retreat = false := by
  rw [rise_of_ready hb hr]
  simp [entryBReady, enterCrane_stops, enterCrane_crane, hr]

end Rise

/-! ## Tables of numbers -/

theorem leastNumber_some {ns : List Nat} (h : ns ≠ []) : ∃ m, leastNumber ns = some m ∧ m ∈ ns ∧ ∀ k ∈ ns, m ≤ k := by
  induction ns with
  | nil => exact absurd rfl h
  | cons x xs ih =>
    rw [leastNumber]
    cases xs with
    | nil => exact ⟨x, rfl, by simp, by simp⟩
    | cons y ys =>
      obtain ⟨m, hm, hmem, hle⟩ := ih (List.cons_ne_nil _ _)
      rw [hm]
      refine ⟨min x m, rfl, ?_, fun k hk => ?_⟩
      · rcases min_choice x m with h | h <;> rw [h]
        · exact List.mem_cons_self ..
        · exact List.mem_cons_of_mem _ hmem
      · rcases List.mem_cons.1 hk with rfl | hk
        · exact min_le_left _ _
        · exact (min_le_right _ _).trans (hle k hk)

theorem leastNumber_of_least {n : Nat} {ns : List Nat} (hn : n ∈ ns) (h : ∀ k ∈ ns, n ≤ k) : leastNumber ns = some n := by
  obtain ⟨m, hm, hmem, hle⟩ := leastNumber_some (List.ne_nil_of_mem hn)
  rw [hm, le_antisymm (hle n hn) (h m hmem)]

theorem not_isEmpty_eq {α : Type} [DecidableEq α] (l : List α) : (!l.isEmpty) = decide (l ≠ []) := by
  cases l <;> rfl

theorem leastContribution_none_iff (zs : List Zone) : leastContribution zs = none ↔ ∀ z ∈ zs, z.contribution = none := by
  induction zs with
  | nil => simp [leastContribution]
  | cons z zs ih =>
    rw [List.forall_mem_cons, ← ih, leastContribution]
    cases z.contribution <;> cases leastContribution zs <;> simp
    split <;> simp

/-! ## The evaluation by its parts (R72 to R80) -/

section Evaluation

variable {s : State}

/-- R73 to R75: one zone after an evaluation. -/
def evaluatedZone (s : State) (z : Zone) : Zone := contribute s (evaluatedRetreat s) (measureZone s z)

theorem evaluatedZones_eq (s : State) : evaluatedZones s = s.zoneMonitor.zones.map (evaluatedZone s) := List.map_map ..

theorem evaluatedZones_numbers (s : State) :
    (evaluatedZones s).map (·.number) = s.zoneMonitor.zones.map (·.number) := by
  rw [evaluatedZones_eq]
  exact map_key_map fun _ => rfl

/-- What the notices of an evaluation leave of the state that its rise has made. -/
structure Published (s t : State) : Prop where
  monitor : t.zoneMonitor = (evaluated s).zoneMonitor
  stops : t.stops = (evaluatedRisen s).stops
  crane : t.crane = (evaluatedRisen s).crane
  channels : t.channels = (evaluatedRisen s).channels

theorem evaluatedRisen_monitor (s : State) : (evaluatedRisen s).zoneMonitor = (evaluated s).zoneMonitor := by
  rcases evaluatedRisen_cases s with h | ⟨n, -, -, h⟩
  · rw [h]
  · obtain ⟨-, -, -, -, -, hz, -⟩ := settled_eq_iff.1 (rise_settled (evaluated s) (.zone n))
    rw [h, hz]

theorem zoneEvaluation_published (s : State) : Published s (zoneEvaluation s) := by
  rw [zoneEvaluation_eq]
  refine foldl_keeps (P := Published s) _ ⟨evaluatedRisen_monitor s, rfl, rfl, rfl⟩ fun u hu p _ => ?_
  split
  · obtain ⟨-, -, -, -, -, hz, -⟩ := settled_eq_iff.1 (raiseZone_settled u (zoneDetail p.2))
    exact ⟨hz.trans hu.monitor, by simp [hu.stops], by simp [hu.crane], by simp [hu.channels]⟩
  · exact hu

theorem zoneEvaluation_zones (s : State) : (zoneEvaluation s).zoneMonitor.zones = evaluatedZones s := by
  rw [(zoneEvaluation_published s).monitor]
  rfl

theorem zoneEvaluation_scale (s : State) : (zoneEvaluation s).zoneMonitor.scale =
    if s.head.valid then ((leastContribution (evaluatedZones s)).map (·.2)).getD 1024 else 0 := by
  rw [(zoneEvaluation_published s).monitor]
  rfl

theorem zoneEvaluation_limiting (s : State) : (zoneEvaluation s).zoneMonitor.limiting =
    if s.head.valid then (leastContribution (evaluatedZones s)).map (·.1) else none := by
  rw [(zoneEvaluation_published s).monitor]
  rfl

theorem zoneEvaluation_condition (s : State) : (zoneEvaluation s).stops.conditions.zone = evaluatedDetail s := by
  rw [(zoneEvaluation_published s).stops]
  rcases evaluatedRisen_cases s with h | ⟨n, -, -, h⟩
  · rw [h]; rfl
  · rw [h, rise_conditions]; rfl

theorem exec_zoneEvaluation (hr : s.running = true) : exec .zoneEvaluation s = .next (zoneEvaluation s) := by
  show Host.Outcome.next _ = _
  rw [whileRunning_of_running _ _ hr]

/-! ### The ZONE notice -/

/-- R74: the zones that raise ZONE, each before and after. -/
def toldZones (s : State) : List (Zone × Zone) :=
  (s.zoneMonitor.zones.zip (evaluatedZones s)).filter fun p => zoneNotifies p.1 p.2

theorem raiseZone_zone (d : ZoneDetail) (u : State) :
    (raiseZone d u).notices.zone = ⟨some d, u.notices.zone.detail.isSome⟩ := by
  have h : (startNoticeTimer u).notices = u.notices := by
    unfold startNoticeTimer
    split <;> rfl
  show (⟨some d, (startNoticeTimer u).notices.zone.detail.isSome⟩ : NoticeSource ZoneDetail) = _
  rw [h]

theorem zoneEvaluation_notice (s : State) : (zoneEvaluation s).notices.zone =
    ((toldZones s).foldl (fun t p => raiseZone (zoneDetail p.2) t) (evaluatedRisen s)).notices.zone := by
  rw [zoneEvaluation_eq, toldZones, List.foldl_filter]

theorem evaluatedRisen_zone (s : State) : (evaluatedRisen s).notices.zone = s.notices.zone := by
  rcases evaluatedRisen_cases s with h | ⟨n, -, -, h⟩
  · rw [h]; rfl
  · rw [h, (sameSensors_rise _ _).zone]; rfl

theorem foldl_raiseZone_isSome (ps : List (Zone × Zone)) (u : State) :
    (ps.foldl (fun t p => raiseZone (zoneDetail p.2) t) u).notices.zone.detail.isSome =
      (u.notices.zone.detail.isSome || decide (ps ≠ [])) := by
  induction ps generalizing u with
  | nil => simp
  | cons p ps ih => rw [List.foldl_cons, ih, raiseZone_zone]; simp

theorem foldl_raiseZone_zone (ps : List (Zone × Zone)) (p : Zone × Zone) (u : State) :
    ((ps ++ [p]).foldl (fun t p => raiseZone (zoneDetail p.2) t) u).notices.zone =
      ⟨some (zoneDetail p.2), u.notices.zone.detail.isSome || decide (1 < (ps ++ [p]).length)⟩ := by
  rw [List.foldl_append, List.foldl_cons, List.foldl_nil, raiseZone_zone, foldl_raiseZone_isSome]
  congr 3
  cases ps <;> simp

theorem zip_evaluatedZones (s : State) : s.zoneMonitor.zones.zip (evaluatedZones s) =
    s.zoneMonitor.zones.map fun z => (z, evaluatedZone s z) := by
  rw [evaluatedZones_eq, List.map_prod_left_eq_zip]

/-- R74: the notice left is the highest-numbered zone's. -/
theorem zoneEvaluation_told (ho : Ascending (s.zoneMonitor.zones.map (·.number))) {p : Zone × Zone}
    (hp : p ∈ toldZones s) (h : ∀ q ∈ toldZones s, q.2.number ≤ p.2.number) : (zoneEvaluation s).notices.zone =
      ⟨some (zoneDetail p.2), s.notices.zone.detail.isSome || decide (1 < (toldZones s).length)⟩ := by
  have hasc : (toldZones s).Pairwise fun q r => q.2.number < r.2.number := by
    refine List.Pairwise.filter _ ?_
    rw [zip_evaluatedZones, List.pairwise_map]
    exact List.pairwise_map.1 ho
  obtain ⟨ps, q, hq⟩ := (List.eq_nil_or_concat (toldZones s)).resolve_left (List.ne_nil_of_mem hp)
  rw [List.concat_eq_append] at hq
  have hpq : p = q := by
    rw [hq] at hp hasc h
    rcases List.mem_append.1 hp with hp | hp
    · have h1 := (List.pairwise_append.1 hasc).2.2 p hp q (List.mem_singleton_self q)
      have h2 := h q (by simp)
      omega
    · exact List.mem_singleton.1 hp
  rw [zoneEvaluation_notice, hq, foldl_raiseZone_zone, evaluatedRisen_zone, hpq]

theorem zoneEvaluation_untold (h : toldZones s = []) : (zoneEvaluation s).notices.zone = s.notices.zone := by
  rw [zoneEvaluation_notice, h, List.foldl_nil, evaluatedRisen_zone]

theorem toldZones_eq (s : State) : toldZones s = (s.zoneMonitor.zones.zip (zoneEvaluation s).zoneMonitor.zones).filter
    fun p => decide (p.1.occupied ≠ p.2.occupied ∨ (p.2.active = true ∧ p.1.band ≠ p.2.band)) := by
  rw [zoneEvaluation_zones, toldZones]
  refine List.filter_congr fun p _ => ?_
  simp [zoneNotifies, Bool.decide_or, Bool.decide_and, bne, beq_eq_decide]

/-! ### The measures and the scale -/

/-- R76: the limiting zone is the lowest-numbered of those with the least contribution. -/
theorem limiting_least (ho : Ascending (s.zoneMonitor.zones.map (·.number))) {n : Nat}
    (h : (zoneEvaluation s).zoneMonitor.limiting = some n) :
    ∀ z ∈ (zoneEvaluation s).zoneMonitor.zones, z.contribution = some (zoneEvaluation s).zoneMonitor.scale → n ≤ z.number := by
  rw [zoneEvaluation_limiting] at h
  rw [zoneEvaluation_zones, zoneEvaluation_scale]
  cases hv : s.head.valid with
  | false => simp [hv] at h
  | true =>
    rw [hv] at h
    cases hl : leastContribution (evaluatedZones s) with
    | none => simp [hl] at h
    | some p =>
      obtain ⟨m, c⟩ := p
      obtain rfl : m = n := by simpa [hl] using h
      obtain ⟨before, z, after, hz, rfl, hc, hb, ha⟩ := leastContribution_some _ hl
      have hasc : (before ++ z :: after).Pairwise fun x y => x.number < y.number := by
        rw [← hz]
        exact List.pairwise_map.1 ((evaluatedZones_numbers s).symm ▸ ho)
      intro y hy hyc
      have hyc : y.contribution = some c := hyc
      rw [hz] at hy
      rcases List.mem_append.1 hy with hy | hy
      · exact absurd (hb y hy c hyc) (lt_irrefl c)
      · rcases List.mem_cons.1 hy with rfl | hy
        · exact le_rfl
        · exact ((List.pairwise_cons.1 (List.pairwise_append.1 hasc).2.1).1 y hy).le

theorem stayingRetreat_nil (h : s.stops.retreatSet = []) : stayingRetreat s = [] := by rw [stayingRetreat, h]; rfl

theorem evaluatedRetreat_nil (h : s.stops.retreatSet = []) : evaluatedRetreat s = [] := by
  rw [evaluatedRetreat, stayingRetreat_nil h]; rfl

theorem evaluatedDetail_invalid (h : s.head.valid = false) : evaluatedDetail s = none := by
  have hd : decreasedZones s = [] := by
    rw [decreasedZones, List.map_eq_nil_iff, List.filter_eq_nil_iff]
    intro r _
    simp [decreased, h]
  rw [evaluatedDetail, evaluatedBreach, h, hd]
  rfl

theorem zoneClearance_eq (z : Zone) (h : HeadPoint) (radius : Nat) :
    let gap := fun lo hi v : Int => max 0 (max (lo - v) (v - hi))
    zoneClearance z h radius =
      (max (gap z.xLo z.xHi h.x) (max (gap z.yLo z.yHi h.y) (gap z.zLo z.zHi h.z)) - Int.ofNat radius).toNat := by
  have hgap : ∀ lo hi v, axisGap lo hi v = max 0 (max (lo - v) (v - hi)) := fun _ _ _ => max_comm ..
  simp only [zoneClearance, hgap, max_assoc]

theorem evaluatedZone_active (s : State) (z : Zone) :
    (evaluatedZone s z).active = true ↔ z.line = 0 ∨ s.lineOccupied z.line = true := by
  simp [evaluatedZone, contribute, measureZone]

theorem contribution_none_iff {z : Zone} (hz : z ∈ evaluatedZones s) (hv : s.head.valid = true) :
    z.contribution = none ↔ z.active = false := by
  rw [evaluatedZones_eq] at hz
  obtain ⟨y, -, rfl⟩ := List.mem_map.1 hz
  simp [evaluatedZone, contribute, hv]

/-- R75: the contribution with no zone in the retreat set. -/
theorem evaluatedZone_contribution (hn : s.stops.retreatSet = []) (hv : s.head.valid = true) (z : Zone) :
    let c := zoneClearance z s.head s.config.headRadius
    let share := if c ≤ z.stopMargin then 0 else 1024 * (c - z.stopMargin) / (z.slowMargin - z.stopMargin)
    (evaluatedZone s z).contribution = if (evaluatedZone s z).active = false then none
      else if z.slowMargin ≤ c then some 1024
      else if z.kind = .guard then some share else some (max share s.config.creep) := by
  intro c share
  cases ha : (evaluatedZone s z).active with
  | false => simp [evaluatedZone, contribute, hv] at ha ⊢; exact ha
  | true =>
    have hc : (evaluatedZone s z).contribution = some (contributionOf s.config.creep false z c) := by
      simp only [evaluatedZone, contribute, evaluatedRetreat_nil hn] at ha ⊢
      rw [if_pos ⟨hv, ha⟩]
      simp only [measureZone, hv, if_true, Option.getD_some, List.any_nil]
      rfl
    rw [hc, if_neg (by simp), contributionOf, if_neg (by simp)]
    split
    · rfl
    · cases z.kind <;> rfl

/-- R73 to R75: a zone before and after an evaluation with an empty retreat set. -/
theorem evaluatedZone_measures (hn : s.stops.retreatSet = []) (z : Zone) :
    let y := evaluatedZone s z
    let gap := fun lo hi v : Int => max 0 (max (lo - v) (v - hi))
    let far := max (gap z.xLo z.xHi s.head.x) (max (gap z.yLo z.yHi s.head.y) (gap z.zLo z.zHi s.head.z))
    let c := (far - Int.ofNat s.config.headRadius).toNat
    let share := if c ≤ z.stopMargin then 0 else 1024 * (c - z.stopMargin) / (z.slowMargin - z.stopMargin)
    y.number = z.number ∧ y.occupied = s.lineOccupied z.line ∧
    (y.active = true ↔ z.line = 0 ∨ s.lineOccupied z.line = true) ∧
    (s.head.valid = true → y.clearance = some c ∧
      y.band = (if c < z.stopMargin then .stop else if c < z.slowMargin then .slow else .clear) ∧
      y.contribution = if y.active = false then none else if z.slowMargin ≤ c then some 1024
        else if z.kind = .guard then some share else some (max share s.config.creep)) ∧
    (s.head.valid = false → y.clearance = z.clearance ∧ y.band = z.band ∧ y.contribution = none) := by
  intro y gap far c share
  have hc : zoneClearance z s.head s.config.headRadius = c := zoneClearance_eq z s.head s.config.headRadius
  refine ⟨rfl, rfl, evaluatedZone_active s z, fun hv => ⟨?_, ?_, ?_⟩, fun hv => ⟨?_, ?_, ?_⟩⟩
  · rw [← hc]
    exact if_pos hv
  · rw [← hc]
    exact if_pos hv
  · have h := evaluatedZone_contribution hn hv z
    rw [hc] at h
    exact h
  · exact if_neg (by simp [hv])
  · exact if_neg (by simp [hv])
  · exact if_neg (by simp [hv])

/-- R76: the published scale with a valid head point. -/
theorem scale_of_valid (hv : s.head.valid = true) :
    ((∀ z ∈ evaluatedZones s, z.active = false) →
      (zoneEvaluation s).zoneMonitor.scale = 1024 ∧ (zoneEvaluation s).zoneMonitor.limiting = none) ∧
    ((∃ z ∈ evaluatedZones s, z.active = true) →
      (∃ z ∈ evaluatedZones s, z.contribution = some (zoneEvaluation s).zoneMonitor.scale ∧
        (zoneEvaluation s).zoneMonitor.limiting = some z.number) ∧
      ∀ z ∈ evaluatedZones s, ∀ k, z.contribution = some k → (zoneEvaluation s).zoneMonitor.scale ≤ k) := by
  rw [zoneEvaluation_scale, zoneEvaluation_limiting, if_pos hv, if_pos hv]
  refine ⟨fun h => ?_, fun ⟨z, hz, ha⟩ => ?_⟩
  · rw [(leastContribution_none_iff _).2 fun z hz => (contribution_none_iff hz hv).2 (h z hz)]
    exact ⟨rfl, rfl⟩
  · cases hl : leastContribution (evaluatedZones s) with
    | none =>
      rw [(contribution_none_iff hz hv).1 ((leastContribution_none_iff _).1 hl z hz)] at ha
      cases ha
    | some p =>
      obtain ⟨n, c⟩ := p
      obtain ⟨before, y, after, hy, rfl, hc, hb, hafter⟩ := leastContribution_some _ hl
      refine ⟨⟨y, by simp [hy], hc, rfl⟩, fun x hx k hk => ?_⟩
      show c ≤ k
      rw [hy] at hx
      rcases List.mem_append.1 hx with hx | hx
      · exact (hb x hx k hk).le
      · rcases List.mem_cons.1 hx with rfl | hx
        · exact le_of_eq (Option.some.inj (hc.symm.trans hk))
        · exact hafter x hx k hk

/-- Settles O42: `evaluatedZone` measures one zone, `leastContribution` finds the limiting zone, and the zones that tell of
themselves leave the last one's detail. -/
theorem evaluationPublishesTheScale : Obligations.EvaluationPublishesTheScale := by
  refine ⟨fun s hr ho => ⟨_, exec_zoneEvaluation hr, fun n => limiting_least ho, ?_⟩, fun s hr hn =>
    ⟨_, exec_zoneEvaluation hr, ?_, fun p hp => ?_, fun hv => ?_, fun hv => ?_⟩⟩
  · dsimp only
    rw [← toldZones_eq]
    exact ⟨zoneEvaluation_untold, fun p => zoneEvaluation_told ho⟩
  · rw [zoneEvaluation_zones, evaluatedZones_eq, List.length_map]
  · rw [zoneEvaluation_zones, zip_evaluatedZones] at hp
    obtain ⟨z, -, rfl⟩ := List.mem_map.1 hp
    exact evaluatedZone_measures hn z
  · rw [zoneEvaluation_scale, zoneEvaluation_limiting, zoneEvaluation_condition, evaluatedDetail_invalid hv, hv]
    exact ⟨rfl, rfl, rfl⟩
  · rw [zoneEvaluation_zones]
    exact scale_of_valid hv

/-! ### The ZONE condition and the retreat set (R78 to R80) -/

theorem evaluatedZone_stop (hv : s.head.valid = true) {z : Zone} (hz : z ∈ evaluatedZones s) :
    z.band = .stop ↔ z.clearance.getD 0 < z.stopMargin := by
  rw [evaluatedZones_eq] at hz
  obtain ⟨y, -, rfl⟩ := List.mem_map.1 hz
  have hb : (evaluatedZone s y).band = bandOf y (zoneClearance y s.head s.config.headRadius) := if_pos hv
  have hc : (evaluatedZone s y).clearance = some (zoneClearance y s.head s.config.headRadius) := if_pos hv
  have hm : (evaluatedZone s y).stopMargin = y.stopMargin := rfl
  rw [hb, hc, hm, bandOf]
  split
  · simpa
  · split <;> simp <;> omega

/-- R78: the breach set. -/
theorem mem_evaluatedBreach (hv : s.head.valid = true) (n : Nat) : n ∈ evaluatedBreach s ↔
    (∀ r ∈ evaluatedRetreat s, r.zone ≠ n) ∧
      ∃ z ∈ evaluatedZones s, z.number = n ∧ z.active = true ∧ z.kind = .guard ∧ z.band = .stop := by
  simp only [evaluatedBreach, if_pos hv, List.mem_map, List.mem_filter, breached, Bool.and_eq_true, beq_iff_eq,
    Bool.not_eq_true', List.any_eq_false, decide_eq_true_eq]
  constructor
  · rintro ⟨z, ⟨hz, ⟨⟨ha, hk⟩, hr⟩, hc⟩, rfl⟩
    exact ⟨hr, z, hz, rfl, ha, hk, (evaluatedZone_stop hv hz).2 hc⟩
  · rintro ⟨hr, z, hz, rfl, ha, hk, hb⟩
    exact ⟨z, ⟨hz, ⟨⟨ha, hk⟩, hr⟩, (evaluatedZone_stop hv hz).1 hb⟩, rfl⟩

/-- R80, in terms of the zones as published. -/
def staysIn (zones : List Zone) (r : RetreatZone) : Bool :=
  (zones.find? fun z => z.number == r.zone).any fun z => z.active && decide (z.clearance.getD 0 < z.stopMargin)

theorem find_evaluatedZones (s : State) (n : Nat) : ((evaluatedZones s).find? fun z => z.number == n) =
    ((measuredZones s).find? fun z => z.number == n).map (contribute s (evaluatedRetreat s)) :=
  find_map_key (key := fun z : Zone => z.number) (f := contribute s (evaluatedRetreat s)) (fun _ => rfl) n

theorem leavesRetreat_eq (hv : s.head.valid = true) (r : RetreatZone) :
    (!leavesRetreat s.head.valid (measuredZones s) r) = staysIn (evaluatedZones s) r := by
  rw [staysIn, find_evaluatedZones, leavesRetreat, hv]
  cases (measuredZones s).find? fun z => z.number == r.zone with
  | none => rfl
  | some z => cases ha : z.active <;> simp [contribute, ha, ← decide_not]

theorem clearanceIn_evaluated (s : State) (n : Nat) : clearanceIn (measuredZones s) n =
    clearanceIn (evaluatedZones s) n := by
  rw [clearanceIn, clearanceIn, find_evaluatedZones]
  cases (measuredZones s).find? fun z => z.number == n <;> rfl

theorem stayingRetreat_eq (hv : s.head.valid = true) :
    stayingRetreat s = s.stops.retreatSet.filter (staysIn (evaluatedZones s)) :=
  List.filter_congr fun r _ => leavesRetreat_eq hv r

theorem evaluatedRetreat_eq (hv : s.head.valid = true) : evaluatedRetreat s =
    (s.stops.retreatSet.filter (staysIn (evaluatedZones s))).map fun r =>
      RetreatZone.mk r.zone (clearanceIn (evaluatedZones s) r.zone) := by
  rw [evaluatedRetreat, stayingRetreat_eq hv]
  refine List.map_congr_left fun r _ => ?_
  rw [followReference, if_pos hv, clearanceIn_evaluated]

/-- R79: the clearance of a zone that stays has fallen below its reference. -/
def fallenIn (s : State) (r : RetreatZone) : Prop :=
  r ∈ s.stops.retreatSet ∧ staysIn (evaluatedZones s) r = true ∧ clearanceIn (evaluatedZones s) r.zone < r.reference

theorem mem_decreasedZones (hv : s.head.valid = true) (n : Nat) :
    n ∈ decreasedZones s ↔ ∃ r, fallenIn s r ∧ r.zone = n := by
  simp [decreasedZones, stayingRetreat_eq hv, decreased, hv, fallenIn, clearanceIn_evaluated, and_assoc, and_left_comm]

theorem evaluatedDetail_of_least (hv : s.head.valid = true) {n : Nat}
    (hn : n ∈ evaluatedBreach s ∨ ∃ r, fallenIn s r ∧ r.zone = n) (hb : ∀ k ∈ evaluatedBreach s, n ≤ k)
    (hf : ∀ r, fallenIn s r → n ≤ r.zone) : leastNumber (evaluatedBreach s ++ decreasedZones s) = some n := by
  refine leastNumber_of_least ?_ fun k hk => ?_
  · rw [List.mem_append, mem_decreasedZones hv]
    exact hn
  · rcases List.mem_append.1 hk with hk | hk
    · exact hb k hk
    · obtain ⟨r, hr, rfl⟩ := (mem_decreasedZones hv k).1 hk
      exact hf r hr

theorem evaluatedRisen_none (hv : s.head.valid = true) (hb : evaluatedBreach s = []) (hf : ∀ r, ¬fallenIn s r) :
    evaluatedDetail s = none ∧ evaluatedRisen s = evaluated s := by
  have hd : decreasedZones s = [] := List.eq_nil_iff_forall_not_mem.2 fun n hn => by
    obtain ⟨r, hr, -⟩ := (mem_decreasedZones hv n).1 hn
    exact hf r hr
  have hdet : evaluatedDetail s = none := by rw [evaluatedDetail, hb, hd]; rfl
  refine ⟨hdet, ?_⟩
  rw [evaluatedRisen, hdet]

/-- R78, R95: a rise of ZONE in READY. -/
theorem evaluatedRisen_ready {n : Nat} (hn : leastNumber (evaluatedBreach s ++ decreasedZones s) = some n)
    (hz : zoneRises s = true) (hr : s.crane.state = .ready) :
    (evaluatedRisen s).crane.state = .stopping ∧ (evaluatedRisen s).stops.latches.zone ≠ none ∧
      (evaluatedRisen s).stops.retreatSet = [] ∧ (evaluatedRisen s).crane.retreat = false := by
  have he : evaluatedRisen s = rise (.zone n) (evaluated s) := by
    simp only [evaluatedRisen, evaluatedDetail, hn, Option.map_some, if_pos hz]
  have hre : (evaluated s).crane.state = .ready := hr
  obtain ⟨h1, h2⟩ := rise_clears_retreat (d := .zone n) rfl hre
  have hl : (rise (.zone n) (evaluated s)).stops.latches.zone = _ :=
    rise_latch (d := .zone n) (s := evaluated s) (by rw [hre]; rfl)
  rw [he]
  exact ⟨rise_state_of_ready rfl hre, by rw [hl]; exact nofun, h1, h2⟩

/-- R90: in PARKED, TRIPPED and PARKING the ZONE condition does not latch. -/
theorem evaluatedRisen_resting (h : s.crane.state = .parked ∨ s.crane.state = .tripped ∨ s.crane.state = .parking) :
    evaluatedRisen s = evaluated s := by
  rcases evaluatedRisen_cases s with he | ⟨n, -, -, he⟩
  · exact he
  · rw [he, rise_of_not_latches]
    exact (latches_false_iff _ _).2 ⟨rfl, h⟩

theorem sameBreach_evaluatedRisen (s : State) : SameBreach (evaluated s) (evaluatedRisen s) := by
  rcases evaluatedRisen_cases s with he | ⟨n, -, -, he⟩
  · rw [he]
    exact ⟨rfl, fun _ => ⟨rfl, rfl⟩⟩
  · rw [he]
    exact sameBreach_rise _ _

theorem zoneEvaluation_breach (s : State) : (zoneEvaluation s).stops.breachSet = evaluatedBreach s := by
  rw [(zoneEvaluation_published s).stops, (sameBreach_evaluatedRisen s).breach]
  rfl

/-- R75: while a zone stays in the retreat set the scale is at most creep. -/
theorem scale_of_retreat (hv : s.head.valid = true) (h : evaluatedRetreat s ≠ []) :
    (zoneEvaluation s).zoneMonitor.scale ≤ s.config.creep := by
  obtain ⟨r, hr⟩ := List.exists_mem_of_ne_nil _ h
  have hrs := hr
  rw [evaluatedRetreat_eq hv] at hrs
  obtain ⟨q, hq, rfl⟩ := List.mem_map.1 hrs
  obtain ⟨z, hz, hs⟩ := (Option.any_eq_true _ _).1 (List.mem_filter.1 hq).2
  have ha : z.active = true := (Bool.and_eq_true_iff.1 hs).1
  have hmem : z ∈ evaluatedZones s := List.mem_of_find?_eq_some hz
  have hnum : z.number = q.zone := by simpa using List.find?_some hz
  have hc : z.contribution = some s.config.creep := by
    rw [evaluatedZones_eq] at hmem
    obtain ⟨y, -, rfl⟩ := List.mem_map.1 hmem
    have hany : ((evaluatedRetreat s).any fun r => r.zone == (measureZone s y).number) = true :=
      List.any_eq_true.2 ⟨_, hr, beq_iff_eq.2 hnum.symm⟩
    rw [evaluatedZone, contribute]
    exact (if_pos ⟨hv, ha⟩).trans (congrArg some (by rw [hany]; rfl))
  exact ((scale_of_valid hv).2 ⟨z, hmem, ha⟩).2 z hmem _ hc

/-- Settles O43: the breach set and the zones that stay in the retreat set name the ZONE condition, whose rise in READY stops
the crane. -/
theorem breachesAndRetreat : Obligations.BreachesAndRetreat := by
  refine ⟨fun s hr hn hv => ⟨_, exec_zoneEvaluation hr, fun n => ?_, fun hb => ?_, fun n hn1 hle => ?_⟩,
    fun s hr hv => ⟨_, exec_zoneEvaluation hr, ?_⟩⟩
  · rw [zoneEvaluation_breach, zoneEvaluation_zones, mem_evaluatedBreach hv, evaluatedRetreat_nil hn]
    simp
  · rw [zoneEvaluation_breach] at hb
    have hp := zoneEvaluation_published s
    obtain ⟨hd, he⟩ := evaluatedRisen_none hv hb fun r hf => by
      have := hf.1
      simp [hn] at this
    rw [zoneEvaluation_condition, hp.crane, hp.channels, he]
    exact ⟨hd, rfl, rfl⟩
  · rw [zoneEvaluation_breach] at hn1 hle
    have hl := evaluatedDetail_of_least hv (.inl hn1) hle fun r hf => by
      have := hf.1
      simp [hn] at this
    have hp := zoneEvaluation_published s
    rw [zoneEvaluation_condition, hp.crane, hp.stops, evaluatedDetail, hl]
    refine ⟨rfl, fun hready hz => ?_, fun hrest => ?_⟩
    · obtain ⟨h1, h2, -⟩ := evaluatedRisen_ready hl (by simp [zoneRises, hz]) hready
      exact ⟨h1, h2⟩
    · rw [evaluatedRisen_resting hrest]
      exact ⟨rfl, rfl⟩
  · have hp := zoneEvaluation_published s
    have hzones := zoneEvaluation_zones s
    have hkept := evaluatedRetreat_eq hv
    dsimp only [State.findZone]
    rw [zoneEvaluation_breach, hzones, zoneEvaluation_condition]
    refine ⟨fun hc => ?_, fun hk => scale_of_retreat hv (by rw [hkept]; exact hk), fun n => ?_, fun hb hf => ?_,
      fun n h hb hf => ?_, fun r hf hready => ?_⟩
    · rw [hp.crane] at hc
      obtain ⟨h1, h2⟩ := (sameBreach_evaluatedRisen s).retreat hc
      rw [hp.stops, hp.crane, h1, h2]
      refine ⟨hkept, ?_⟩
      show (s.crane.retreat && !(evaluatedRetreat s).isEmpty) = _
      rw [hkept]
      exact congrArg (s.crane.retreat && ·) (not_isEmpty_eq _)
    · rw [mem_evaluatedBreach hv, hkept]
      exact Iff.rfl
    · obtain ⟨hd, he⟩ := evaluatedRisen_none hv hb hf
      rw [hp.crane, he]
      exact ⟨hd, rfl⟩
    · rw [evaluatedDetail, evaluatedDetail_of_least hv h hb hf]
      rfl
    · have hd : r.zone ∈ decreasedZones s := (mem_decreasedZones hv _).2 ⟨r, hf, rfl⟩
      have hrises : zoneRises s = true := by simp [zoneRises, List.ne_nil_of_mem hd]
      obtain ⟨n, hl, -⟩ := leastNumber_some (List.ne_nil_of_mem (List.mem_append_right (evaluatedBreach s) hd))
      rw [hp.crane, hp.stops]
      exact evaluatedRisen_ready hl hrises hready

end Evaluation

end Sys2Proof.Machine

/-! Resets (O60), and the requests STOP and ACK_STOP (O46, O47). -/

namespace Sys2Proof.Machine

/-! ## Resets (R44 to R49) -/

section Resets

variable (cause : ResetCause) (straps : Straps) (s : State)

theorem coldResetOf_eq : coldResetOf cause straps s = afterCold cause straps s := rfl

theorem warmReset_eq : warmReset cause straps s = afterWarm cause straps s := rfl

theorem performReset_cold : performReset false cause straps s = afterCold cause straps s := rfl

theorem performReset_warm : performReset true cause straps s =
    if s.power.retentionValid = true then afterWarm cause straps s else afterCold cause straps s := rfl

end Resets

/-- Settles O60: each reset is the cold one, over which a warm one keeps the retained records. -/
theorem resetsAreWarmOrCold : Obligations.ResetsAreWarmOrCold := by
  intro s
  refine ⟨fun hr => congrArg _ (if_pos hr), fun hm => ?_, ?_, fun ms x hm hl => ⟨fun h => ?_, fun h => ?_⟩, fun x hm => ?_,
    fun c => ?_, ?_⟩
  · have he : (s.power.retentionValid && s.power.backupOn) =
        if s.power.backupOn = true then s.power.retentionValid else false := by cases s.power.backupOn <;> simp
    show Host.Outcome.next (powerLoss s) = _
    rw [powerLoss, if_pos hm, he]
    rfl
  · have he : (s.power.retentionValid && s.power.mainOn) =
        if s.power.mainOn = true then s.power.retentionValid else false := by cases s.power.mainOn <;> simp
    show Host.Outcome.next (backupSupplyLoss s) = _
    rw [backupSupplyLoss, he]
  · show Host.Outcome.next (resetRelease ms x s) = _
    rw [resetRelease, if_pos ⟨hm, hl⟩, if_pos h, performReset_cold]
  · show Host.Outcome.next (resetRelease ms x s) = _
    rw [resetRelease, if_pos ⟨hm, hl⟩, if_neg (Nat.not_le.2 h), performReset_warm]
  · show Host.Outcome.next (powerUp x s) = _
    rw [powerUp, if_neg (by simp [hm]), performReset_warm]
    cases h : s.power.retentionValid <;> simp [h]
  · cases c <;> rfl
  · refine ⟨rfl, rfl, rfl, rfl, rfl, rfl, rfl, rfl, rfl, fun l => ?_, rfl, rfl, rfl, rfl, rfl, rfl, rfl, rfl⟩
    fin_cases l <;> rfl

/-! ## STOP (R89, R90, R95, R97) -/

section Stopping

variable {d : CauseDetail} {s : State}

theorem restFor_of_ne_link (h : causeOf d ≠ .link) (s : State) : restFor d s = s := if_neg h

/-- R38, R97: a category B rise in ARMING, other than LINK's. -/
theorem rise_of_arming (hb : categoryA (causeOf d) = false) (hl : causeOf d ≠ .link) (ha : s.crane.state = .arming) :
    rise d s = entryBArming (latchCause d s) := by
  have h := rise_risen d s
  revert h
  generalize rise d s = t
  intro h
  cases h with
  | ignored _ state => simp [ha] at state
  | trips a => simp [hb] at a
  | stops _ ready => simp [ha] at ready
  | parks => rw [restFor_of_ne_link hl]
  | stays _ state => simp [ha] at state
  | latched state => simp [ha] at state

/-- R97: a category B rise in PARKED or PARKING, other than LINK's and ZONE's. -/
theorem rise_of_resting (hb : categoryA (causeOf d) = false) (hl : causeOf d ≠ .link) (hz : causeOf d ≠ .zone)
    (hs : s.crane.state = .parked ∨ s.crane.state = .parking) : Noticed (stopLiveHead (latchCause d s)) (rise d s) := by
  have h := rise_risen d s
  revert h
  generalize rise d s = t
  intro h
  cases h with
  | ignored zone => exact absurd zone hz
  | trips a => simp [hb] at a
  | stops _ ready => simp [ready] at hs
  | parks _ arming => simp [arming] at hs
  | stays _ _ _ told => rw [restFor_of_ne_link hl] at told; exact told
  | latched state => rcases hs with hs | hs <;> simp [hs] at state

/-- R95: a category B rise in STOPPING, HALTED or TRIPPED latches alone. -/
theorem rise_of_stopped (hb : categoryA (causeOf d) = false) (hl : causeOf d ≠ .link) (hz : causeOf d ≠ .zone)
    (hs : s.crane.state = .stopping ∨ s.crane.state = .halted ∨ s.crane.state = .tripped) :
    Noticed (latchCause d s) (rise d s) := by
  have h := rise_risen d s
  revert h
  generalize rise d s = t
  intro h
  cases h with
  | ignored zone => exact absurd zone hz
  | trips a => simp [hb] at a
  | stops _ ready => simp [ready] at hs
  | parks _ arming => simp [arming] at hs
  | stays _ state => rcases state with h | h <;> simp [h] at hs
  | latched _ _ told => rw [restFor_of_ne_link hl] at told; exact told

theorem Noticed.chan {u t : State} (h : Noticed u t) (c : Chan) : t.chan c = u.chan c := by
  obtain rfl | rfl := h <;> simp

theorem stopChannel_eq (r : Channel) : stopChannel r = stoppedRecord r := by
  unfold stopChannel stoppedRecord releasedRecord
  split <;> rfl

theorem rise_request_latches (o : Origin) (s : State) : (rise (.request o) s).stops.latches =
      { s.stops.latches with request := some (s.stops.latches.request.getD (.request o)) } ∧
    (rise (.request o) s).stops.first = if noneLatched s.stops.latches = true then some (.request o) else s.stops.first := by
  have hr := rise_latched (d := .request o) (s := s) (latches_of_ne_zone (d := .request o) nofun _)
  rw [hr.latches, hr.first]
  cases hl : s.stops.latches.request with
  | none =>
    have hc : latchCause (.request o) s = _ := if_neg (by
      show ¬s.stops.latches.request.isSome = true
      simp [hl])
    rw [hc]
    exact ⟨rfl, rfl⟩
  | some x =>
    have hs : s.stops.latches.request.isSome = true := by rw [hl]; rfl
    have hc : latchCause (.request o) s = s := if_pos hs
    have hn : noneLatched s.stops.latches = false := noneLatched_false_iff.2 ⟨.request, by show s.stops.latches.request ≠ none; simp [hl]⟩
    rw [hc, hn]
    refine ⟨?_, rfl⟩
    show s.stops.latches = { s.stops.latches with request := some x }
    rw [← hl]

/-- R95: what a category B rise other than LINK's does to a crane in READY. -/
theorem rise_ready (hb : categoryA (causeOf d) = false) (hl : causeOf d ≠ .link) (hr : s.crane.state = .ready) :
    let t := rise d s
    t.crane.state = .stopping ∧ t.crane.retreat = false ∧ t.stops.retreatSet = [] ∧
      t.stops.deadlineTimer = some ⟨0, s.config.stopDeadline⟩ ∧ t.engine.take = none ∧
      (∀ c, isLens c = false → t.chan c = stoppedRecord (s.chan c)) ∧
      ∀ c, isLens c = true → (s.chan c).owner ≠ .take → t.chan c = s.chan c := by
  intro t
  obtain ⟨h1, h2⟩ := rise_clears_retreat hb hr
  refine ⟨rise_state_of_ready hb hr, h2, h1, ?_⟩
  have ht : t = entryBReady (latchCause d s) :=
    (rise_of_ready hb hr).trans (congrArg entryBReady (restFor_of_ne_link hl _))
  have hcfg : (latchCause d s).config = s.config := (settled_eq_iff.1 (latchCause_settled s d)).1
  rw [ht]
  refine ⟨?_, ?_, fun c hc => ?_, fun c hc ho => ?_⟩
  · rw [← hcfg, entryBReady, enterCrane_stops]
    have hset (f : Chan → Channel → Channel) (u : State) :
        (endTake .stopped (interruptMoves isBody (mapChannels u f))).config = u.config :=
      (settled_eq_iff.1 ((endTake_settled ..).trans ((interruptMoves_settled ..).trans (mapChannels_settled ..)))).1
    exact congrArg (fun g : ConfigItems => some (RunningTimer.mk 0 g.stopDeadline)) (hset _ _)
  · rw [entryBReady, enterCrane_engine]
    exact endTake_take _ _
  · rw [chan_entryBReady, if_pos (by simp [isBody, hc]), stopChannel_eq]
    simp
  · rw [chan_entryBReady, if_neg (by simp [isBody, hc]), if_neg (by simpa using ho)]
    simp

/-- R89: the acceptance of STOP from either origin. -/
theorem exec_stop_origin (hr : s.canReceive = true) (o : Origin) : ∃ t, exec (.stop o) s = .next t ∧
    (o = .unit → Replied (.stop o) s t .ok []) ∧ (o = .broadcast → t.link.receiver = .unaddressed) ∧
    t = { rise (.request o) (serveSupervision s) with link := t.link } := by
  cases o with
  | unit =>
    have h := replied_of_taken hr (i := .stop .unit) (f := requestStop .unit) rfl rfl
    exact ⟨_, h.1, fun _ => h, nofun, rfl⟩
  | broadcast =>
    have h : exec (.stop .broadcast) s = _ :=
      congrArg Host.Outcome.next (acceptBroadcast_of_canReceive s [0x20#8] (requestStop .broadcast) hr)
    exact ⟨_, h, nofun, fun _ => rfl, rfl⟩

/-- Settles O46: the rise of REQUEST in each crane state. -/
theorem stopBeginsStopping : Obligations.StopBeginsStopping := by
  intro s o hr
  obtain ⟨t, he, hunit, hbroad, ht⟩ := exec_stop_origin hr o
  set v := serveSupervision s with hv
  have hcrane : v.crane = s.crane := rfl
  obtain ⟨hl, hf⟩ := rise_request_latches o v
  refine ⟨t, he, hunit, hbroad, ?_⟩
  rw [ht]
  refine ⟨hl, hf, rise_ready (d := .request o) (s := v) rfl nofun, fun ha => ?_, fun h1 h2 => ?_, fun hp c => ?_, fun hp => ?_⟩
  · have hu : rise (.request o) v = entryBArming (latchCause (.request o) v) := rise_of_arming rfl (show Cause.request ≠ Cause.link by decide) ha
    show (rise (.request o) v).crane.state = _ ∧ (rise (.request o) v).crane.sequence = _ ∧
      (rise (.request o) v).crane.slotTimer = _
    rw [hu]
    refine ⟨entryBArming_state _, ?_, ?_⟩
    · rw [entryBArming, enterCrane_crane]; rfl
    · rw [entryBArming, enterCrane_crane]; rfl
  · have hstays : (rise (.request o) v).crane = v.crane := by
      by_cases hp : s.crane.state = .parked ∨ s.crane.state = .parking
      · rw [(rise_of_resting (d := .request o) (s := v) rfl nofun nofun hp).crane]
        simp [stopLiveHead]
      · have hp : s.crane.state = .stopping ∨ s.crane.state = .halted ∨ s.crane.state = .tripped := by
          cases h : s.crane.state <;> simp [h] at h1 h2 hp ⊢
        rw [(rise_of_stopped (d := .request o) (s := v) rfl nofun nofun hp).crane]
        simp
    exact hstays
  · have hn := (rise_of_resting (d := .request o) (s := v) rfl nofun nofun hp).chan c
    refine hn.trans ?_
    have hchan : (latchCause (.request o) v).chan c = s.chan c := congrFun (congrArg _ (latchCause_channels ..)) c
    have hlive : liveHead (latchCause (.request o) v) c = true ↔
        isHead c = true ∧ (s.cfg c).keepActive = true ∧ (s.chan c).drive = .active := by
      have hcfg : (latchCause (.request o) v).config = s.config := (settled_eq_iff.1 (latchCause_settled v _)).1
      simp only [liveHead, hchan, State.cfg, hcfg, Bool.and_eq_true, beq_iff_eq, and_assoc]
    rw [chan_stopLiveHead, stopChannel_eq, hchan]
    simp only [hlive]
  · rcases rise_of_stopped (d := .request o) (s := v) rfl nofun nofun hp with h | h
    · rw [h]
      exact ⟨latchCause_channels .., latchCause_moves .., latchCause_engine ..⟩
    · rw [h]
      exact ⟨by simp; rfl, by simp; rfl, by simp; rfl⟩

end Stopping

/-! ## ACK_STOP (R100 to R102) -/

section Acknowledging

variable {s : State}

/-- R102: the inhibits of a record after the acknowledgement of these overtravel lines. -/
def inhibitedBy (lines : List (Fin 8)) (s : State) (c : Chan) (r : Channel) : Channel :=
  { r with
    inhibitMinus := r.inhibitMinus || lines.any fun i =>
      (s.stops.overtravel.get i).filtered && !overtravelPlus i && overtravelChan i == c
    inhibitPlus := r.inhibitPlus || lines.any fun i =>
      (s.stops.overtravel.get i).filtered && overtravelPlus i && overtravelChan i == c }

/-- R102: one overtravel line. -/
def setInhibit (s : State) (i : Fin 8) : State :=
  if (s.stops.overtravel.get i).filtered then
    let c := overtravelChan i
    let r := s.chan c
    s.setChan c (if overtravelPlus i then { r with inhibitPlus := true } else { r with inhibitMinus := true })
  else s

theorem setInhibits_fold (s : State) : setInhibits s = allOvertravel.foldl setInhibit s := rfl

theorem setInhibit_stops (s : State) (i : Fin 8) : (setInhibit s i).stops = s.stops := by
  unfold setInhibit
  split <;> rfl

theorem chan_setInhibit (s : State) (i : Fin 8) (c : Chan) :
    (setInhibit s i).chan c = inhibitedBy [i] s c (s.chan c) := by
  unfold setInhibit inhibitedBy
  cases hf : (s.stops.overtravel.get i).filtered with
  | false => simp [hf]
  | true =>
    by_cases hc : overtravelChan i = c
    · subst hc
      cases hp : overtravelPlus i <;> simp [hf, hp]
    · have hb : (overtravelChan i == c) = false := beq_eq_false_iff_ne.2 hc
      simp [hf, hb, Ne.symm hc]

theorem chan_foldl_setInhibit (lines : List (Fin 8)) (s : State) (c : Chan) :
    (lines.foldl setInhibit s).chan c = inhibitedBy lines s c (s.chan c) := by
  induction lines generalizing s with
  | nil => simp [inhibitedBy]
  | cons i lines ih =>
    rw [List.foldl_cons, ih, chan_setInhibit]
    simp [inhibitedBy, setInhibit_stops, Bool.or_assoc]

theorem chan_setInhibits_eq (s : State) (c : Chan) :
    (setInhibits s).chan c = inhibitedBy allOvertravel s c (s.chan c) := chan_foldl_setInhibit ..

theorem requestAckStop_state (h : s.crane.state ∈ [CraneState.ready, .arming, .stopping, .parking]) :
    requestAckStop s = refuse s .state := by
  unfold requestAckStop
  cases hs : s.crane.state <;> simp [hs] at h ⊢

theorem requestAckStop_halted (h : s.crane.state = .halted) : requestAckStop s =
    accept (enterCrane .ready .none (clearLatches { s with
      stops := { s.stops with retreatSet := buildRetreat s }
      crane := { s.crane with retreat := !(buildRetreat s).isEmpty } })) [] := by
  unfold requestAckStop
  rw [h]

theorem requestAckStop_tripped (h : s.crane.state = .tripped) : requestAckStop s =
    if ackBlocked s then refuse s .causeActive
    else accept (enterCrane .parked .none (setInhibits (clearLatches s))) [] := by
  unfold requestAckStop
  rw [h]

theorem requestAckStop_parked (h : s.crane.state = .parked) : requestAckStop s =
    accept (raiseState ⟨.parked, none, .none⟩ (setInhibits (clearLatches s))) [] := by
  unfold requestAckStop
  rw [h]

theorem ackBlocked_iff : ackBlocked s = true ↔
    s.stops.conditions.estop ≠ none ∨ ∃ c, (s.chan c).faultPresent = true := by
  simp [ackBlocked, Option.isSome_iff_ne_none, mem_allChans]

theorem ackBlocked_false (h : s.stops.conditions.estop = none) (hf : ∀ c, (s.chan c).faultPresent = false) :
    ackBlocked s = false := by
  rw [← Bool.not_eq_true, ackBlocked_iff]
  rintro (he | ⟨c, hc⟩)
  · exact he h
  · simp [hf c] at hc

theorem buildRetreat_eq (s : State) : buildRetreat s =
    if s.stops.conditions.zone = none then [] else s.stops.breachSet.map fun n =>
      ⟨n, ((s.findZone n).bind (·.clearance)).getD 0⟩ := by
  unfold buildRetreat
  cases s.stops.conditions.zone <;> simp

/-- R102: the acknowledgement that leaves the crane in PARKED. -/
theorem ackStop_parked (hr : s.canReceive = true) {w : State}
    (hf : requestAckStop (serveSupervision s) = accept w [])
    (hw : w = { withTimerOf (setInhibits (clearLatches (serveSupervision s))) w with
      crane := { s.crane with state := .parked }
      notices := stateNotice ⟨.parked, none, .none⟩ s.notices }) : ∃ t, Replied .ackStop s t .ok [] ∧
      t = { servedBy s t with
        crane := { s.crane with state := .parked }
        stops := { (servedBy s t).stops with latches := noCauses, first := none }
        channels := t.channels
        notices := stateNotice ⟨.parked, none, .none⟩ s.notices } ∧
      ∀ c, t.chan c = inhibitedBy allOvertravel s c (s.chan c) := by
  refine ⟨_, replied_of_taken hr (f := requestAckStop) rfl hf, ?_, fun c => ?_⟩
  · rw [hw, setInhibits_frame, serveSupervision_eq]
    rfl
  · show w.chan c = _
    rw [hw]
    exact chan_setInhibits_eq _ c

theorem acknowledged_frame (s : State) : (setInhibits (clearLatches s)).crane = s.crane ∧
    (setInhibits (clearLatches s)).notices = s.notices ∧ (setInhibits (clearLatches s)).stops.first = none := by
  rw [setInhibits_frame]
  exact ⟨rfl, rfl, rfl⟩

/-- Settles O47: ACK_STOP by the crane state. -/
theorem ackStopClearsTheLatches : Obligations.AckStopClearsTheLatches := by
  intro s hr
  obtain ⟨hcrane, hnotices, hfirst⟩ := acknowledged_frame (serveSupervision s)
  refine ⟨fun h => refusedWith_of_accepted hr (f := requestAckStop) rfl (requestAckStop_state h), fun h hb => ?_,
    fun h => ?_, ?_⟩
  · refine refusedWith_of_accepted hr (f := requestAckStop) rfl ?_
    exact (requestAckStop_tripped (s := serveSupervision s) h).trans (if_pos (ackBlocked_iff.2 hb))
  · have hne : (serveSupervision s).crane.state ≠ .ready := by
      show s.crane.state ≠ .ready
      simp [h]
    refine ⟨_, replied_of_taken hr (f := requestAckStop) rfl (requestAckStop_halted (s := serveSupervision s) h), ?_, ?_⟩
    · rw [enterCrane_eq, enteredStops_of_ne]
      · exact buildRetreat_eq (serveSupervision s)
      · exact hne
    · rw [enterCrane_eq, enteredStops_of_ne, enteredCrane_of_ne, ← not_isEmpty_eq, serveSupervision_eq]
      · rfl
      · exact hne
      · exact hne
  · rintro (h | ⟨h, he, hf⟩)
    · refine ackStop_parked hr (requestAckStop_parked (s := serveSupervision s) h) ?_
      refine (raiseState_eq _ _).trans ?_
      have hc : { s.crane with state := .parked } = (setInhibits (clearLatches (serveSupervision s))).crane := by
        rw [hcrane, ← h]
        rfl
      rw [hnotices, hc]
      rfl
    · have ha := (requestAckStop_tripped (s := serveSupervision s) h).trans
        (if_neg (by rw [ackBlocked_false (s := serveSupervision s) he hf]; exact nofun))
      refine ackStop_parked hr ha ?_
      have hne : (setInhibits (clearLatches (serveSupervision s))).crane.state ≠ .ready := by
        rw [hcrane]
        show s.crane.state ≠ .ready
        simp [h]
      refine (enterCrane_eq _ _ _).trans ?_
      rw [enteredStops_of_ne _ hne, enteredCrane_of_ne _ hne, hnotices, hcrane, hfirst]
      rfl

end Acknowledging

end Sys2Proof.Machine

/-! An input sample stage by stage: the filters and INPUT, FRAME present, the contacts, the causes that rise (R83 to R88, R99). -/

namespace Sys2Proof.Machine

variable {s t u v w : State} {x : SafetySample}

/-! ## What a rise leaves of the Stop Monitor -/

/-- The inputs of the Stop Monitor: filters, FRAME present and the discrepancy record. -/
def StopRecord.sensors (r : StopRecord) :=
  (r.estop1, r.estop2, r.grip, r.overtravel, r.frame, r.discrepancyTimer, r.discrepancy, r.bothOpenSeen)

theorem sensors_eq_iff {q r : StopRecord} : StopRecord.sensors r = StopRecord.sensors q ↔
    r.estop1 = q.estop1 ∧ r.estop2 = q.estop2 ∧ r.grip = q.grip ∧ r.overtravel = q.overtravel ∧ r.frame = q.frame ∧
      r.discrepancyTimer = q.discrepancyTimer ∧ r.discrepancy = q.discrepancy ∧ r.bothOpenSeen = q.bothOpenSeen := by
  simp [StopRecord.sensors, Prod.ext_iff]

theorem latchCause_sensors (d : CauseDetail) (s : State) :
    StopRecord.sensors (latchCause d s).stops = StopRecord.sensors s.stops := by
  unfold latchCause
  split <;> rfl

theorem latchCause_deadlineTimer (d : CauseDetail) (s : State) :
    (latchCause d s).stops.deadlineTimer = s.stops.deadlineTimer := by
  unfold latchCause
  split <;> rfl

theorem enterCrane_sensors (st : CraneState) (e : StateExtra) (s : State) :
    StopRecord.sensors (enterCrane st e s).stops = StopRecord.sensors s.stops := by
  rw [enterCrane_stops]
  rfl

theorem rise_sensors (d : CauseDetail) (s : State) : StopRecord.sensors (rise d s).stops = StopRecord.sensors s.stops := by
  have hl := latchCause_sensors d s
  have hr := rise_risen d s
  generalize rise d s = t at hr
  cases hr with
  | ignored => rfl
  | trips =>
    refine (enterCrane_sensors _ _ _).trans (Eq.trans ?_ hl)
    simp [StopRecord.sensors]
  | stops =>
    refine (enterCrane_sensors _ _ _).trans (Eq.trans ?_ hl)
    simp [StopRecord.sensors]
  | parks =>
    refine (enterCrane_sensors _ _ _).trans (Eq.trans ?_ hl)
    simp [StopRecord.sensors, stopLiveHead, startParkingSlot]
  | stays _ _ _ told => rw [told.stops]; simpa [stopLiveHead] using hl
  | latched _ _ told => rw [told.stops]; simpa using hl

/-- R93, R95: the deadline timer changes with the crane state alone. -/
theorem rise_deadlineTimer {d : CauseDetail} (h : (rise d s).crane.state = s.crane.state) :
    (rise d s).stops.deadlineTimer = s.stops.deadlineTimer := by
  have hl := latchCause_deadlineTimer d s
  have hr := rise_risen d s
  generalize rise d s = t at hr h
  cases hr with
  | ignored => rfl
  | trips _ on => exact absurd (h.symm.trans (entryA_state _)) on
  | stops _ ready => rw [entryBReady_state, ready] at h; cases h
  | parks _ arming => rw [entryBArming_state, arming] at h; cases h
  | stays _ _ _ told => rw [told.stops]; simpa [stopLiveHead] using hl
  | latched _ _ told => rw [told.stops]; simpa using hl

theorem rise_latch_other {d : CauseDetail} {k : Cause} (h : k ≠ causeOf d) (s : State) :
    getCause (rise d s).stops.latches k = getCause s.stops.latches k := by
  cases hl : latches d s.crane.state with
  | false => rw [rise_of_not_latches s d hl]
  | true =>
    rw [(rise_latched hl).latches]
    unfold latchCause
    split
    · rfl
    · exact (getCause_setCause ..).trans (if_neg h)

theorem rise_tripped (d : CauseDetail) (h : s.crane.state = .tripped) : (rise d s).crane.state = .tripped := by
  rcases risenState_rise (a := .tripped) d (.inl h) with h | h | ⟨h, -⟩ | ⟨h, -⟩
  · exact h
  · exact h
  · cases h
  · cases h

/-! ## The stages -/

theorem mem_allOvertravel (i : Fin 8) : i ∈ allOvertravel := by fin_cases i <;> decide

theorem mem_allSafetyLines (l : SafetyLine) : l ∈ allSafetyLines := by
  cases l with
  | overtravel i => exact List.mem_append_right _ (List.mem_map_of_mem (mem_allOvertravel i))
  | estop1 => decide
  | estop2 => decide
  | grip => decide

theorem getFilter_setFilter (r : StopRecord) (l m : SafetyLine) (f : LineFilter) :
    getFilter (setFilter r l f) m = if m = l then f else getFilter r m := by
  cases l <;> cases m <;> simp [getFilter, setFilter]

theorem getFilter_of_sensors {q r : StopRecord} (h : StopRecord.sensors r = StopRecord.sensors q) (l : SafetyLine) :
    getFilter r l = getFilter q l := by
  obtain ⟨h1, h2, h3, h4, -⟩ := sensors_eq_iff.1 h
  cases l <;> simp [getFilter, h1, h2, h3, h4]

theorem changeFlags_eq (hp : t.presence = s.presence) (hf : t.stops.frame.changed = s.stops.frame.changed)
    (hl : ∀ l, (getFilter t.stops l).changed = (getFilter s.stops l).changed) : changeFlags t = changeFlags s := by
  have h1 : t.stops.estop1.changed = s.stops.estop1.changed := hl .estop1
  have h2 : t.stops.estop2.changed = s.stops.estop2.changed := hl .estop2
  have h3 : t.stops.grip.changed = s.stops.grip.changed := hl .grip
  have h4 : ∀ i, (t.stops.overtravel.get i).changed = (s.stops.overtravel.get i).changed := fun i => hl (.overtravel i)
  simp only [changeFlags, hp, hf, h1, h2, h3, h4]

/-! ### The filters (R63, R83) -/

/-- R83: the filter of line l after a sample. -/
def sampledFilter (x : SafetySample) (r : StopRecord) (l : SafetyLine) : LineFilter :=
  filterSample (getFilter r l) (sampleOf x l)

/-- The sample makes no difference to the filtered state of l. -/
def lineKept (x : SafetySample) (r : StopRecord) (l : SafetyLine) : Prop :=
  (sampledFilter x r l).filtered = (getFilter r l).filtered

theorem sampleSafetyLine_kept {l : SafetyLine} (h : lineKept x s.stops l) :
    sampleSafetyLine x l s = { s with stops := setFilter s.stops l (sampledFilter x s.stops l) } := if_neg (not_not.2 h)

theorem sampleSafetyLine_turned {l : SafetyLine} (h : ¬lineKept x s.stops l) :
    sampleSafetyLine x l s = raiseInput { s with stops := setFilter s.stops l (sampledFilter x s.stops l) } := if_pos h

theorem sampleSafetyLine_frame (x : SafetySample) (l : SafetyLine) (s : State) : sampleSafetyLine x l s =
    { s with stops := setFilter s.stops l (sampledFilter x s.stops l), notices := (sampleSafetyLine x l s).notices } := by
  by_cases h : lineKept x s.stops l
  · rw [sampleSafetyLine_kept h]
  · rw [sampleSafetyLine_turned h]
    rfl

theorem changed_of_lineKept {r : StopRecord} {l : SafetyLine} (h : lineKept x r l) :
    (sampledFilter x r l).changed = (getFilter r l).changed := by
  have hm : majority (getFilter r l).mid (getFilter r l).new (sampleOf x l) = (getFilter r l).filtered := h
  show ((getFilter r l).changed || majority _ _ _ != (getFilter r l).filtered) = _
  rw [hm, bne_self_eq_false, Bool.or_false]

/-- The Stop Monitor's record r with the filters of q. -/
def withFilters (r q : StopRecord) : StopRecord :=
  { r with estop1 := q.estop1, estop2 := q.estop2, grip := q.grip, overtravel := q.overtravel }

theorem setFilter_eq (r : StopRecord) (l : SafetyLine) (f : LineFilter) :
    setFilter r l f = withFilters r (setFilter r l f) := by cases l <;> rfl

/-- What the samples of these lines make of s: each of them has its sample, and INPUT tells of the change flags if one of
them turned. -/
structure SafetySampled (x : SafetySample) (ls : List SafetyLine) (s t : State) : Prop where
  frame : t = { s with stops := withFilters s.stops t.stops, notices := t.notices }
  line : ∀ l, getFilter t.stops l = if l ∈ ls then sampledFilter x s.stops l else getFilter s.stops l
  kept : (∀ l ∈ ls, lineKept x s.stops l) → t.notices = s.notices
  turned : (∃ l ∈ ls, ¬lineKept x s.stops l) → t.notices.input.detail = some (changeFlags t)

theorem safetySampled_foldl (ls : List SafetyLine) (hn : ls.Nodup) (s : State) :
    SafetySampled x ls s (ls.foldl (fun s l => sampleSafetyLine x l s) s) := by
  induction ls generalizing s with
  | nil => exact ⟨rfl, fun _ => rfl, fun _ => rfl, nofun⟩
  | cons i ls ih =>
    obtain ⟨hi, hn⟩ := List.nodup_cons.1 hn
    rw [List.foldl_cons]
    set u := sampleSafetyLine x i s with hu
    have ht := ih hn u
    set t := ls.foldl (fun s l => sampleSafetyLine x l s) u
    have hus : u.stops = setFilter s.stops i (sampledFilter x s.stops i) := by rw [hu, sampleSafetyLine_frame]
    have hget (j : SafetyLine) : getFilter u.stops j =
        if j = i then sampledFilter x s.stops i else getFilter s.stops j := by rw [hus, getFilter_setFilter]
    have hne {j : SafetyLine} (hj : j ∈ ls) : j ≠ i := fun e => hi (e ▸ hj)
    have hsample (j : SafetyLine) (hj : j ≠ i) : sampledFilter x u.stops j = sampledFilter x s.stops j := by
      rw [sampledFilter, sampledFilter, hget, if_neg hj]
    have hkept (j : SafetyLine) (hj : j ∈ ls) : lineKept x u.stops j ↔ lineKept x s.stops j := by
      rw [lineKept, lineKept, hsample j (hne hj), hget, if_neg (hne hj)]
    refine ⟨?_, fun j => ?_, fun h => ?_, fun h => ?_⟩
    · rw [ht.frame, hus, hu, sampleSafetyLine_frame, setFilter_eq]
      rfl
    · rw [ht.line]
      by_cases hj : j = i
      · subst hj
        rw [if_neg hi, if_pos (List.mem_cons_self ..), hget, if_pos rfl]
      · simp only [hsample j hj, hget, hj, List.mem_cons, false_or, if_false]
    · rw [ht.kept fun l hl => (hkept l hl).2 (h l (List.mem_cons_of_mem _ hl)), hu,
        sampleSafetyLine_kept (h i (List.mem_cons_self ..))]
    · by_cases htail : ∃ l ∈ ls, ¬lineKept x u.stops l
      · exact ht.turned htail
      · have hall : ∀ l ∈ ls, lineKept x u.stops l := fun l hl => not_not.1 fun hk => htail ⟨l, hl, hk⟩
        have hturned : ¬lineKept x s.stops i := by
          obtain ⟨l, hl, hk⟩ := h
          rcases List.mem_cons.1 hl with rfl | hl
          · exact hk
          · exact absurd ((hkept l hl).1 (hall l hl)) hk
        have hflags : changeFlags t = changeFlags u := by
          refine changeFlags_eq (by rw [ht.frame]) (by rw [ht.frame]; rfl) fun l => ?_
          rw [ht.line]
          split
          next hl => exact changed_of_lineKept (hall l hl)
          · rfl
        rw [ht.kept hall, hflags, hu, sampleSafetyLine_turned hturned]
        rfl

theorem sampleSafety_sampled (x : SafetySample) (s : State) : SafetySampled x allSafetyLines s (sampleSafety x s) :=
  safetySampled_foldl _ (by decide) s

theorem sampleSafety_filter (x : SafetySample) (s : State) (l : SafetyLine) :
    getFilter (sampleSafety x s).stops l = sampledFilter x s.stops l :=
  ((sampleSafety_sampled x s).line l).trans (if_pos (mem_allSafetyLines l))

/-! ### FRAME present and the deadline (R83, R99) -/

/-- FRAME present lapses at this sample. -/
def frameLapses (s : State) : Prop := s.stops.frame.present = true ∧ 250 ≤ s.stops.frame.age + 1

theorem stepFrame_lapses (h : frameLapses s) :
    stepFrame s = raiseInput { s with stops := { s.stops with frame := ⟨false, true, 0⟩ } } := by
  simp [stepFrame, h.1, Nat.not_lt.2 h.2]

/-- R83: the frame record after a sample that it does not lapse at. -/
theorem stepFrame_stays (h : ¬frameLapses s) : ∃ n, stepFrame s =
    { s with stops := { s.stops with frame := { s.stops.frame with age := n } } } := by
  cases hp : s.stops.frame.present with
  | false => exact ⟨s.stops.frame.age, stepFrame_absent s hp⟩
  | true => exact ⟨_, stepFrame_running s hp (Nat.not_le.1 fun ha => h ⟨hp, ha⟩)⟩

theorem stepDeadline_cases (s : State) : (∃ n, stepDeadline s = { s with stops := { s.stops with deadlineTimer := n } } ∧
      (s.crane.state ≠ .stopping → n = s.stops.deadlineTimer)) ∨
    (s.crane.state = .stopping ∧
      stepDeadline s = rise .deadline { s with stops := { s.stops with deadlineTimer := none } }) := by
  unfold stepDeadline
  split
  · exact .inl ⟨s.stops.deadlineTimer, rfl, fun _ => rfl⟩
  · split
    · exact .inl ⟨s.stops.deadlineTimer, rfl, fun _ => rfl⟩
    next hst =>
      split
      · exact .inl ⟨_, rfl, fun h => absurd h hst⟩
      · exact .inr ⟨not_not.1 hst, rfl⟩

/-- What the deadline's step leaves for the rest of a sample. -/
structure DeadlineStep (s u : State) : Prop where
  sensors : StopRecord.sensors u.stops = StopRecord.sensors s.stops
  conditions : u.stops.conditions = s.stops.conditions
  presence : u.presence = s.presence
  input : u.notices.input = s.notices.input
  latch : ∀ k, k ≠ .deadline → getCause u.stops.latches k = getCause s.stops.latches k

theorem stepDeadline_step (s : State) : DeadlineStep s (stepDeadline s) := by
  rcases stepDeadline_cases s with ⟨n, h, -⟩ | ⟨-, h⟩
  · rw [h]
    exact ⟨rfl, rfl, rfl, rfl, fun _ _ => rfl⟩
  · rw [h]
    obtain ⟨-, -, -, -, hp, -⟩ := settled_eq_iff.1
      (rise_settled { s with stops := { s.stops with deadlineTimer := none } } .deadline)
    exact ⟨rise_sensors _ _, rise_conditions _ _, hp, (sameSensors_rise _ _).input, fun k hk => rise_latch_other hk _⟩

/-! ### The lines and FRAME (R83) -/

/-- s with the deadline stepped, the lines sampled and FRAME present stepped. -/
def sensed (x : SafetySample) (s : State) : State := stepFrame (sampleSafety x (stepDeadline s))

theorem sampleSafety_frame (x : SafetySample) (s : State) : ∃ q n, sampleSafety x s =
    { s with stops := withFilters s.stops q, notices := n } := ⟨_, _, (sampleSafety_sampled x s).frame⟩

/-- What the sampling of the lines leaves of the stop record of u. -/
theorem stepFrame_fields (u : State) : ∃ f n, stepFrame u = { u with stops := { u.stops with frame := f }, notices := n } := by
  by_cases h : frameLapses u
  · exact ⟨_, _, stepFrame_lapses h⟩
  · obtain ⟨n, he⟩ := stepFrame_stays h
    exact ⟨_, _, he⟩

theorem sensed_fields (x : SafetySample) (s : State) : ∃ q f n, sensed x s = { stepDeadline s with
    stops := { withFilters (stepDeadline s).stops q with frame := f }, notices := n } := by
  obtain ⟨q, m, h⟩ := sampleSafety_frame x (stepDeadline s)
  obtain ⟨f, n, hf⟩ := stepFrame_fields (sampleSafety x (stepDeadline s))
  exact ⟨q, f, n, by rw [sensed, hf, h]⟩

theorem getFilter_stepFrame (u : State) (l : SafetyLine) : getFilter (stepFrame u).stops l = getFilter u.stops l := by
  obtain ⟨f, n, h⟩ := stepFrame_fields u
  rw [h]
  cases l <;> rfl

theorem sensed_filter (x : SafetySample) (s : State) (l : SafetyLine) :
    getFilter (sensed x s).stops l = sampledFilter x s.stops l := by
  rw [sensed, getFilter_stepFrame, sampleSafety_filter, sampledFilter, sampledFilter,
    getFilter_of_sensors (stepDeadline_step s).sensors]

theorem stepDeadline_frame (s : State) : (stepDeadline s).stops.frame = s.stops.frame := by
  obtain ⟨-, -, -, -, h, -⟩ := sensors_eq_iff.1 (stepDeadline_step s).sensors
  exact h

theorem sampleSafety_framePresence (x : SafetySample) (s : State) : (sampleSafety x s).stops.frame = s.stops.frame := by
  rw [(sampleSafety_sampled x s).frame]
  rfl

theorem frameLapses_sampled (x : SafetySample) (s : State) :
    frameLapses (sampleSafety x (stepDeadline s)) ↔ frameLapses s := by
  rw [frameLapses, frameLapses, sampleSafety_framePresence, stepDeadline_frame]

theorem sensed_lapse (h : frameLapses s) : (sensed x s).stops.frame = ⟨false, true, 0⟩ := by
  rw [sensed, stepFrame_lapses ((frameLapses_sampled x s).2 h)]
  rfl

/-- R83: FRAME present and its change flag where it does not lapse. -/
theorem sensed_frame (h : ¬frameLapses s) :
    (sensed x s).stops.frame.present = s.stops.frame.present ∧ (sensed x s).stops.frame.changed = s.stops.frame.changed := by
  obtain ⟨n, he⟩ := stepFrame_stays fun hl => h ((frameLapses_sampled x s).1 hl)
  rw [sensed, he]
  show (sampleSafety x (stepDeadline s)).stops.frame.present = _ ∧ (sampleSafety x (stepDeadline s)).stops.frame.changed = _
  rw [sampleSafety_framePresence, stepDeadline_frame]
  exact ⟨rfl, rfl⟩

theorem sensed_frame_running (hp : s.stops.frame.present = true) (ha : s.stops.frame.age + 1 < 250) :
    (sensed x s).stops.frame = { s.stops.frame with age := s.stops.frame.age + 1 } := by
  have hf : (sampleSafety x (stepDeadline s)).stops.frame = s.stops.frame :=
    (sampleSafety_framePresence x _).trans (stepDeadline_frame s)
  rw [sensed, stepFrame_running _ (by rw [hf]; exact hp) (by rw [hf]; exact ha), hf]

theorem sensed_frame_absent (hp : s.stops.frame.present = false) : (sensed x s).stops.frame = s.stops.frame := by
  have hf : (sampleSafety x (stepDeadline s)).stops.frame = s.stops.frame :=
    (sampleSafety_framePresence x _).trans (stepDeadline_frame s)
  rw [sensed, stepFrame_absent _ (by rw [hf]; exact hp), hf]

theorem lineKept_stepDeadline (l : SafetyLine) : lineKept x (stepDeadline s).stops l ↔ lineKept x s.stops l := by
  rw [lineKept, lineKept, sampledFilter, sampledFilter, getFilter_of_sensors (stepDeadline_step s).sensors]

/-- A filtered state changes, or FRAME present lapses. -/
def inputTurns (x : SafetySample) (s : State) : Prop := (∃ l, ¬lineKept x s.stops l) ∨ frameLapses s

/-- R63, R83: INPUT tells of the change flags as they stand after the sampling. -/
theorem sensed_turned (h : inputTurns x s) : (sensed x s).notices.input.detail = some (changeFlags (sensed x s)) := by
  by_cases hl : frameLapses s
  · rw [sensed, stepFrame_lapses ((frameLapses_sampled x s).2 hl)]
    rfl
  · obtain ⟨l, hk⟩ := h.resolve_right hl
    have hs := (sampleSafety_sampled x (stepDeadline s)).turned
      ⟨l, mem_allSafetyLines l, fun hn => hk ((lineKept_stepDeadline l).1 hn)⟩
    obtain ⟨n, he⟩ := stepFrame_stays fun hn => hl ((frameLapses_sampled x s).1 hn)
    rw [sensed, he]
    refine hs.trans (congrArg some ?_)
    refine (changeFlags_eq rfl rfl fun l => ?_).symm
    cases l <;> rfl

theorem sensed_unturned (h : ¬inputTurns x s) : (sensed x s).notices.input = s.notices.input := by
  obtain ⟨n, he⟩ := stepFrame_stays fun hn => h (.inr ((frameLapses_sampled x s).1 hn))
  rw [sensed, he]
  show (sampleSafety x (stepDeadline s)).notices.input = _
  rw [(sampleSafety_sampled x _).kept fun l _ => (lineKept_stepDeadline l).2 (not_not.1 fun hk => h (.inl ⟨l, hk⟩))]
  exact (stepDeadline_step s).input

/-! ### The contacts (R84, R85) -/

/-- v with the discrepancy record stepped. -/
def judged (v : State) : State := { v with stops := stepDiscrepancy v.stops }

theorem estopCondition_cause {r : StopRecord} {d : CauseDetail} (h : estopCondition r = some d) : causeOf d = .estop := by
  unfold estopCondition at h
  split at h
  · cases h; rfl
  · cases h

/-- R85: ESTOP is evaluated; it rises where it was absent. -/
theorem evalEstop_cases (v : State) :
    (evalEstop v = setCondition .estop (estopCondition (stepDiscrepancy v.stops)) (judged v) ∧
      (estopCondition (stepDiscrepancy v.stops) = none ∨ v.stops.conditions.estop ≠ none)) ∨
    ∃ d, estopCondition (stepDiscrepancy v.stops) = some d ∧ v.stops.conditions.estop = none ∧
      evalEstop v = rise d (setCondition .estop (some d) (judged v)) := by
  have hw : (stepDiscrepancy v.stops).conditions = v.stops.conditions := by
    obtain ⟨a, b, c, h⟩ := SampleKeeps.stepDiscrepancy_frame v.stops
    rw [h]
  unfold evalEstop
  dsimp only
  rw [hw]
  cases hd : estopCondition (stepDiscrepancy v.stops) with
  | none => exact .inl ⟨rfl, .inl rfl⟩
  | some d =>
    cases hc : v.stops.conditions.estop with
    | none => exact .inr ⟨d, rfl, rfl, rfl⟩
    | some e => exact .inl ⟨rfl, .inr nofun⟩

theorem evalEstop_keeps {P : State → Prop} (hs : P (judged v)) (set : ∀ o u, P u → P (setCondition .estop o u))
    (rises : ∀ d u, causeOf d = .estop → P u → P (rise d u)) : P (evalEstop v) := by
  rcases evalEstop_cases v with ⟨h, -⟩ | ⟨d, hd, -, h⟩
  · rw [h]; exact set _ _ hs
  · rw [h]; exact rises d _ (estopCondition_cause hd) (set _ _ hs)

/-! ### After the contacts -/

/-- R88: GRIP is evaluated; it rises where it was absent. -/
theorem evalGrip_cases (v : State) :
    (evalGrip v = setCondition .grip (gripCondition v) v ∧ (gripCondition v = none ∨ v.stops.conditions.grip ≠ none)) ∨
    ∃ c, gripCondition v = some (.grip c) ∧ v.stops.conditions.grip = none ∧
      evalGrip v = rise (.grip c) (setCondition .grip (some (.grip c)) v) := by
  have hg : gripCondition v = none ∨ ∃ c, gripCondition v = some (.grip c) := by
    unfold gripCondition
    repeat' split
    · exact .inl rfl
    · exact .inr ⟨_, rfl⟩
    · exact .inr ⟨_, rfl⟩
    · exact .inl rfl
  unfold evalGrip
  dsimp only
  rcases hg with hg | ⟨c, hg⟩
  · rw [hg]
    exact .inl ⟨rfl, .inl rfl⟩
  · rw [hg]
    cases hc : v.stops.conditions.grip with
    | none => exact .inr ⟨c, rfl, rfl, rfl⟩
    | some e => exact .inl ⟨rfl, .inr nofun⟩

theorem evalGrip_keeps {P : State → Prop} (hs : P v) (set : ∀ o u, P u → P (setCondition .grip o u))
    (rises : ∀ c u, P u → P (rise (.grip c) u)) : P (evalGrip v) := by
  rcases evalGrip_cases v with ⟨h, -⟩ | ⟨d, -, -, h⟩
  · rw [h]; exact set _ _ hs
  · rw [h]; exact rises _ _ (set _ _ hs)

theorem inputSample_eq (x : SafetySample) (s : State) : inputSample x s =
    evalGrip (clearInhibits (evalOvertravel s.stops.overtravel (evalEstop (sensed x s)))) := rfl

/-- What the evaluations of OVERTRAVEL and GRIP keep, a sample keeps from the evaluation of ESTOP on. -/
theorem inputSample_keeps {P : State → Prop} (hs : P (evalEstop (sensed x s)))
    (set : ∀ k o u, k = .overtravel ∨ k = .grip → P u → P (setCondition k o u))
    (rises : ∀ d u, causeOf d = .overtravel ∨ causeOf d = .grip → P u → P (rise d u))
    (inhibits : ∀ u, P u → P (clearInhibits u)) : P (inputSample x s) := by
  rw [inputSample_eq]
  refine evalGrip_keeps (inhibits _ ?_) (fun o u => set _ o u (.inr rfl)) fun c u => rises _ u (.inr rfl)
  exact foldl_keeps _ (set _ _ _ (.inl rfl) hs) fun u hu i _ => rises _ u (.inl rfl) hu

/-- The inputs, the presence lines and INPUT are the same. -/
structure SameInputs (s t : State) : Prop where
  sensors : StopRecord.sensors t.stops = StopRecord.sensors s.stops
  presence : t.presence = s.presence
  input : t.notices.input = s.notices.input

theorem SameInputs.rise (h : SameInputs s t) (d : CauseDetail) : SameInputs s (rise d t) := by
  obtain ⟨-, -, -, -, hp, -⟩ := settled_eq_iff.1 (rise_settled t d)
  exact ⟨(rise_sensors d t).trans h.sensors, hp.trans h.presence, (sameSensors_rise d t).input.trans h.input⟩

theorem SameInputs.setCondition (h : SameInputs s t) (k : Cause) (o : Option CauseDetail) :
    SameInputs s (setCondition k o t) := ⟨h.sensors, h.presence, h.input⟩

/-- R83, R85: the inputs are settled once the discrepancy record is stepped. -/
theorem inputSample_inputs (x : SafetySample) (s : State) : SameInputs (judged (sensed x s)) (inputSample x s) := by
  refine inputSample_keeps (P := SameInputs (judged (sensed x s))) ?_ (fun k o _ _ h => h.setCondition k o)
    (fun d _ _ h => h.rise d) fun u h => ?_
  · exact evalEstop_keeps (P := SameInputs (judged (sensed x s))) ⟨rfl, rfl, rfl⟩ (fun o _ h => h.setCondition _ o)
      fun d _ _ h => h.rise d
  · rw [clearInhibits_frame]
    exact ⟨h.sensors, h.presence, h.input⟩

theorem getFilter_judged (v : State) (l : SafetyLine) : getFilter (judged v).stops l = getFilter v.stops l := by
  obtain ⟨a, b, c, h⟩ := SampleKeeps.stepDiscrepancy_frame v.stops
  rw [judged, h]
  cases l <;> rfl

theorem judged_frame (v : State) : (judged v).stops.frame = v.stops.frame := by
  obtain ⟨a, b, c, h⟩ := SampleKeeps.stepDiscrepancy_frame v.stops
  rw [judged, h]

theorem inputSample_filter (x : SafetySample) (s : State) (l : SafetyLine) :
    getFilter (inputSample x s).stops l = sampledFilter x s.stops l := by
  rw [getFilter_of_sensors (inputSample_inputs x s).sensors, getFilter_judged, sensed_filter]

theorem inputSample_frame (x : SafetySample) (s : State) : (inputSample x s).stops.frame = (sensed x s).stops.frame := by
  obtain ⟨-, -, -, -, h, -⟩ := sensors_eq_iff.1 (inputSample_inputs x s).sensors
  rw [h, judged_frame]

theorem inputSample_changeFlags (x : SafetySample) (s : State) :
    changeFlags (inputSample x s) = changeFlags (sensed x s) :=
  changeFlags_eq (inputSample_inputs x s).presence (by rw [inputSample_frame]) fun l => by
    rw [inputSample_filter, sensed_filter]

theorem inputSample_turned (h : inputTurns x s) :
    (inputSample x s).notices.input.detail = some (changeFlags (inputSample x s)) := by
  rw [(inputSample_inputs x s).input, inputSample_changeFlags]
  exact sensed_turned h

theorem inputSample_unturned (h : ¬inputTurns x s) : (inputSample x s).notices.input = s.notices.input :=
  (inputSample_inputs x s).input.trans (sensed_unturned h)

/-- A sample that turns an input, seen from the state that it leaves. -/
theorem inputTurns_iff (x : SafetySample) (s : State) : inputTurns x s ↔
    (∃ l, (getFilter (inputSample x s).stops l).filtered ≠ (getFilter s.stops l).filtered) ∨
      (s.stops.frame.present = true ∧ (inputSample x s).stops.frame.present = false) := by
  simp only [inputSample_filter, inputSample_frame]
  refine or_congr Iff.rfl ⟨fun h => ⟨h.1, by rw [sensed_lapse h]⟩, fun ⟨hp, hn⟩ => by_contra fun h => ?_⟩
  rw [(sensed_frame h).1, hp] at hn
  cases hn

theorem exec_inputSample (hr : s.running = true) (x : SafetySample) : exec (.inputSample x) s = .next (inputSample x s) := by
  show Host.Outcome.next _ = _
  rw [whileRunning_of_running _ _ hr]

end Sys2Proof.Machine

/-! The causes that an input sample raises, and the inputs that a sample brings to their ends (O44, O45). -/

namespace Sys2Proof.Machine

variable {s t u v w : State} {x : SafetySample}

/-! ## ESTOP (R84, R85) -/

theorem sensed_conditions (x : SafetySample) (s : State) : (sensed x s).stops.conditions = s.stops.conditions := by
  obtain ⟨q, f, n, h⟩ := sensed_fields x s
  rw [h]
  exact (stepDeadline_step s).conditions

theorem sensed_latch (x : SafetySample) (s : State) {k : Cause} (hk : k ≠ .deadline) :
    getCause (sensed x s).stops.latches k = getCause s.stops.latches k := by
  obtain ⟨q, f, n, h⟩ := sensed_fields x s
  rw [h]
  exact (stepDeadline_step s).latch k hk

theorem judged_causes (v : State) : (judged v).stops.latches = v.stops.latches ∧
    (judged v).stops.conditions = v.stops.conditions ∧ (judged v).stops.deadlineTimer = v.stops.deadlineTimer := by
  obtain ⟨a, b, c, h⟩ := SampleKeeps.stepDiscrepancy_frame v.stops
  rw [judged, h]
  exact ⟨rfl, rfl, rfl⟩

/-- A cause other than OVERTRAVEL and GRIP stands as the evaluation of ESTOP leaves it. -/
structure SameCause (k : Cause) (s t : State) : Prop where
  latch : getCause t.stops.latches k = getCause s.stops.latches k
  condition : getCause t.stops.conditions k = getCause s.stops.conditions k

theorem SameCause.rise {k : Cause} {d : CauseDetail} (h : SameCause k s t) (hk : k ≠ causeOf d) :
    SameCause k s (rise d t) :=
  ⟨(rise_latch_other hk t).trans h.latch, by rw [rise_conditions]; exact h.condition⟩

theorem SameCause.setCondition {k j : Cause} (h : SameCause k s t) (hk : k ≠ j) (o : Option CauseDetail) :
    SameCause k s (setCondition j o t) :=
  ⟨h.latch, by rw [setCondition_conditions, getCause_setCause, if_neg hk]; exact h.condition⟩

theorem inputSample_cause {k : Cause} (ho : k ≠ .overtravel) (hg : k ≠ .grip) (x : SafetySample) (s : State) :
    SameCause k (evalEstop (sensed x s)) (inputSample x s) := by
  refine inputSample_keeps (P := SameCause k (evalEstop (sensed x s))) ⟨rfl, rfl⟩ (fun j o u hj h => ?_)
    (fun d u hd h => ?_) fun u h => ?_
  · exact h.setCondition (by rcases hj with rfl | rfl <;> assumption) o
  · exact h.rise (by rcases hd with hd | hd <;> rw [hd] <;> assumption)
  · rw [clearInhibits_frame]
    exact ⟨h.latch, h.condition⟩

/-- R84: the condition as the settled contacts make it. -/
theorem inputSample_estop (x : SafetySample) (s : State) :
    (inputSample x s).stops.conditions.estop = estopCondition (inputSample x s).stops := by
  have hs : estopCondition (inputSample x s).stops = estopCondition (stepDiscrepancy (sensed x s).stops) := by
    obtain ⟨h1, h2, -, -, -, -, h3, -⟩ := sensors_eq_iff.1 (inputSample_inputs x s).sensors
    unfold estopCondition
    rw [h1, h2, h3]
    rfl
  have hc : (inputSample x s).stops.conditions.estop = (evalEstop (sensed x s)).stops.conditions.estop :=
    (inputSample_cause (k := .estop) nofun nofun x s).condition
  rw [hs, hc]
  rcases evalEstop_cases (sensed x s) with ⟨h, -⟩ | ⟨d, hd, -, h⟩
  · rw [h]; rfl
  · rw [h, rise_conditions, hd]; rfl

theorem inputSample_tripped (h : (evalEstop (sensed x s)).crane.state = .tripped) :
    (inputSample x s).crane.state = .tripped := by
  refine inputSample_keeps (P := fun u => u.crane.state = .tripped) h (fun _ _ _ _ h => h) (fun d _ _ h => rise_tripped d h)
    fun u h => ?_
  rw [clearInhibits_frame]
  exact h

theorem rise_trips_latch {d : CauseDetail} (ha : categoryA (causeOf d) = true) (s : State) :
    (rise d s).crane.state = .tripped ∧
      getCause (rise d s).stops.latches (causeOf d) = some ((getCause s.stops.latches (causeOf d)).getD d) := by
  refine ⟨?_, rise_latch (latches_of_ne_zone (fun h => by rw [h] at ha; cases ha) _)⟩
  by_cases ht : s.crane.state = .tripped
  · exact rise_tripped d ht
  · rw [rise_of_categoryA ha ht, entryA_state]

/-- R84, R93: ESTOP becomes present. -/
theorem inputSample_estop_rises {d : CauseDetail} (hs : s.stops.conditions.estop = none)
    (hd : (inputSample x s).stops.conditions.estop = some d) : (inputSample x s).crane.state = .tripped ∧
      (inputSample x s).stops.latches.estop = some (s.stops.latches.estop.getD d) := by
  have hc : (inputSample x s).stops.conditions.estop = (evalEstop (sensed x s)).stops.conditions.estop :=
    (inputSample_cause (k := .estop) nofun nofun x s).condition
  have hl : (inputSample x s).stops.latches.estop = (evalEstop (sensed x s)).stops.latches.estop :=
    (inputSample_cause (k := .estop) nofun nofun x s).latch
  have hsl : (judged (sensed x s)).stops.latches.estop = s.stops.latches.estop := by
    rw [(judged_causes _).1]
    exact sensed_latch (k := .estop) x s nofun
  rw [hc] at hd
  rcases evalEstop_cases (sensed x s) with ⟨h, hn⟩ | ⟨e, he, -, h⟩
  · rw [h] at hd
    rcases hn with hn | hn
    · rw [hn] at hd; cases hd
    · rw [sensed_conditions] at hn; exact absurd hs hn
  · have hde : some e = some d := by
      rw [h, rise_conditions] at hd
      exact hd
    cases hde
    have hcause := estopCondition_cause he
    obtain ⟨h1, h2⟩ := rise_trips_latch (d := d) (by rw [hcause]; rfl) (setCondition .estop (some d) (judged (sensed x s)))
    rw [hcause, ← h] at h2
    rw [← h] at h1
    exact ⟨inputSample_tripped h1, by rw [hl, ← hsl]; exact h2⟩

/-! ## OVERTRAVEL (R86) -/

/-- The overtravel lines that have become active, against the filters before. -/
def risenLines (before : PerEight LineFilter) (s : State) : List (Fin 8) :=
  allOvertravel.filter fun i => (s.stops.overtravel.get i).filtered && !(before.get i).filtered

theorem mem_risenLines {before : PerEight LineFilter} {i : Fin 8} : i ∈ risenLines before s ↔
    (before.get i).filtered = false ∧ (s.stops.overtravel.get i).filtered = true := by
  simp [risenLines, mem_allOvertravel, and_comm]

theorem risenLines_ascending (before : PerEight LineFilter) (s : State) : (risenLines before s).Pairwise (· < ·) :=
  List.Pairwise.filter _ (by decide)

/-- R86: the condition, by the active lines and those that have become active. -/
def overtravelCondition (before : PerEight LineFilter) (s : State) : Option CauseDetail :=
  if allOvertravel.any fun i => (s.stops.overtravel.get i).filtered then
    (match (risenLines before s).getLast? with
     | some i => some (overtravelDetail i)
     | none => s.stops.conditions.overtravel)
  else none

theorem evalOvertravel_eq (before : PerEight LineFilter) (s : State) : evalOvertravel before s =
    (risenLines before s).foldl (fun s i => rise (overtravelDetail i) s)
      (setCondition .overtravel (overtravelCondition before s) s) := rfl

/-- The overtravel latch after the rises of these lines. -/
theorem foldl_overtravel {i : Fin 8} (is : List (Fin 8)) (s : State) :
    let t := (i :: is).foldl (fun s i => rise (overtravelDetail i) s) s
    t.crane.state = .tripped ∧ t.stops.latches.overtravel = some (s.stops.latches.overtravel.getD (overtravelDetail i)) := by
  obtain ⟨h1, h2⟩ := rise_trips_latch (d := overtravelDetail i) rfl s
  refine foldl_keeps (P := fun t => t.crane.state = .tripped ∧
    t.stops.latches.overtravel = some (s.stops.latches.overtravel.getD (overtravelDetail i))) is ⟨h1, h2⟩
    fun u ⟨hu, hl⟩ j _ => ?_
  obtain ⟨h3, h4⟩ := rise_trips_latch (d := overtravelDetail j) rfl u
  refine ⟨h3, Eq.trans h4 ?_⟩
  show some (u.stops.latches.overtravel.getD _) = _
  rw [hl]
  rfl

/-- From the evaluation of OVERTRAVEL on, its latch and condition stand, and a tripped crane stays so. -/
theorem afterOvertravel_keeps {P : State → Prop} (hs : P (evalOvertravel s.stops.overtravel (evalEstop (sensed x s))))
    (inhibits : ∀ u, P u → P (clearInhibits u)) (set : ∀ o u, P u → P (setCondition .grip o u))
    (rises : ∀ c u, P u → P (rise (.grip c) u)) : P (inputSample x s) := by
  rw [inputSample_eq]
  exact evalGrip_keeps (inhibits _ hs) set rises

theorem inputSample_overtravel_kept (x : SafetySample) (s : State) :
    SameCause .overtravel (evalOvertravel s.stops.overtravel (evalEstop (sensed x s))) (inputSample x s) := by
  refine afterOvertravel_keeps (P := SameCause .overtravel _) ⟨rfl, rfl⟩ (fun u h => ?_) (fun o u h => ?_) fun c u h => ?_
  · rw [clearInhibits_frame]
    exact ⟨h.latch, h.condition⟩
  · exact h.setCondition (j := .grip) nofun o
  · exact h.rise (d := .grip c) nofun

theorem evalEstop_sensors (v : State) :
    StopRecord.sensors (evalEstop v).stops = StopRecord.sensors (judged v).stops :=
  evalEstop_keeps (P := fun u => StopRecord.sensors u.stops = StopRecord.sensors (judged v).stops) rfl (fun _ _ h => h)
    fun d u _ h => (rise_sensors d u).trans h

theorem risenLines_inputSample (x : SafetySample) (s : State) :
    risenLines s.stops.overtravel (evalEstop (sensed x s)) = risenLines s.stops.overtravel (inputSample x s) := by
  obtain ⟨-, -, -, h, -⟩ := sensors_eq_iff.1 ((inputSample_inputs x s).sensors.trans (evalEstop_sensors (sensed x s)).symm)
  rw [risenLines, risenLines, h]

theorem foldl_rise_conditions (is : List (Fin 8)) (s : State) :
    (is.foldl (fun s i => rise (overtravelDetail i) s) s).stops.conditions = s.stops.conditions :=
  foldl_keeps (P := fun u => u.stops.conditions = s.stops.conditions) is rfl fun u h _ _ => (rise_conditions _ u).trans h

theorem overtravelCondition_of_last {before : PerEight LineFilter} {is : List (Fin 8)} {i : Fin 8}
    (h : risenLines before v = is ++ [i]) : overtravelCondition before v = some (overtravelDetail i) := by
  have hi : i ∈ risenLines before v := by rw [h]; simp
  have hact : (allOvertravel.any fun k => (v.stops.overtravel.get k).filtered) = true :=
    List.any_eq_true.2 ⟨i, mem_allOvertravel i, (mem_risenLines.1 hi).2⟩
  rw [overtravelCondition, if_pos hact, h, List.getLast?_concat]

/-- R86, R93: overtravel lines have become active. -/
theorem evalOvertravel_risen {before : PerEight LineFilter} {i : Fin 8} (hi : i ∈ risenLines before v) :
    let w := evalOvertravel before v
    w.crane.state = .tripped ∧
    ((∀ j ∈ risenLines before v, i ≤ j) →
      w.stops.latches.overtravel = some (v.stops.latches.overtravel.getD (overtravelDetail i))) ∧
    ((∀ j ∈ risenLines before v, j ≤ i) → w.stops.conditions.overtravel = some (overtravelDetail i)) := by
  have hasc := risenLines_ascending before v
  have hlast (js : List (Fin 8)) (j : Fin 8) := overtravelCondition_of_last (v := v) (before := before) (is := js) (i := j)
  dsimp only
  rw [evalOvertravel_eq]
  generalize risenLines before v = is at hi hasc hlast ⊢
  refine ⟨?_, fun hlow => ?_, fun hhigh => ?_⟩
  · obtain ⟨j, js, rfl⟩ := List.exists_cons_of_ne_nil (List.ne_nil_of_mem hi)
    exact (foldl_overtravel js _).1
  · obtain ⟨j, js, rfl⟩ := List.exists_cons_of_ne_nil (List.ne_nil_of_mem hi)
    have hij : i = j := by
      rcases List.mem_cons.1 hi with h | h
      · exact h
      · exact absurd ((List.pairwise_cons.1 hasc).1 i h) (not_lt.2 (hlow j (List.mem_cons_self ..)))
    rw [hij]
    exact (foldl_overtravel js _).2
  · obtain ⟨js, j, hjs⟩ := (List.eq_nil_or_concat is).resolve_left (List.ne_nil_of_mem hi)
    rw [List.concat_eq_append] at hjs
    have hij : i = j := by
      rw [hjs] at hi hasc hhigh
      rcases List.mem_append.1 hi with h | h
      · exact absurd ((List.pairwise_append.1 hasc).2.2 i h j (List.mem_singleton_self j)) (not_lt.2 (hhigh j (by simp)))
      · exact List.mem_singleton.1 h
    rw [foldl_rise_conditions, hij]
    exact hlast js j hjs

theorem evalEstop_overtravel (x : SafetySample) (s : State) :
    (evalEstop (sensed x s)).stops.latches.overtravel = s.stops.latches.overtravel := by
  have h1 : getCause (evalEstop (sensed x s)).stops.latches .overtravel = getCause (sensed x s).stops.latches .overtravel := by
    refine evalEstop_keeps (P := fun u => getCause u.stops.latches .overtravel =
      getCause (sensed x s).stops.latches .overtravel) ?_ (fun _ _ h => h) fun d u hd h => (rise_latch_other ?_ u).trans h
    · rw [(judged_causes _).1]
    · rw [hd]; exact nofun
  exact h1.trans (sensed_latch (k := .overtravel) x s nofun)

theorem inputSample_overtravel {i : Fin 8} (hi : i ∈ risenLines s.stops.overtravel (inputSample x s)) :
    let t := inputSample x s
    t.crane.state = .tripped ∧
    ((∀ j ∈ risenLines s.stops.overtravel t, i ≤ j) →
      t.stops.latches.overtravel = some (s.stops.latches.overtravel.getD (overtravelDetail i))) ∧
    ((∀ j ∈ risenLines s.stops.overtravel t, j ≤ i) → t.stops.conditions.overtravel = some (overtravelDetail i)) := by
  have hkept := inputSample_overtravel_kept x s
  have hlatch : (inputSample x s).stops.latches.overtravel = _ := hkept.latch
  have hcond : (inputSample x s).stops.conditions.overtravel = _ := hkept.condition
  dsimp only
  rw [← risenLines_inputSample] at hi ⊢
  obtain ⟨htrip, hlow, hhigh⟩ := evalOvertravel_risen hi
  refine ⟨?_, fun h => ?_, fun h => ?_⟩
  · refine afterOvertravel_keeps (P := fun u => u.crane.state = .tripped) htrip (fun u h => ?_) (fun _ _ h => h)
      fun c u h => rise_tripped _ h
    rw [clearInhibits_frame]
    exact h
  · rw [hlatch]
    refine (hlow h).trans ?_
    rw [evalEstop_overtravel]
  · rw [hcond]
    exact hhigh h

/-! ## Inhibits (R103) -/

/-- The inhibit of the direction that an overtravel line guards. -/
def inhibitOf (s : State) (i : Fin 8) : Bool :=
  if overtravelPlus i = true then (s.chan (overtravelChan i)).inhibitPlus else (s.chan (overtravelChan i)).inhibitMinus

/-- R103: one overtravel line. -/
def clearInhibit (s : State) (i : Fin 8) : State :=
  if (s.stops.overtravel.get i).filtered then s
  else
    let c := overtravelChan i
    let r := s.chan c
    s.setChan c (if overtravelPlus i then { r with inhibitPlus := false } else { r with inhibitMinus := false })

theorem clearInhibits_fold (s : State) : clearInhibits s = allOvertravel.foldl clearInhibit s := rfl

theorem clearInhibit_stops (s : State) (i : Fin 8) : (clearInhibit s i).stops = s.stops := by
  unfold clearInhibit
  split <;> rfl

theorem inhibitOf_clearInhibit_same {i : Fin 8} (h : (s.stops.overtravel.get i).filtered = false) :
    inhibitOf (clearInhibit s i) i = false := by
  have hc : clearInhibit s i = _ := if_neg (by simp [h])
  rw [inhibitOf, hc]
  cases overtravelPlus i <;> simp

theorem clearInhibit_cleared (s : State) (j : Fin 8) (c : Chan) :
    ((s.chan c).inhibitPlus = false → ((clearInhibit s j).chan c).inhibitPlus = false) ∧
      ((s.chan c).inhibitMinus = false → ((clearInhibit s j).chan c).inhibitMinus = false) := by
  unfold clearInhibit
  split
  · exact ⟨id, id⟩
  · by_cases hc : c = overtravelChan j
    · subst hc
      cases overtravelPlus j <;> simp
    · simp [hc]

theorem inhibitOf_clearInhibit {i : Fin 8} (h : inhibitOf s i = false) (j : Fin 8) :
    inhibitOf (clearInhibit s j) i = false := by
  obtain ⟨h1, h2⟩ := clearInhibit_cleared s j (overtravelChan i)
  unfold inhibitOf at h ⊢
  split at h
  next hp => rw [if_pos hp]; exact h1 h
  next hp => rw [if_neg hp]; exact h2 h

theorem inhibitOf_clearInhibits {i : Fin 8} (h : (s.stops.overtravel.get i).filtered = false) :
    inhibitOf (clearInhibits s) i = false := by
  obtain ⟨a, b, hab⟩ := List.append_of_mem (mem_allOvertravel i)
  rw [clearInhibits_fold, hab, List.foldl_append, List.foldl_cons]
  have ha : (a.foldl clearInhibit s).stops = s.stops :=
    foldl_keeps (P := fun u => u.stops = s.stops) a rfl fun u hu j _ => (clearInhibit_stops u j).trans hu
  refine foldl_keeps (P := fun u => inhibitOf u i = false) b (inhibitOf_clearInhibit_same (by rw [ha]; exact h))
    fun u hu j _ => inhibitOf_clearInhibit hu j

theorem inhibitOf_rise {i : Fin 8} (d : CauseDetail) (h : inhibitOf s i = false) : inhibitOf (rise d s) i = false := by
  unfold inhibitOf at h ⊢
  cases hi : overtravelPlus i
  · rw [hi] at h
    refine rise_chan s (P := fun r => r.inhibitMinus = false) d _ h (fun _ h => h) (fun r h => ?_) (fun r h => ?_) fun _ h _ _ => h
    · unfold stopChannel; split <;> exact h
    · unfold releaseChannel; split <;> exact h
  · rw [hi] at h
    refine rise_chan s (P := fun r => r.inhibitPlus = false) d _ h (fun _ h => h) (fun r h => ?_) (fun r h => ?_) fun _ h _ _ => h
    · unfold stopChannel; split <;> exact h
    · unfold releaseChannel; split <;> exact h

/-! ## GRIP (R88) -/

/-- From s to u nothing has changed that a rise of GRIP in READY depends on, but that inhibits may have been cleared. -/
structure ReadyFor (s u : State) : Prop where
  config : u.config = s.config
  crane : u.crane = s.crane
  engine : u.engine = s.engine
  latch : u.stops.latches.grip = s.stops.latches.grip
  condition : u.stops.conditions.grip = s.stops.conditions.grip
  chan : ∀ c, ∃ p m, u.chan c = { s.chan c with inhibitPlus := p, inhibitMinus := m }

theorem ReadyFor.clearInhibits (h : ReadyFor s u) : ReadyFor s (clearInhibits u) := by
  have hchan : ∀ c, ∃ p m, (Machine.clearInhibits u).chan c = { s.chan c with inhibitPlus := p, inhibitMinus := m } := by
    intro c
    obtain ⟨p, m, hc⟩ := chan_clearInhibits u c
    obtain ⟨p', m', hs⟩ := h.chan c
    exact ⟨p, m, by rw [hc, hs]⟩
  have hf := clearInhibits_frame (s := u)
  generalize Machine.clearInhibits u = w at hf hchan ⊢
  obtain ⟨h1, h2, h3, h4, h5⟩ : w.config = u.config ∧ w.crane = u.crane ∧ w.engine = u.engine ∧ w.stops = u.stops ∧ True := by
    rw [hf]
    exact ⟨rfl, rfl, rfl, rfl, trivial⟩
  exact ⟨h1.trans h.config, h2.trans h.crane, h3.trans h.engine, by rw [h4, h.latch], by rw [h4, h.condition], hchan⟩

theorem ReadyFor.setCondition (h : ReadyFor s u) {k : Cause} (hk : k ≠ .grip) (o : Option CauseDetail) :
    ReadyFor s (setCondition k o u) :=
  ⟨h.config, h.crane, h.engine, h.latch,
    ((getCause_setCause u.stops.conditions k .grip o).trans (if_neg hk.symm)).trans h.condition, h.chan⟩

theorem ReadyFor.judged (h : ReadyFor s u) : ReadyFor s (judged u) := by
  obtain ⟨h1, h2, -⟩ := judged_causes u
  exact ⟨h.config, h.crane, h.engine, by rw [h1, h.latch], by rw [h2, h.condition], h.chan⟩

theorem sampledFilter_steady {l : SafetyLine} (h : getFilter s.stops l = steadyFilter false) (hx : sampleOf x l = false) :
    (sampledFilter x s.stops l).filtered = false := by
  rw [sampledFilter, h, hx]
  rfl

theorem stepDeadline_ready (h : s.crane.state ≠ .stopping) : stepDeadline s = s := by
  rcases stepDeadline_cases s with ⟨n, he, hn⟩ | ⟨hs, -⟩
  · rw [he, hn h]
  · exact absurd hs h

theorem readyFor_sensed (h : s.crane.state ≠ .stopping) : ReadyFor s (sensed x s) := by
  obtain ⟨q, f, n, he⟩ := sensed_fields x s
  rw [he, stepDeadline_ready h]
  exact ⟨rfl, rfl, rfl, rfl, rfl, fun c => ⟨_, _, rfl⟩⟩

/-- The contacts closed and agreeing, no line active: neither ESTOP nor OVERTRAVEL rises. -/
theorem onlyGrip_estop (h : OnlyGripReleased s x) : evalEstop (sensed x s) = setCondition .estop none (judged (sensed x s)) := by
  have h1 : (sensed x s).stops.estop1.filtered = false := by
    show (getFilter (sensed x s).stops .estop1).filtered = false
    rw [sensed_filter]
    exact sampledFilter_steady h.estop1.1 h.estop1.2
  have h2 : (sensed x s).stops.estop2.filtered = false := by
    show (getFilter (sensed x s).stops .estop2).filtered = false
    rw [sensed_filter]
    exact sampledFilter_steady h.estop2.1 h.estop2.2
  have h3 : (sensed x s).stops.discrepancy = false := by
    obtain ⟨q, f, n, he⟩ := sensed_fields x s
    obtain ⟨-, -, -, -, -, -, hd, -⟩ := sensors_eq_iff.1 (stepDeadline_step s).sensors
    rw [he]
    exact hd.trans h.discrepancy
  have hnone : estopCondition (stepDiscrepancy (sensed x s).stops) = none := by
    rcases stepDiscrepancy_cases (sensed x s).stops with ⟨hc, -⟩ | ⟨-, -, he⟩ | ⟨hc, -⟩
    · rw [h1] at hc; cases hc
    · rw [he, estopCondition]
      simp [h1, h2, h3]
    · rw [h1, h2] at hc; exact absurd rfl hc
  rcases evalEstop_cases (sensed x s) with ⟨he, -⟩ | ⟨d, hd, -⟩
  · rw [he, hnone]
  · rw [hnone] at hd; cases hd

/-- The state at which a sample evaluates GRIP. -/
def beforeGrip (x : SafetySample) (s : State) : State :=
  clearInhibits (evalOvertravel s.stops.overtravel (evalEstop (sensed x s)))

theorem inputSample_beforeGrip (x : SafetySample) (s : State) : inputSample x s = evalGrip (beforeGrip x s) := rfl

theorem gripHeld_eq (u : State) : u.gripHeld = (getFilter u.stops .grip).filtered := rfl

theorem gripHeld_evalGrip (u : State) : (evalGrip u).gripHeld = u.gripHeld :=
  evalGrip_keeps (P := fun w => w.gripHeld = u.gripHeld) rfl (fun _ _ h => h) fun c w h => by
    obtain ⟨-, -, hg, -⟩ := sensors_eq_iff.1 (rise_sensors (.grip c) w)
    rw [← h, State.gripHeld, State.gripHeld, hg]

theorem beforeGrip_ready (h : OnlyGripReleased s x) (hs : s.crane.state ≠ .stopping) :
    ReadyFor s (beforeGrip x s) ∧ (beforeGrip x s).gripHeld = false := by
  have hline : ∀ i, (sampledFilter x s.stops (.overtravel i)).filtered = false := fun i =>
    sampledFilter_steady (h.overtravel.1 i) (by
      show x.overtravel.getLsbD i.val = false
      rw [h.overtravel.2]
      simp)
  have hnone : risenLines s.stops.overtravel (evalEstop (sensed x s)) = [] := by
    rw [risenLines_inputSample]
    refine List.eq_nil_iff_forall_not_mem.2 fun i hi => ?_
    have hf := (mem_risenLines.1 hi).2
    have he : ((inputSample x s).stops.overtravel.get i).filtered = _ := congrArg _ (inputSample_filter x s (.overtravel i))
    rw [he, hline i] at hf
    cases hf
  have hv := readyFor_sensed (x := x) hs
  have hgrip : (inputSample x s).gripHeld = false := by
    rw [gripHeld_eq, inputSample_filter, ← Bool.not_eq_true]
    intro hm
    have := (majority_iff _ _ _).1 hm
    have := h.grip
    simp only [getFilter, sampleOf] at *
    omega
  refine ⟨?_, ?_⟩
  · rw [beforeGrip, evalOvertravel_eq, hnone, List.foldl_nil, onlyGrip_estop h]
    exact ((hv.judged.setCondition (k := .estop) nofun _).setCondition (k := .overtravel) nofun _).clearInhibits
  · rw [inputSample_beforeGrip, gripHeld_evalGrip] at hgrip
    exact hgrip

theorem gripCondition_moving {c : Chan} (hh : s.gripHeld = false) (hc : grippedChannel s = some c) :
    gripCondition s = some (.grip (some c)) := by
  rw [gripCondition, if_neg (by simp [hh]), hc]

theorem gripCondition_still (hh : s.gripHeld = false) (hc : grippedChannel s = none) :
    gripCondition s = if engineNeedsGrip s.engine then some (.grip none) else none := by
  rw [gripCondition, if_neg (by simp [hh]), hc]

theorem engineNeedsGrip_iff (e : Engine) : engineNeedsGrip e = true ↔ (∃ c, e.set.get c = true ∧ isLens c = false) ∧
    (e.state = .cueing ∨ (e.state = .playing ∧ 0 < e.rate)) := by
  simp [engineNeedsGrip, setHasBody, isBody, mem_allChans]

/-- R88, R95: GRIP rises in READY. -/
theorem evalGrip_rises {o : Option Chan} (hr : u.crane.state = .ready) (hg : gripCondition u = some (.grip o))
    (hc : u.stops.conditions.grip = none) (hl : u.stops.latches.grip = none) : let t := evalGrip u
    t.crane.state = .stopping ∧ t.stops.latches.grip = some (.grip o) ∧ t.stops.conditions.grip = some (.grip o) ∧
      t.stops.deadlineTimer = some ⟨0, u.config.stopDeadline⟩ ∧
      (∀ c, isLens c = false → t.chan c = stoppedRecord (u.chan c)) ∧ t.engine.take = none := by
  have he : evalGrip u = rise (.grip o) (setCondition .grip (some (.grip o)) u) := by
    rcases evalGrip_cases u with ⟨-, hn⟩ | ⟨d, hd, -, he⟩
    · rw [hg, hc] at hn
      simp at hn
    · rw [hg] at hd
      cases hd
      exact he
  obtain ⟨h1, -, -, h2, h3, h4, -⟩ := rise_ready (d := .grip o) (s := setCondition .grip (some (.grip o)) u) rfl nofun hr
  have hlatch := rise_latch (d := .grip o) (s := setCondition .grip (some (.grip o)) u) (latches_of_ne_zone (d := .grip o) nofun _)
  dsimp only
  rw [he]
  refine ⟨h1, hlatch.trans ?_, ?_, h2, h4, h3⟩
  · show some (u.stops.latches.grip.getD _) = _
    rw [hl]
    rfl
  · rw [rise_conditions]
    rfl

theorem grippedChannel_of_lowest {c : Chan} (hc : isLens c = false) (ho : (s.chan c).owner = .console ∨ (s.chan c).owner = .take)
    (hv : (s.chan c).velocity ≠ 0)
    (hlow : ∀ d, isLens d = false → chanIndex d < chanIndex c → (s.chan d).velocity = 0) : grippedChannel s = some c := by
  refine find?_chan_of_lowest ?_ fun d hd => ?_
  · rcases ho with ho | ho <;> simp [isBody, hc, ho, hv]
  · cases hl : isLens d with
    | true => simp [isBody, hl]
    | false => simp [hlow d hl hd]

theorem grippedChannel_still (h : ∀ c, isLens c = false → (s.chan c).velocity = 0) : grippedChannel s = none := by
  refine List.find?_eq_none.2 fun c _ => ?_
  cases hl : isLens c with
  | true => simp [isBody, hl]
  | false => simp [h c hl]

/-- R95: a stopped channel holds, or decelerates from its velocity. -/
theorem stoppedRecord_fields (r : Channel) : (stoppedRecord r).owner = .none ∧ (stoppedRecord r).velocity = r.velocity ∧
    (r.velocity = 0 → (stoppedRecord r).mode = .hold) ∧
    (r.velocity ≠ 0 → (stoppedRecord r).mode = .velocity ∧ (stoppedRecord r).demand = some 0 ∧
      (stoppedRecord r).stopDecel = true) := by
  by_cases h : r.velocity = 0 <;> simp [stoppedRecord, releasedRecord, heldRecord, h]

/-- R88: a gripped channel moves in READY. -/
theorem inputSample_grip_moving {c : Chan} (hr : s.crane.state = .ready) (hc : isLens c = false)
    (ho : (s.chan c).owner = .console ∨ (s.chan c).owner = .take) (hv : (s.chan c).velocity ≠ 0)
    (hlow : ∀ d, isLens d = false → chanIndex d < chanIndex c → (s.chan d).velocity = 0)
    (hcond : s.stops.conditions.grip = none) (hl : s.stops.latches.grip = none) (hx : OnlyGripReleased s x) :
    let t := inputSample x s
    t.crane.state = .stopping ∧ t.stops.latches.grip = some (.grip (some c)) ∧
      t.stops.conditions.grip = some (.grip (some c)) ∧ t.stops.deadlineTimer = some ⟨0, s.config.stopDeadline⟩ ∧
      (∀ d, isLens d = false → (t.chan d).owner = .none ∧ (t.chan d).velocity = (s.chan d).velocity ∧
        ((s.chan d).velocity = 0 → (t.chan d).mode = .hold) ∧
        ((s.chan d).velocity ≠ 0 → (t.chan d).mode = .velocity ∧ (t.chan d).demand = some 0 ∧
          (t.chan d).stopDecel = true)) ∧
      t.engine.take = none := by
  rw [inputSample_beforeGrip]
  obtain ⟨hu, hgrip⟩ := beforeGrip_ready hx (by rw [hr]; exact nofun)
  generalize beforeGrip x s = b at hu hgrip ⊢
  have hvel (d : Chan) : (b.chan d).velocity = (s.chan d).velocity := by
    obtain ⟨p, m, h⟩ := hu.chan d
    rw [h]
  have hown : (b.chan c).owner = (s.chan c).owner := by
    obtain ⟨p, m, h⟩ := hu.chan c
    rw [h]
  have hg := gripCondition_moving hgrip (grippedChannel_of_lowest (s := b) hc (by rw [hown]; exact ho)
    (by rw [hvel]; exact hv) fun d h1 h2 => by rw [hvel]; exact hlow d h1 h2)
  obtain ⟨h1, h2, h3, h4, h5, h6⟩ := evalGrip_rises (by rw [hu.crane]; exact hr) hg (hu.condition.trans hcond)
    (hu.latch.trans hl)
  rw [hu.config] at h4
  refine ⟨h1, h2, h3, h4, fun d hd => ?_, h6⟩
  rw [h5 d hd, ← hvel d]
  exact stoppedRecord_fields _

/-- R88: nothing moves in READY; GRIP is the engine's. -/
theorem inputSample_grip_still (hr : s.crane.state = .ready) (hv : ∀ c, isLens c = false → (s.chan c).velocity = 0)
    (hcond : s.stops.conditions.grip = none) (hl : s.stops.latches.grip = none) (hx : OnlyGripReleased s x) :
    let t := inputSample x s
    (engineNeedsGrip s.engine = true → t.crane.state = .stopping ∧ t.stops.latches.grip = some (.grip none) ∧
      t.stops.conditions.grip = some (.grip none) ∧ t.engine.take = none) ∧
    (¬engineNeedsGrip s.engine = true → t.crane.state = .ready ∧ t.stops.latches.grip = none ∧
      t.stops.conditions.grip = none ∧ t.engine = s.engine) := by
  rw [inputSample_beforeGrip]
  obtain ⟨hu, hgrip⟩ := beforeGrip_ready hx (by rw [hr]; exact nofun)
  generalize beforeGrip x s = b at hu hgrip ⊢
  have hg := gripCondition_still hgrip (grippedChannel_still fun c hc => by
    obtain ⟨p, m, h⟩ := hu.chan c
    rw [h]
    exact hv c hc)
  rw [hu.engine] at hg
  refine ⟨fun hn => ?_, fun hn => ?_⟩
  · rw [if_pos hn] at hg
    obtain ⟨h1, h2, h3, -, -, h4⟩ := evalGrip_rises (by rw [hu.crane]; exact hr) hg (hu.condition.trans hcond)
      (hu.latch.trans hl)
    exact ⟨h1, h2, h3, h4⟩
  · rw [if_neg hn] at hg
    have he : evalGrip b = setCondition .grip none b := by
      rcases evalGrip_cases b with ⟨he, -⟩ | ⟨d, hd, -⟩
      · rw [hg] at he; exact he
      · rw [hg] at hd; cases hd
    rw [he]
    exact ⟨(congrArg CraneRecord.state hu.crane).trans hr, hu.latch.trans hl, rfl, hu.engine⟩

/-! ## The samples as they are claimed -/

theorem inputSample_line (x : SafetySample) (s : State) (l : SafetyLine) : let f := getFilter s.stops l
    let g := getFilter (inputSample x s).stops l
    g.old = f.mid ∧ g.mid = f.new ∧ g.new = sampleOf x l ∧
    (g.filtered = true ↔ 2 ≤ f.mid.toNat + f.new.toNat + (sampleOf x l).toNat) ∧
    (g.changed = true ↔ f.changed = true ∨ g.filtered ≠ f.filtered) ∧
    (g.filtered ≠ f.filtered → (inputSample x s).notices.input.detail ≠ none) := by
  dsimp only
  have hturn : (getFilter (inputSample x s).stops l).filtered ≠ (getFilter s.stops l).filtered →
      (inputSample x s).notices.input.detail ≠ none := fun h => by
    rw [inputSample_turned ((inputTurns_iff x s).2 (.inl ⟨l, h⟩))]
    exact nofun
  rw [inputSample_filter] at hturn ⊢
  refine ⟨rfl, rfl, rfl, majority_iff .., ?_, hturn⟩
  simp [sampledFilter, filterSample]

theorem estopCondition_open {r : StopRecord} (h : r.estop1.filtered = true ∨ r.estop2.filtered = true) :
    estopCondition r = some (.estop r.estop1.filtered r.estop2.filtered r.discrepancy) := by
  rcases h with h | h <;> simp [estopCondition, h]

theorem inhibitOf_inputSample {i : Fin 8} (h : ((inputSample x s).stops.overtravel.get i).filtered = false) :
    inhibitOf (inputSample x s) i = false := by
  have hover : ((evalOvertravel s.stops.overtravel (evalEstop (sensed x s))).stops.overtravel.get i).filtered = false := by
    have hkeep : StopRecord.sensors (inputSample x s).stops =
        StopRecord.sensors (evalOvertravel s.stops.overtravel (evalEstop (sensed x s))).stops := by
      refine afterOvertravel_keeps (P := fun u => StopRecord.sensors u.stops =
        StopRecord.sensors (evalOvertravel s.stops.overtravel (evalEstop (sensed x s))).stops) rfl (fun u h => ?_)
        (fun _ _ h => h) fun c u h => (rise_sensors _ u).trans h
      rw [clearInhibits_frame]
      exact h
    obtain ⟨-, -, -, ho, -⟩ := sensors_eq_iff.1 hkeep
    rw [← ho]
    exact h
  rw [inputSample_eq]
  exact evalGrip_keeps (P := fun u => inhibitOf u i = false) (inhibitOf_clearInhibits hover) (fun _ _ h => h)
    fun c u h => inhibitOf_rise _ h

theorem overtravelChan_listed (i : Fin 8) :
    [Chan.track, .swing, .boom, .reach][i.val / 2]? = some (overtravelChan i) ∧ (overtravelPlus i = true ↔ i.val % 2 = 1) := by
  fin_cases i <;> decide

/-- Settles O44: the filters and INPUT by the sampling of the lines, each cause by its evaluation. -/
theorem safetySamplesStopTheCrane : Obligations.SafetySamplesStopTheCrane := by
  refine ⟨fun s x hr => ⟨_, exec_inputSample hr x, inputSample_line x s⟩, fun s x hr => ⟨_, exec_inputSample hr x, ?_⟩,
    fun s x hr => ⟨_, exec_inputSample hr x, fun ho hn => ?_, fun i hi => ?_, fun i hi => ?_⟩,
    fun s x c hr h1 h2 h3 h4 h5 h6 h7 h8 =>
      ⟨_, exec_inputSample hr x, inputSample_grip_moving h1 h2 h3 h4 h5 h6 h7 h8⟩,
    fun s x hr h1 h2 h3 h4 h5 => ⟨_, exec_inputSample hr x, ?_⟩⟩
  · dsimp only
    rw [← inputTurns_iff]
    exact ⟨inputSample_turned, inputSample_unturned⟩
  · have hc := (inputSample_estop x s).trans (estopCondition_open ho)
    obtain ⟨ht, hl⟩ := inputSample_estop_rises hn hc
    exact ⟨ht, hc, hl⟩
  · obtain ⟨ht, hlow, hhigh⟩ := inputSample_overtravel (mem_risenLines.2 hi)
    obtain ⟨hchan, hplus⟩ := overtravelChan_listed i
    exact ⟨ht, hchan, hplus, fun h => hlow fun j hj => h j (mem_risenLines.1 hj),
      fun h => hhigh fun j hj => h j (mem_risenLines.1 hj)⟩
  · have h := inhibitOf_inputSample hi
    rw [inhibitOf] at h
    split
    next hp => rw [if_pos hp] at h; exact h
    next hp => rw [if_neg hp] at h; exact h
  · dsimp only
    rw [← engineNeedsGrip_iff]
    exact inputSample_grip_still h1 h2 h3 h4 h5

/-! ## The ends of timed inputs (R83, R85, R99) -/

theorem discrepancy_inputSample (x : SafetySample) (s : State) :
    (inputSample x s).stops.discrepancyTimer = (stepDiscrepancy (sensed x s).stops).discrepancyTimer ∧
      (inputSample x s).stops.discrepancy = (stepDiscrepancy (sensed x s).stops).discrepancy ∧
      (inputSample x s).stops.bothOpenSeen = (stepDiscrepancy (sensed x s).stops).bothOpenSeen := by
  obtain ⟨-, -, -, -, -, h1, h2, h3⟩ := sensors_eq_iff.1 (inputSample_inputs x s).sensors
  exact ⟨h1, h2, h3⟩

theorem sensed_discrepancy (x : SafetySample) (s : State) :
    (sensed x s).stops.discrepancyTimer = s.stops.discrepancyTimer ∧ (sensed x s).stops.discrepancy = s.stops.discrepancy ∧
      (sensed x s).stops.bothOpenSeen = s.stops.bothOpenSeen := by
  obtain ⟨-, -, -, -, -, h1, h2, h3⟩ := sensors_eq_iff.1 (stepDeadline_step s).sensors
  obtain ⟨q, f, n, h⟩ := sensed_fields x s
  rw [h]
  exact ⟨h1, h2, h3⟩

theorem sensed_contacts (x : SafetySample) (s : State) :
    (inputSample x s).stops.estop1.filtered = (sensed x s).stops.estop1.filtered ∧
      (inputSample x s).stops.estop2.filtered = (sensed x s).stops.estop2.filtered := by
  have h1 : getFilter (inputSample x s).stops .estop1 = getFilter (sensed x s).stops .estop1 := by
    rw [inputSample_filter, sensed_filter]
  have h2 : getFilter (inputSample x s).stops .estop2 = getFilter (sensed x s).stops .estop2 := by
    rw [inputSample_filter, sensed_filter]
  exact ⟨congrArg LineFilter.filtered h1, congrArg LineFilter.filtered h2⟩

theorem contacts_inputSample (x : SafetySample) (s : State) :
    (inputSample x s).stops.estop1.filtered = majority s.stops.estop1.mid s.stops.estop1.new x.estop1 ∧
      (inputSample x s).stops.estop2.filtered = majority s.stops.estop2.mid s.stops.estop2.new x.estop2 := by
  have h1 := inputSample_filter x s .estop1
  have h2 := inputSample_filter x s .estop2
  generalize inputSample x s = t at h1 h2 ⊢
  exact ⟨congrArg LineFilter.filtered h1, congrArg LineFilter.filtered h2⟩

/-- R85: the discrepancy record after a sample, by the contacts. -/
theorem inputSample_discrepancy (ht : t = inputSample x s) :
    let o1 := t.stops.estop1.filtered
    let o2 := t.stops.estop2.filtered
    (o1 = true → o2 = true → t.stops.bothOpenSeen = true ∧ t.stops.discrepancy = s.stops.discrepancy ∧
      t.stops.discrepancyTimer = none) ∧
    (o1 = false → o2 = false → t.stops.bothOpenSeen = false ∧ t.stops.discrepancyTimer = none ∧
      t.stops.discrepancy = (s.stops.discrepancy && !s.stops.bothOpenSeen)) ∧
    (o1 ≠ o2 → t.stops.bothOpenSeen = s.stops.bothOpenSeen ∧ (s.stops.discrepancy = true → t.stops.discrepancy = true) ∧
      (s.stops.discrepancy = false → s.stops.discrepancyTimer = none → t.stops.discrepancyTimer = some 0 ∧
        t.stops.discrepancy = false) ∧
      ∀ n, s.stops.discrepancy = false → s.stops.discrepancyTimer = some n →
        (n + 1 < 101 → t.stops.discrepancyTimer = some (n + 1) ∧ t.stops.discrepancy = false) ∧
        (¬n + 1 < 101 → t.stops.discrepancyTimer = none ∧ t.stops.discrepancy = true)) := by
  obtain ⟨h1, h2, h3⟩ := discrepancy_inputSample x s
  obtain ⟨e1, e2⟩ := sensed_contacts x s
  obtain ⟨v1, v2, v3⟩ := sensed_discrepancy x s
  rw [← ht] at h1 h2 h3 e1 e2
  dsimp only
  rw [h1, h2, h3, e1, e2, ← v1, ← v2, ← v3]
  rcases stepDiscrepancy_cases (sensed x s).stops with ⟨c1, c2, h⟩ | ⟨c1, c2, h⟩ | ⟨hc, h⟩
  · simp [h, c1, c2]
  · simp [h, c1, c2]
  · rw [h]
    refine ⟨fun a b => absurd (a.trans b.symm) hc, fun a b => absurd (a.trans b.symm) hc, fun _ => ?_⟩
    cases hd : (sensed x s).stops.discrepancy with
    | true => simp
    | false =>
      cases ht : (sensed x s).stops.discrepancyTimer with
      | none => simp [stepDiscrepancyTimer, hd, ht]
      | some n =>
        by_cases hn : n + 1 < 101 <;> simp [stepDiscrepancyTimer, hd, ht, hn] <;> omega

theorem exec_inputEvent {i : Instr} {happens : State → State → Bool} (hr : s.running = true)
    (he : exec i s = .next (eventOf (inputSample x) happens s)) (hp : happens s (inputSample x s) = true) :
    exec i s = .next (inputSample x s) := he.trans (congrArg _ (eventOf_of_happens s (inputSample x) happens hr hp))

/-- R85: the discrepancy latch sets. -/
theorem exec_discrepancyLatch (hr : s.running = true) (ht : s.stops.discrepancyTimer = some 100)
    (hd : s.stops.discrepancy = false)
    (ho : majority s.stops.estop1.mid s.stops.estop1.new x.estop1 ≠ majority s.stops.estop2.mid s.stops.estop2.new x.estop2) :
    exec (.discrepancyLatch x) s = .next (inputSample x s) ∧ (inputSample x s).stops.discrepancy = true ∧
      (inputSample x s).stops.discrepancyTimer = none ∧ (inputSample x s).stops.conditions.estop =
        some (.estop (majority s.stops.estop1.mid s.stops.estop1.new x.estop1)
          (majority s.stops.estop2.mid s.stops.estop2.new x.estop2) true) := by
  obtain ⟨c1, c2⟩ := contacts_inputSample x s
  obtain ⟨-, -, h⟩ := inputSample_discrepancy (t := inputSample x s) rfl
  obtain ⟨-, -, -, h⟩ := h (by rw [c1, c2]; exact ho)
  obtain ⟨h1, h2⟩ := (h 100 hd ht).2 (by omega)
  have hc := inputSample_estop x s
  refine ⟨exec_inputEvent (happens := fun s t => !s.stops.discrepancy && t.stops.discrepancy) hr rfl (by rw [hd, h2]; rfl),
    h2, h1, ?_⟩
  rw [hc, estopCondition, c1, c2, h2, if_pos (by simp)]

/-- R99: the deadline expires. -/
theorem stepDeadline_expires {d : RunningTimer} (hs : s.crane.state = .stopping) (hd : s.stops.deadlineTimer = some d)
    (he : d.expiry ≤ d.elapsed + 1) :
    stepDeadline s = rise .deadline { s with stops := { s.stops with deadlineTimer := none } } := by
  unfold stepDeadline
  rw [hd]
  simp [hs, Nat.not_lt.2 he]

/-- What an expired deadline leaves, and what the rest of the sample keeps. -/
structure Expired (u : State) : Prop where
  state : u.crane.state = .tripped
  latch : u.stops.latches.deadline = some .deadline
  timer : u.stops.deadlineTimer = none

theorem Expired.rise {d : CauseDetail} (h : Expired u) (hd : causeOf d ≠ .deadline) : Expired (rise d u) := by
  have ht := rise_tripped d h.state
  exact ⟨ht, (rise_latch_other (k := .deadline) hd.symm u).trans h.latch,
    (rise_deadlineTimer (ht.trans h.state.symm)).trans h.timer⟩

theorem expired_rise_deadline (hs : s.crane.state = .stopping) (hl : s.stops.latches.deadline = none) :
    Expired (rise .deadline { s with stops := { s.stops with deadlineTimer := none } }) := by
  set u : State := { s with stops := { s.stops with deadlineTimer := none } } with hu
  obtain ⟨h1, h2⟩ := rise_trips_latch (d := .deadline) rfl u
  have hlatch : (rise .deadline u).stops.latches.deadline = some (s.stops.latches.deadline.getD .deadline) := h2
  refine ⟨h1, by rw [hlatch, hl]; rfl, ?_⟩
  have hne : u.crane.state ≠ .tripped := by
    show s.crane.state ≠ .tripped
    rw [hs]
    exact nofun
  rw [rise_of_categoryA rfl hne, entryA, enterCrane_stops]
  rfl

/-- The causes that rise after the deadline has been stepped are others. -/
theorem inputSample_expired (h : Expired (stepDeadline s)) : Expired (inputSample x s) := by
  obtain ⟨q, f, n, hv⟩ := sensed_fields x s
  have hsensed : Expired (judged (sensed x s)) := by
    obtain ⟨h1, -, h3⟩ := judged_causes (sensed x s)
    rw [hv] at h1 h3
    refine ⟨?_, ?_, ?_⟩
    · rw [hv]; exact h.state
    · rw [hv, h1]; exact h.latch
    · rw [hv, h3]; exact h.timer
  have hestop : Expired (evalEstop (sensed x s)) :=
    evalEstop_keeps hsensed (fun _ _ h => ⟨h.state, h.latch, h.timer⟩) fun d _ hd h => h.rise (by rw [hd]; exact nofun)
  refine inputSample_keeps hestop (fun _ _ _ _ h => ⟨h.state, h.latch, h.timer⟩) (fun d _ hd h => h.rise ?_) fun u h => ?_
  · rcases hd with hd | hd <;> rw [hd] <;> exact nofun
  · rw [clearInhibits_frame]
    exact ⟨h.state, h.latch, h.timer⟩

theorem RisenState.antisymm {a b : CraneState} (h : RisenState a b) (k : RisenState b a) : b = a := by
  rcases h with h | rfl | ⟨rfl, rfl⟩ | ⟨rfl, rfl⟩
  · exact h
  · rcases k with k | k | ⟨k, -⟩ | ⟨k, -⟩
    · exact k.symm
    · exact k.symm
    · cases k
    · cases k
  · simp [RisenState] at k
  · simp [RisenState] at k

/-- From s to u the crane has gone along rises, and the deadline timer stands where the state does. -/
structure TimerStands (s u : State) : Prop where
  risen : RisenState s.crane.state u.crane.state
  timer : u.crane.state = s.crane.state → u.stops.deadlineTimer = s.stops.deadlineTimer

theorem TimerStands.rise (h : TimerStands s u) (d : CauseDetail) : TimerStands s (rise d u) := by
  refine ⟨risenState_rise d h.risen, fun e => ?_⟩
  have hu : RisenState u.crane.state s.crane.state := e ▸ risenState_rise d (.inl rfl)
  have hus := h.risen.antisymm hu
  rw [rise_deadlineTimer (e.trans hus.symm), h.timer hus]

theorem timerStands_sample (hs : s.crane.state ≠ .stopping) : SampleKeeps (TimerStands s) where
  input _ h := ⟨h.risen, h.timer⟩
  stops _ _ h _ ht := ⟨h.risen, fun e => (ht (by rw [e]; exact hs)).trans (h.timer e)⟩
  channels u h := by
    rw [clearInhibits_frame]
    exact ⟨h.risen, h.timer⟩
  rises d _ h _ := h.rise d

/-- The DEADLINE latch is the deadline step's. -/
theorem inputSample_deadline (x : SafetySample) (s : State) :
    (inputSample x s).stops.latches.deadline = (stepDeadline s).stops.latches.deadline := by
  have h1 := (inputSample_cause (k := .deadline) nofun nofun x s).latch
  have h2 : getCause (evalEstop (sensed x s)).stops.latches .deadline = getCause (sensed x s).stops.latches .deadline := by
    refine evalEstop_keeps (P := fun u => getCause u.stops.latches .deadline =
      getCause (sensed x s).stops.latches .deadline) ?_ (fun _ _ h => h) fun d u hd h => (rise_latch_other ?_ u).trans h
    · rw [(judged_causes _).1]
    · rw [hd]; exact nofun
  obtain ⟨q, f, n, hv⟩ := sensed_fields x s
  refine (h1.trans h2).trans ?_
  rw [hv]
  rfl

/-- R99: a crane in STOPPING whose deadline counts. -/
structure Counting (n : RunningTimer) (u : State) : Prop where
  state : u.crane.state = .stopping
  timer : u.stops.deadlineTimer = some n

theorem Counting.rise {n : RunningTimer} (h : Counting n u) (c : Option Chan) : Counting n (rise (.grip c) u) := by
  have hc : (Machine.rise (.grip c) u).crane = u.crane := by
    rw [(rise_of_stopped (d := .grip c) rfl nofun nofun (.inl h.state)).crane, latchCause_crane]
  exact ⟨by rw [hc, h.state], (rise_deadlineTimer (by rw [hc])).trans h.timer⟩

/-- R99: neither ESTOP nor OVERTRAVEL rises; the deadline counts on. -/
theorem inputSample_counting {n : RunningTimer} (h : Counting n (stepDeadline s))
    (he : s.stops.conditions.estop ≠ none ∨ (inputSample x s).stops.conditions.estop = none)
    (ho : ∀ i, ((inputSample x s).stops.overtravel.get i).filtered = true → (s.stops.overtravel.get i).filtered = true) :
    Counting n (inputSample x s) := by
  have hnone : risenLines s.stops.overtravel (evalEstop (sensed x s)) = [] := by
    rw [risenLines_inputSample]
    refine List.eq_nil_iff_forall_not_mem.2 fun i hi => ?_
    obtain ⟨h1, h2⟩ := mem_risenLines.1 hi
    rw [ho i h2] at h1
    cases h1
  have hsensed : Counting n (sensed x s) := by
    obtain ⟨q, f, m, hv⟩ := sensed_fields x s
    rw [hv]
    exact ⟨h.state, h.timer⟩
  have hestop : Counting n (evalEstop (sensed x s)) := by
    have hj : Counting n (judged (sensed x s)) := ⟨hsensed.state, (judged_causes _).2.2.trans hsensed.timer⟩
    rcases evalEstop_cases (sensed x s) with ⟨hv, -⟩ | ⟨d, hd, hc, hv⟩
    · rw [hv]
      exact ⟨hj.state, hj.timer⟩
    · rcases he with he | he
      · rw [sensed_conditions] at hc
        exact absurd hc he
      · have hcond := (inputSample_cause (k := .estop) nofun nofun x s).condition
        rw [hv, rise_conditions] at hcond
        exact absurd (hcond.symm.trans he) nofun
  refine afterOvertravel_keeps ?_ (fun u h => ?_) (fun _ _ h => ⟨h.state, h.timer⟩) fun c u h => h.rise c
  · rw [evalOvertravel_eq, hnone, List.foldl_nil]
    exact ⟨hestop.state, hestop.timer⟩
  · rw [clearInhibits_frame]
    exact ⟨h.state, h.timer⟩

/-- Settles O45: each timed input by the stage of the sample that steps it. -/
theorem timedInputsExpire : Obligations.TimedInputsExpire := by
  intro s x hr
  have hx := exec_inputSample hr x
  refine ⟨fun ht hd ho => ?_, ⟨_, hx, ?_⟩, fun d hs hd he hl => ?_, fun hp ha => ?_, ⟨_, hx, ?_⟩⟩
  · obtain ⟨he, h1, h2, h3⟩ := exec_discrepancyLatch hr ht hd ho
    exact ⟨_, he, hx, h1, h2, h3⟩
  · obtain ⟨h1, h2, h3⟩ := inputSample_discrepancy (t := inputSample x s) rfl
    refine ⟨h1, h2, fun ho => ?_⟩
    obtain ⟨h4, h5, h6, h7⟩ := h3 ho
    exact ⟨h4, h5, h6, fun n hd ht hn => (h7 n hd ht).1 hn⟩
  · have hdue : deadlineDue s = true := by simp [deadlineDue, hs, hd, he]
    have hex := inputSample_expired (x := x) (by
      rw [stepDeadline_expires hs hd he]
      exact expired_rise_deadline hs hl)
    exact ⟨_, exec_inputEvent (happens := fun s _ => deadlineDue s) hr rfl hdue, hx, hex.state, hex.latch, hex.timer⟩
  · have hf : (inputSample x s).stops.frame = ⟨false, true, 0⟩ := (inputSample_frame x s).trans (sensed_lapse ⟨hp, ha⟩)
    have hi := inputSample_turned (x := x) (s := s) (.inr ⟨hp, ha⟩)
    refine ⟨_, exec_inputEvent (happens := fun s t => s.stops.frame.present && !t.stops.frame.present) hr rfl
      (by rw [hp, hf]; rfl), hx, by rw [hf], by rw [hf], by rw [hi]; exact nofun⟩
  · refine ⟨fun hp ha => (inputSample_frame x s).trans (sensed_frame_running hp ha),
      fun hp => (inputSample_frame x s).trans (sensed_frame_absent hp), fun hs => ⟨?_, ?_⟩, fun d hs hd he => ⟨?_, ?_⟩⟩
    · rw [inputSample_deadline, stepDeadline_ready hs]
    · exact ((timerStands_sample hs).inputSample x (s := s) ⟨.inl rfl, fun _ => rfl⟩).timer
    · rw [inputSample_deadline, stepDeadline_running s d hd he, if_pos hs]
    · intro h1 h2
      have hc : Counting { d with elapsed := d.elapsed + 1 } (stepDeadline s) := by
        rw [stepDeadline_running s d hd he, if_pos hs]
        exact ⟨hs, rfl⟩
      have ht := inputSample_counting (x := x) hc h1 h2
      exact ⟨ht.state, ht.timer⟩

end Sys2Proof.Machine

/-! The mark requests (O48). -/

namespace Sys2Proof.Machine

section Marks

variable {s : State} {n : Byte} {tag : BitVec 16} {mask : ChannelMask}

/-! ## Masks and values -/

theorem getLsbD_foldl_mask (p : PerChannel Bool) (l : List Chan) (m : ChannelMask) (c : Chan) :
    maskHas (l.foldl (fun m c => if p.get c then m ||| (1#16 <<< chanIndex c) else m) m) c =
      (maskHas m c || l.any fun d => p.get d && d == c) := by
  induction l generalizing m with
  | nil => simp
  | cons d l ih =>
    have hbit : maskHas (1#16 <<< chanIndex d) c = (d == c) := by cases c <;> cases d <;> decide
    rw [List.foldl_cons, ih, List.any_cons]
    cases p.get d with
    | false => simp
    | true =>
      have hor : maskHas (m ||| 1#16 <<< chanIndex d) c = (maskHas m c || maskHas (1#16 <<< chanIndex d) c) :=
        BitVec.getLsbD_or
      simp only [if_true, hor, hbit, Bool.true_and, Bool.or_assoc]

/-- The mask of a set names its channels. -/
theorem maskHas_maskOf (p : PerChannel Bool) (c : Chan) : maskHas (maskOf p) c = p.get c := by
  rw [maskOf, getLsbD_foldl_mask]
  have hz : maskHas 0#16 c = false := by cases c <;> rfl
  rw [hz, Bool.false_or, Bool.eq_iff_iff]
  simp [mem_allChans]

variable {values : List (Chan × Int)} {c : Chan} {v : Int}

theorem clampValues_fst (s : State) (values : List (Chan × Int)) :
    (clampValues s values).map Prod.fst = values.map Prod.fst := by simp [clampValues]

theorem zip_fst_sublist {α β : Type} : ∀ (xs : List α) (ys : List β), ((xs.zip ys).map Prod.fst).Sublist xs
  | [], _ => by simp
  | _ :: _, [] => List.nil_sublist _
  | x :: xs, _ :: ys => (zip_fst_sublist xs ys).cons_cons x

theorem find?_of_nodup_fst (h : (values.map Prod.fst).Nodup) (hp : (c, v) ∈ values) :
    values.find? (fun p => p.1 == c) = some (c, v) := by
  induction values with
  | nil => cases hp
  | cons q values ih =>
    obtain ⟨hq, hn⟩ := List.nodup_cons.1 h
    rcases List.mem_cons.1 hp with rfl | hp
    · simp
    · have hne : q.1 ≠ c := fun e => hq (e ▸ List.mem_map_of_mem hp)
      rw [List.find?_cons_of_neg (by simpa using hne), ih hn hp]

/-- R110: a value that a mark stores. -/
theorem valuesOf_clamped (h : (values.map Prod.fst).Nodup) (hp : (c, v) ∈ values) :
    (valuesOf (clampValues s values)).get c = some (clampInt (s.lo c) (s.hi c) v) := by
  have hf := find?_of_nodup_fst (values := clampValues s values) (c := c) (v := clampInt (s.lo c) (s.hi c) v)
    (by rw [clampValues_fst]; exact h) (List.mem_map_of_mem (f := fun p => (p.1, clampInt (s.lo p.1) (s.hi p.1) p.2)) hp)
  rw [valuesOf, PerChannel.get_ofFn, hf]
  rfl

theorem valuesOf_other (h : c ∉ values.map Prod.fst) : (valuesOf (clampValues s values)).get c = none := by
  rw [valuesOf, PerChannel.get_ofFn, List.find?_eq_none.2 fun p hp => ?_]
  · rfl
  · intro he
    have hm : p.1 ∈ (clampValues s values).map Prod.fst := List.mem_map_of_mem hp
    rw [clampValues_fst, beq_iff_eq.1 he] at hm
    exact h hm

/-- R110: the mask of the clamped channels. -/
theorem clampedChannels_of_mem (h : (values.map Prod.fst).Nodup) (hp : (c, v) ∈ values) :
    maskHas (maskOf (clampedChannels s values)) c = true ↔ clampInt (s.lo c) (s.hi c) v ≠ v := by
  rw [maskHas_maskOf, clampedChannels, PerChannel.get_ofFn, List.any_eq_true]
  constructor
  · rintro ⟨⟨d, w⟩, hq, hw⟩
    obtain ⟨rfl, hw⟩ : d = c ∧ clampInt (s.lo c) (s.hi c) w ≠ w := by simpa using hw
    have := (find?_of_nodup_fst h hp).symm.trans (find?_of_nodup_fst h hq)
    cases this
    exact hw
  · exact fun hw => ⟨_, hp, by simpa using hw⟩

theorem clampedChannels_other (h : c ∉ values.map Prod.fst) : maskHas (maskOf (clampedChannels s values)) c = false := by
  rw [maskHas_maskOf, clampedChannels, PerChannel.get_ofFn, List.any_eq_false]
  intro p hp he
  have hc : p.1 = c := by simpa using (Bool.and_eq_true_iff.1 he).1
  exact h (hc ▸ List.mem_map_of_mem hp)

/-! ## Storing a mark (R107 to R113) -/

theorem markWriteCode_locked {k : Mark} (h1 : 1 ≤ n.toNat) (h2 : n.toNat ≤ 128) (hm : mask ≠ 0#16) (hb : mask.toNat < 512)
    (hk : s.findMark n.toNat = some k) (hl : k.locked = true) : markWriteCode n mask s = some .locked := by
  rw [markWriteCode, markNumberValid_iff.2 ⟨h1, h2⟩, maskValid_iff.2 ⟨hm, hb⟩, if_neg (by simp), hk]
  exact if_pos hl

theorem markWriteCode_accepts (h1 : 1 ≤ n.toNat) (h2 : n.toNat ≤ 128) (hm : mask ≠ 0#16) (hb : mask.toNat < 512)
    (hl : ∀ k, s.findMark n.toNat = some k → k.locked = false) : markWriteCode n mask s = none := by
  rw [markWriteCode, markNumberValid_iff.2 ⟨h1, h2⟩, maskValid_iff.2 ⟨hm, hb⟩, if_neg (by simp), if_neg]
  cases hk : s.findMark n.toNat with
  | none => exact nofun
  | some k => simp [hl k hk]

theorem requestMarkSet_refused {vs : List (BitVec 32)} {code : ResultCode} (hv : vs.length = maskCount mask)
    (hc : markWriteCode n mask s = some code) : requestMarkSet n tag mask vs s = refuse s code := by
  rw [requestMarkSet, if_neg (not_not.2 hv), hc]

theorem requestMarkSet_stored {vs : List (BitVec 32)} (hv : vs.length = maskCount mask)
    (hc : markWriteCode n mask s = none) : requestMarkSet n tag mask vs s =
      ((storeMark n.toNat tag ((maskChans mask).zip (vs.map BitVec.toInt)) s).1,
        ⟨clampResult (storeMark n.toNat tag ((maskChans mask).zip (vs.map BitVec.toInt)) s).2,
          maskBytes (storeMark n.toNat tag ((maskChans mask).zip (vs.map BitVec.toInt)) s).2⟩) := by
  rw [requestMarkSet, if_neg (not_not.2 hv), hc]

theorem requestMarkCapture_refused {code : ResultCode} (hc : markWriteCode n mask s = some code) :
    requestMarkCapture n tag mask s = refuse s code := by
  rw [requestMarkCapture, hc]

theorem requestMarkCapture_state (hc : markWriteCode n mask s = none)
    (h : ((maskChans mask).all fun c => capturable (s.chan c)) = false) :
    requestMarkCapture n tag mask s = refuse s .state := by
  rw [requestMarkCapture, hc]
  exact if_pos h

theorem requestMarkCapture_stored (hc : markWriteCode n mask s = none)
    (h : ((maskChans mask).all fun c => capturable (s.chan c)) = true) : requestMarkCapture n tag mask s =
      ((storeMark n.toNat tag (capturedValues mask s) s).1,
        ⟨clampResult (storeMark n.toNat tag (capturedValues mask s) s).2,
          maskBytes (storeMark n.toNat tag (capturedValues mask s) s).2 ++
            (clampValues s (capturedValues mask s)).flatMap fun p => s32 p.2⟩) := by
  rw [requestMarkCapture, hc]
  exact if_neg (by rw [h]; exact nofun)

/-- R107: the lock and the reference count of the mark that a request stores. -/
theorem storedMark_unlocked (hl : ∀ k, s.findMark n.toNat = some k → k.locked = false) :
    (storedMark (s.findMark n.toNat) n.toNat tag values).locked = false := by
  show ((s.findMark n.toNat).map (·.locked)).getD false = false
  cases hk : s.findMark n.toNat with
  | none => rfl
  | some k => exact hl k hk

theorem capturable_iff (r : Channel) : capturable r = true ↔ r.known = true ∧ (r.drive = .active ∨ r.stale = 0) := by
  simp [capturable]

/-- What MARK_SET and MARK_CAPTURE leave. -/
theorem markStored {i : Instr} {f : State → State × Reply} {payload : List Byte} (hr : s.canReceive = true)
    (he : exec i s = .next (acceptUnit f s)) (hf : f (serveSupervision s) =
      ((storeMark n.toNat tag values (serveSupervision s)).1,
        ⟨clampResult (maskOf (clampedChannels s values)), payload⟩)) :
    ∃ t, Replied i s t (clampResult (maskOf (clampedChannels s values))) payload ∧
      t = { servedBy s t with marks := t.marks } ∧
      t.findMark n.toNat = some (storedMark (s.findMark n.toNat) n.toNat tag (clampValues s values)) ∧
      ∀ j, j ≠ n.toNat → t.findMark j = s.findMark j := by
  refine ⟨_, replied_of_taken hr he hf, ?_, ?_, fun j hj => ?_⟩
  · rw [storeMark, serveSupervision_eq]
    rfl
  · exact find_upsert_self (fun k : Mark => k.number) (storedMark (s.findMark n.toNat) n.toNat tag (clampValues s values)) _
  · exact find_upsert_other (fun k : Mark => k.number)
      (storedMark (s.findMark n.toNat) n.toNat tag (clampValues s values)) hj _

theorem markSet_stores (hr : s.canReceive = true) (h1 : 1 ≤ n.toNat) (h2 : n.toNat ≤ 128) (hm : mask ≠ 0#16)
    (hb : mask.toNat < 512) (hl : ∀ k, s.findMark n.toNat = some k → k.locked = false) (vs : List (BitVec 32))
    (hv : vs.length = maskCount mask) : ∃ t k clamped,
      Replied (.markSet n tag mask vs) s t (if clamped = 0#16 then .ok else .clamped) (maskBytes clamped) ∧
      t = { servedBy s t with marks := t.marks } ∧ t.findMark n.toNat = some k ∧
      (∀ j, j ≠ n.toNat → t.findMark j = s.findMark j) ∧ k.tag = tag ∧
      k.refCount = ((s.findMark n.toNat).map (·.refCount)).getD 0 ∧ k.locked = false ∧
      (∀ p ∈ (maskChans mask).zip vs, k.values.get p.1 = some (clampInt (s.lo p.1) (s.hi p.1) p.2.toInt) ∧
        (maskHas clamped p.1 = true ↔ clampInt (s.lo p.1) (s.hi p.1) p.2.toInt ≠ p.2.toInt)) ∧
      ∀ c, maskHas mask c = false → k.values.get c = none ∧ maskHas clamped c = false := by
  have hf := requestMarkSet_stored (s := serveSupervision s) (tag := tag) hv (markWriteCode_accepts h1 h2 hm hb hl)
  obtain ⟨t, hrep, ht, hself, hother⟩ := markStored hr (i := .markSet n tag mask vs) rfl hf
  have hsub := zip_fst_sublist (maskChans mask) (vs.map BitVec.toInt)
  have hnodup := hsub.nodup (maskChans_nodup mask)
  refine ⟨t, _, _, hrep, ht, hself, hother, rfl, rfl, storedMark_unlocked hl, fun p hp => ?_, fun c hc => ?_⟩
  · have hmem : (p.1, p.2.toInt) ∈ (maskChans mask).zip (vs.map BitVec.toInt) := by
      rw [List.zip_map_right]
      exact List.mem_map_of_mem (f := Prod.map id BitVec.toInt) hp
    exact ⟨valuesOf_clamped hnodup hmem, clampedChannels_of_mem hnodup hmem⟩
  · have hno : c ∉ ((maskChans mask).zip (vs.map BitVec.toInt)).map Prod.fst := fun hin => by
      have := mem_maskChans.1 (hsub.subset hin)
      rw [hc] at this
      cases this
    exact ⟨valuesOf_other hno, clampedChannels_other hno⟩

theorem markCapture_stores (hr : s.canReceive = true) (h1 : 1 ≤ n.toNat) (h2 : n.toNat ≤ 128) (hm : mask ≠ 0#16)
    (hb : mask.toNat < 512) (hl : ∀ k, s.findMark n.toNat = some k → k.locked = false)
    (hc : ∀ c, maskHas mask c = true → (s.chan c).known = true ∧ ((s.chan c).drive = .active ∨ (s.chan c).stale = 0)) :
    ∃ t k clamped,
      Replied (.markCapture n tag mask) s t (if clamped = 0#16 then .ok else .clamped) (maskBytes clamped ++
        (maskChans mask).flatMap fun c => s32 (clampInt (s.lo c) (s.hi c) (s.chan c).setpoint)) ∧
      t = { servedBy s t with marks := t.marks } ∧ t.findMark n.toNat = some k ∧
      (∀ j, j ≠ n.toNat → t.findMark j = s.findMark j) ∧ k.tag = tag ∧
      k.refCount = ((s.findMark n.toNat).map (·.refCount)).getD 0 ∧
      (∀ c, k.values.get c = if maskHas mask c = true then some (clampInt (s.lo c) (s.hi c) (s.chan c).setpoint) else none) ∧
      ∀ c, (maskHas clamped c = true ↔ maskHas mask c = true ∧
        clampInt (s.lo c) (s.hi c) (s.chan c).setpoint ≠ (s.chan c).setpoint) := by
  have hall : ((maskChans mask).all fun c => capturable ((serveSupervision s).chan c)) = true :=
    List.all_eq_true.2 fun c hmem => (capturable_iff _).2 (hc c (mem_maskChans.1 hmem))
  have hf := requestMarkCapture_stored (s := serveSupervision s) (tag := tag) (markWriteCode_accepts h1 h2 hm hb hl) hall
  have hfst : (capturedValues mask s).map Prod.fst = maskChans mask := by
    rw [capturedValues, List.map_map]
    exact List.map_id _
  have hpay : (clampValues s (capturedValues mask s)).flatMap (fun p => s32 p.2) =
      (maskChans mask).flatMap fun c => s32 (clampInt (s.lo c) (s.hi c) (s.chan c).setpoint) := by
    simp [clampValues, capturedValues, List.flatMap_map]
  obtain ⟨t, hrep, ht, hself, hother⟩ := markStored hr (i := .markCapture n tag mask) rfl hf
  have hnodup : ((capturedValues mask s).map Prod.fst).Nodup := hfst ▸ maskChans_nodup mask
  have hmem {c : Chan} (h : maskHas mask c = true) : (c, (s.chan c).setpoint) ∈ capturedValues mask s :=
    List.mem_map_of_mem (f := fun c => (c, (s.chan c).setpoint)) (mem_maskChans.2 h)
  have hno {c : Chan} (h : ¬maskHas mask c = true) : c ∉ (capturedValues mask s).map Prod.fst := by
    rw [hfst, mem_maskChans]
    exact h
  refine ⟨t, _, maskOf (clampedChannels s (capturedValues mask s)), ?_, ht, hself, hother, rfl, rfl, fun c => ?_, fun c => ?_⟩
  · rw [← hpay]
    exact hrep
  · split
    next h => exact valuesOf_clamped hnodup (hmem h)
    next h => exact valuesOf_other (hno h)
  · by_cases h : maskHas mask c = true
    · rw [clampedChannels_of_mem hnodup (hmem h)]
      exact ⟨fun hw => ⟨h, hw⟩, And.right⟩
    · rw [clampedChannels_other (hno h)]
      exact ⟨nofun, fun hw => absurd hw.1 h⟩

/-! ## MARK_RETIRE (R116) -/

theorem requestMarkRetire_found {k : Mark} (h1 : 1 ≤ n.toNat) (h2 : n.toNat ≤ 128) (hk : s.findMark n.toNat = some k) :
    requestMarkRetire n s = if k.locked then refuse s .locked else if k.refCount ≠ 0 then refuse s .inUse
      else accept { s with marks := eraseKey (·.number) n.toNat s.marks } [] := by
  rw [requestMarkRetire, if_neg (by simp [markNumberValid_iff.2 ⟨h1, h2⟩]), hk]

/-- Settles O48: a stored mark holds the clamped values of its channels; the tests of each request in their order. -/
theorem marksAreStoredAndRetired : Obligations.MarksAreStoredAndRetired := by
  refine ⟨fun s n tag mask hr h1 h2 hm hb => ⟨fun ⟨k, hk, hl⟩ => ?_, fun hl => ⟨?_, fun ⟨c, hc, hbad⟩ => ?_, ?_⟩⟩,
    fun s n hr => ⟨fun h => ?_, fun h1 h2 hn => ?_, fun k h1 h2 hk => ?_⟩⟩
  · have hcode := markWriteCode_locked (s := serveSupervision s) h1 h2 hm hb hk hl
    exact ⟨refusedWith_of_accepted hr (f := requestMarkCapture n tag mask) rfl (requestMarkCapture_refused hcode),
      fun vs hv => refusedWith_of_accepted hr (f := requestMarkSet n tag mask vs) rfl (requestMarkSet_refused hv hcode)⟩
  · exact markSet_stores hr h1 h2 hm hb hl
  · refine refusedWith_of_accepted hr (f := requestMarkCapture n tag mask) rfl
      (requestMarkCapture_state (markWriteCode_accepts h1 h2 hm hb hl) ?_)
    refine List.all_eq_false.2 ⟨c, mem_maskChans.2 hc, fun hcap => ?_⟩
    obtain ⟨hk, hd⟩ := (capturable_iff _).1 hcap
    rcases hbad with hbad | ⟨hbad1, hbad2⟩
    · exact Bool.false_ne_true (hbad.symm.trans hk)
    · exact hd.elim hbad1 hbad2
  · exact markCapture_stores hr h1 h2 hm hb hl
  · exact refusedWith_of_accepted hr (f := requestMarkRetire n) rfl (by
      rw [requestMarkRetire, markNumber_false h, if_pos rfl])
  · exact refusedWith_of_accepted hr (f := requestMarkRetire n) rfl (by
      rw [requestMarkRetire, if_neg (by simp [markNumberValid_iff.2 ⟨h1, h2⟩])]
      rw [show (serveSupervision s).findMark n.toNat = none from hn])
  · have hf := requestMarkRetire_found (s := serveSupervision s) h1 h2 hk
    refine ⟨fun hl => ?_, fun hl hu => ?_, fun hl hu => ?_⟩
    · exact refusedWith_of_accepted hr (f := requestMarkRetire n) rfl (hf.trans (if_pos hl))
    · exact refusedWith_of_accepted hr (f := requestMarkRetire n) rfl
        (hf.trans ((if_neg (by simp [hl])).trans (if_pos hu)))
    · have hset := hf.trans ((if_neg (by simp [hl])).trans (if_neg (not_not.2 hu)))
      refine ⟨_, replied_of_taken hr (f := requestMarkRetire n) rfl hset, ?_,
        find_eraseKey_self (fun k : Mark => k.number) _ _, fun j hj => find_eraseKey_other (fun k : Mark => k.number) hj _⟩
      rw [serveSupervision_eq]
      rfl

end Marks

end Sys2Proof.Machine

/-! The take requests and the cue edits (O49, O50). -/

namespace Sys2Proof.Machine

section Takes

variable {s : State} {n p : Byte} {q : CueOperands} {x : Take} {tag : BitVec 16}

/-! ## The requests on a take of the table -/

theorem requestTakeCueInsert_found (h1 : 1 ≤ n.toNat) (h2 : n.toNat ≤ 16) (hx : s.findTake n.toNat = some x)
    (hp : 1 ≤ p.toNat) (hp2 : p.toNat ≤ 65) (hq : cueValid q = true) : requestTakeCueInsert n p q s =
      if x.active then refuse s .locked
      else if x.cues.length + 1 < p.toNat then refuse s .badOperand
      else if Config.cuesPerTake ≤ x.cues.length ∨ s.freeCues = 0 then refuse s .full
      else if (s.findMark q.mark.toNat).isNone then refuse s .notFound
      else editCues x (insertCue p.toNat (storedCue q) x.cues) [storedCue q] [] s := by
  rw [requestTakeCueInsert, if_neg (by simp [takeNumberValid_iff.2 ⟨h1, h2⟩, natRange_iff.2 ⟨hp, hp2⟩, hq]), hx]

theorem requestTakeCueReplace_found (h1 : 1 ≤ n.toNat) (h2 : n.toNat ≤ 16) (hx : s.findTake n.toNat = some x)
    (hp : 1 ≤ p.toNat) (hp2 : p.toNat ≤ 64) (hq : cueValid q = true) : requestTakeCueReplace n p q s =
      if x.active then refuse s .locked
      else if x.cues.length < p.toNat then refuse s .badOperand
      else if (s.findMark q.mark.toNat).isNone then refuse s .notFound
      else editCues x (replaceCue p.toNat (storedCue q) x.cues) [storedCue q] (cueAt p.toNat x.cues) s := by
  rw [requestTakeCueReplace, if_neg (by simp [takeNumberValid_iff.2 ⟨h1, h2⟩, cuePosition_iff.2 ⟨hp, hp2⟩, hq]), hx]

theorem requestTakeCueDelete_found (h1 : 1 ≤ n.toNat) (h2 : n.toNat ≤ 16) (hx : s.findTake n.toNat = some x)
    (hp : 1 ≤ p.toNat) (hp2 : p.toNat ≤ 64) : requestTakeCueDelete n p s =
      if x.active then refuse s .locked
      else if x.cues.length < p.toNat then refuse s .badOperand
      else editCues x (deleteCue p.toNat x.cues) [] (cueAt p.toNat x.cues) s := by
  rw [requestTakeCueDelete, if_neg (by simp [takeNumberValid_iff.2 ⟨h1, h2⟩, cuePosition_iff.2 ⟨hp, hp2⟩]), hx]

/-- The state after the retirement of a take. -/
def takeRetired (x : Take) (s : State) : State :=
  { s with takes := eraseKey (·.number) x.number s.takes, marks := moveReferences [] x.cues s.marks }

theorem findTake_number (hx : s.findTake n.toNat = some x) : x.number = n.toNat := (findTake_some hx).2

theorem requestTakeRetire_found (h1 : 1 ≤ n.toNat) (h2 : n.toNat ≤ 16) (hx : s.findTake n.toNat = some x) :
    requestTakeRetire n s = if x.active then refuse s .locked
      else accept (takeRetired x s) (u16 (takeRetired x s).freeCues) := by
  rw [requestTakeRetire, if_neg (by simp [takeNumberValid_iff.2 ⟨h1, h2⟩]), hx, takeRetired, findTake_number hx]

/-! ## The tables after an edit -/

theorem findMark_moveReferences (added removed : List Cue) (marks : List Mark) (m : Nat) :
    (moveReferences added removed marks).find? (fun k => k.number == m) =
      (marks.find? fun k => k.number == m).map fun k =>
        { k with refCount := k.refCount + countCues m added - countCues m removed } := by
  rw [moveReferences, find_map_key (key := fun k : Mark => k.number)
    (f := fun k => { k with refCount := k.refCount + countCues k.number added - countCues k.number removed }) fun _ => rfl]
  refine Option.map_congr fun k hk => ?_
  have hn : k.number = m := by simpa using List.find?_some hk
  rw [hn]

theorem countCues_stored (m : Nat) (q : CueOperands) : countCues m [storedCue q] = if q.mark.toNat = m then 1 else 0 := by
  by_cases h : q.mark.toNat = m <;> simp [countCues, storedCue, h]

theorem countCues_single (m : Nat) (o : Cue) : countCues m [o] = if o.mark = m then 1 else 0 := by
  by_cases h : o.mark = m <;> simp [countCues, h]

theorem findTake_setCues_same {cues added removed : List Cue} (hx : s.findTake n.toNat = some x) :
    (setCues x cues added removed s).findTake n.toNat = some { x with cues := cues } := by
  have hkey : ∀ u : Take, (if u.number = x.number then { u with cues := cues } else u).number = u.number := fun u => by
    split <;> rfl
  have hf : s.takes.find? (fun u => u.number == n.toNat) = some x := hx
  show (s.takes.map _).find? _ = _
  rw [find_map_key (key := fun u : Take => u.number) hkey, hf, Option.map_some, if_pos rfl]

theorem findTake_setCues_other {cues added removed : List Cue} {j : Nat} (hj : j ≠ x.number) :
    (setCues x cues added removed s).findTake j = s.findTake j := by
  have hkey : ∀ u : Take, (if u.number = x.number then { u with cues := cues } else u).number = u.number := fun u => by
    split <;> rfl
  show (s.takes.map _).find? _ = s.takes.find? _
  rw [find_map_key (key := fun u : Take => u.number) hkey]
  refine (Option.map_congr (g := id) fun u hu => ?_).trans (congrFun Option.map_id _)
  have hn : u.number = j := by simpa using List.find?_some hu
  rw [if_neg (by omega), id]

theorem cuesStored_setCues {cues added removed : List Cue} (h : RecordsAgree s) (hx : x ∈ s.takes) :
    cuesStored (setCues x cues added removed s).takes + x.cues.length = cuesStored s.takes + cues.length :=
  sum_replace h.takeOrder hx (fun u => u.cues.length) fun u => { u with cues := cues }

theorem freeCues_eq (s : State) : s.freeCues = 256 - cuesStored s.takes := rfl

/-- R108, R122: an accepted edit. -/
theorem editCues_taken {i : Instr} {f : State → State × Reply} {cues added removed : List Cue} (hr : s.canReceive = true)
    (h : RecordsAgree s) (hx : s.findTake n.toNat = some x) (he : exec i s = .next (acceptUnit f s))
    (hf : f (serveSupervision s) = editCues x cues added removed (serveSupervision s)) : ∃ t,
      Replied i s t .ok (u8 cues.length ++ u16 (256 - (cuesStored s.takes + cues.length - x.cues.length))) ∧
      t = { servedBy s t with takes := t.takes, marks := t.marks } ∧ t.findTake n.toNat = some { x with cues := cues } ∧
      (∀ j, j ≠ n.toNat → t.findTake j = s.findTake j) ∧
      ∀ m, t.findMark m = (s.findMark m).map fun k => { k with
        refCount := k.refCount + countCues m added - countCues m removed } := by
  have hsum := cuesStored_setCues (cues := cues) (added := added) (removed := removed) h (findTake_some hx).1
  have hcount : cueCounts cues (setCues x cues added removed (serveSupervision s)) =
      u8 cues.length ++ u16 (256 - (cuesStored s.takes + cues.length - x.cues.length)) := by
    rw [cueCounts, freeCues_eq, ← hsum, Nat.add_sub_cancel]
    rfl
  have hf2 : f (serveSupervision s) = (setCues x cues added removed (serveSupervision s),
      ⟨.ok, u8 cues.length ++ u16 (256 - (cuesStored s.takes + cues.length - x.cues.length))⟩) := by
    rw [hf, ← hcount]
    rfl
  refine ⟨_, replied_of_taken hr he hf2, ?_, ?_, fun j hj => ?_, fun m => ?_⟩
  · rw [serveSupervision_eq]
    rfl
  · exact findTake_setCues_same (added := added) (removed := removed) (s := serveSupervision s) hx
  · exact findTake_setCues_other (added := added) (removed := removed) (s := serveSupervision s) (by rw [findTake_number hx]; exact hj)
  · exact findMark_moveReferences added removed s.marks m

/-! ## The cue lists -/

theorem insertCue_getElem {k : Nat} (hk : k ≤ x.cues.length + 1) (c : Cue) :
    (insertCue k c x.cues)[k - 1]? = some c := by
  have hl : (x.cues.take (k - 1)).length = k - 1 := by rw [List.length_take]; omega
  rw [insertCue, List.getElem?_append_right (by omega), hl, Nat.sub_self]
  rfl

theorem insertCue_eraseIdx {k : Nat} (hk : k ≤ x.cues.length + 1) (c : Cue) :
    (insertCue k c x.cues).eraseIdx (k - 1) = x.cues := by
  have hl : (x.cues.take (k - 1)).length = k - 1 := by rw [List.length_take]; omega
  rw [insertCue, List.eraseIdx_append_of_length_le (by omega), hl, Nat.sub_self, List.eraseIdx_cons_zero,
    List.take_append_drop]

theorem length_of_getElem {k : Nat} {o : Cue} {cs : List Cue} (hk : 1 ≤ k) (h : cs[k - 1]? = some o) : k ≤ cs.length := by
  have := (List.getElem?_eq_some_iff.1 h).1
  omega

theorem replaceCue_eq {k : Nat} {o : Cue} {cs : List Cue} (hk : 1 ≤ k) (h : cs[k - 1]? = some o) (c : Cue) :
    replaceCue k c cs = cs.set (k - 1) c := by
  have := length_of_getElem hk h
  rw [replaceCue, List.set_eq_take_append_cons_drop, if_pos (by omega), Nat.sub_add_cancel hk]

theorem deleteCue_eq {k : Nat} (hk : 1 ≤ k) (cs : List Cue) : deleteCue k cs = cs.eraseIdx (k - 1) := by
  rw [deleteCue, List.eraseIdx_eq_take_drop_succ, Nat.sub_add_cancel hk]

theorem cueAt_eq {k : Nat} {o : Cue} {cs : List Cue} (h : cs[k - 1]? = some o) : cueAt k cs = [o] := by
  obtain ⟨hl, he⟩ := List.getElem?_eq_some_iff.1 h
  rw [cueAt, List.drop_eq_getElem_cons hl, he]
  rfl

/-- Settles O50: each accepted edit is `editCues` of a list changed at one place. -/
theorem cueEditsChangeOnePlace : Obligations.CueEditsChangeOnePlace := by
  intro s n p x hr h h1 h2 hx hp ha
  have hlen : x.cues.length ≤ 64 := h.takeLengths x (findTake_some hx).1
  have hact : ¬x.active = true := by simp [ha]
  refine ⟨fun q hq hk hl hs hm => ?_, fun q o hq ho hm => ?_, fun o ho => ?_⟩
  · have hf := requestTakeCueInsert_found (s := serveSupervision s) h1 h2 hx hp (by omega) hq
    rw [if_neg hact, if_neg (by omega), if_neg (not_or.2 ⟨by simp only [Config.cuesPerTake]; omega, ?_⟩), if_neg ?_] at hf
    · obtain ⟨t, hrep, ht, hself, hother, hmark⟩ := editCues_taken hr h hx (i := .takeCueInsert n p q) rfl hf
      have hlength := length_insertCue p.toNat (storedCue q) x.cues
      refine ⟨t, _, ?_, ht, hself, hlength, insertCue_getElem hk _, insertCue_eraseIdx hk _, hother, fun m => ?_⟩
      · rw [hlength] at hrep
        have he : cuesStored s.takes + (x.cues.length + 1) - x.cues.length = cuesStored s.takes + 1 := by omega
        rw [he] at hrep
        exact hrep
      · rw [hmark, countCues_stored]
        rfl
    · rw [Option.isNone_iff_eq_none]
      exact hm
    · rw [freeCues_eq]
      show ¬256 - cuesStored s.takes = 0
      omega
  · have hk := length_of_getElem hp ho
    have hf := requestTakeCueReplace_found (s := serveSupervision s) h1 h2 hx hp (by omega) hq
    rw [if_neg hact, if_neg (by omega), if_neg (by rw [Option.isNone_iff_eq_none]; exact hm), cueAt_eq ho,
      replaceCue_eq hp ho] at hf
    obtain ⟨t, hrep, ht, hself, hother, hmark⟩ := editCues_taken hr h hx (i := .takeCueReplace n p q) rfl hf
    refine ⟨t, ?_, ht, hself, hother, fun m => ?_⟩
    · rw [List.length_set, Nat.add_sub_cancel] at hrep
      exact hrep
    · rw [hmark, countCues_stored, countCues_single]
  · have hk := length_of_getElem hp ho
    have hf := requestTakeCueDelete_found (s := serveSupervision s) h1 h2 hx hp (by omega)
    rw [if_neg hact, if_neg (by omega), cueAt_eq ho, deleteCue_eq hp] at hf
    obtain ⟨t, hrep, ht, hself, hother, hmark⟩ := editCues_taken hr h hx (i := .takeCueDelete n p) rfl hf
    refine ⟨t, ?_, ht, hself, hother, fun m => ?_⟩
    · rw [List.length_eraseIdx_of_lt (by omega)] at hrep
      have he : cuesStored s.takes + (x.cues.length - 1) - x.cues.length = cuesStored s.takes - 1 := by omega
      rw [he] at hrep
      exact hrep
    · rw [hmark, countCues_single]
      rfl

/-! ## Takes created and retired, and edits refused (R122, R124 to R130) -/

theorem cueValid_iff (q : CueOperands) : cueValid q = true ↔ 1 ≤ q.mark.toNat ∧ q.mark.toNat ≤ 128 ∧
    1 ≤ q.travel.toNat ∧ q.travel.toNat ≤ 600000 ∧ q.dwell.toNat ≤ 600000 ∧ q.curve.toNat ≤ 1 ∧ q.mask ≠ 0#16 ∧
    q.mask.toNat < 512 := by
  simp only [cueValid, Bool.and_eq_true, markNumberValid_iff, natRange_iff, maxDuration, twoValued_isSome_iff,
    maskValid_iff, Nat.zero_le, true_and]
  tauto

theorem requestTakeCreate_fresh (h1 : 1 ≤ n.toNat) (h2 : n.toNat ≤ 16) (hx : s.findTake n.toNat = none) :
    requestTakeCreate n tag s = accept { s with takes := upsert (·.number) (newTake n.toNat tag) s.takes } [] := by
  rw [requestTakeCreate, if_neg (by simp [takeNumberValid_iff.2 ⟨h1, h2⟩]), hx]
  exact if_neg (by simp)

theorem requestTakeCreate_exists (h1 : 1 ≤ n.toNat) (h2 : n.toNat ≤ 16) (hx : s.findTake n.toNat ≠ none) :
    requestTakeCreate n tag s = refuse s .exists_ := by
  rw [requestTakeCreate, if_neg (by simp [takeNumberValid_iff.2 ⟨h1, h2⟩])]
  exact if_pos (Option.isSome_iff_ne_none.2 hx)

theorem cuesStored_upsert (hx : s.findTake n.toNat = none) :
    cuesStored (upsert (·.number) (newTake n.toNat tag) s.takes) = cuesStored s.takes := by
  have hne : ∀ u ∈ s.takes, u.number ≠ n.toNat := fun u hu => by simpa using List.find?_eq_none.1 hx u hu
  exact sum_upsert (k := newTake n.toNat tag) (takes := s.takes) (fun u => u.cues.length) hne

/-- R125: a take is created. -/
theorem takeCreate_fresh (hr : s.canReceive = true) (h1 : 1 ≤ n.toNat) (h2 : n.toNat ≤ 16)
    (hx : s.findTake n.toNat = none) : ∃ t, Replied (.takeCreate n tag) s t .ok [] ∧
      t = { servedBy s t with takes := t.takes } ∧ t.findTake n.toNat = some ⟨n.toNat, tag, [], .none, 0, 0, false⟩ ∧
      (∀ j, j ≠ n.toNat → t.findTake j = s.findTake j) ∧ t.freeCues = s.freeCues := by
  have hf := requestTakeCreate_fresh (s := serveSupervision s) (tag := tag) h1 h2 hx
  refine ⟨_, replied_of_taken hr (f := requestTakeCreate n tag) rfl hf, ?_,
    find_upsert_self (fun u : Take => u.number) (newTake n.toNat tag) _,
    fun j hj => find_upsert_other (fun u : Take => u.number) (newTake n.toNat tag) hj _, ?_⟩
  · rw [serveSupervision_eq]
    rfl
  · rw [freeCues_eq, freeCues_eq]
    exact congrArg (256 - ·) (cuesStored_upsert hx)

theorem requestTakeArm_empty (h1 : 1 ≤ n.toNat) (h2 : n.toNat ≤ 16) (hx : s.findTake n.toNat = some x)
    (hc : x.cues = []) (hr : s.crane.state = .ready) (hi : s.engine.state = .idle) :
    requestTakeArm n s = refuse s .badOperand := by
  rw [requestTakeArm, if_neg (by simp [takeNumberValid_iff.2 ⟨h1, h2⟩]), hx]
  dsimp only
  rw [if_neg (by simp [hr, hi]), if_pos (.inl hc)]

/-- R124: the active take refuses its edits. -/
theorem active_refuses (hr : s.canReceive = true) (h1 : 1 ≤ n.toNat) (h2 : n.toNat ≤ 16)
    (hx : s.findTake n.toNat = some x) (hp : 1 ≤ p.toNat) (hp2 : p.toNat ≤ 65) (ha : x.active = true) :
    RefusedWith (.takeRetire n) s .locked ∧ (p.toNat ≤ 64 → RefusedWith (.takeCueDelete n p) s .locked) ∧
      ∀ q, cueValid q = true → RefusedWith (.takeCueInsert n p q) s .locked ∧
        (p.toNat ≤ 64 → RefusedWith (.takeCueReplace n p q) s .locked) := by
  refine ⟨?_, fun hp4 => ?_, fun q hq => ⟨?_, fun hp4 => ?_⟩⟩
  · exact refusedWith_of_accepted hr (f := requestTakeRetire n) rfl
      ((requestTakeRetire_found (s := serveSupervision s) h1 h2 hx).trans (if_pos ha))
  · exact refusedWith_of_accepted hr (f := requestTakeCueDelete n p) rfl
      ((requestTakeCueDelete_found (s := serveSupervision s) h1 h2 hx hp hp4).trans (if_pos ha))
  · exact refusedWith_of_accepted hr (f := requestTakeCueInsert n p q) rfl
      ((requestTakeCueInsert_found (s := serveSupervision s) h1 h2 hx hp hp2 hq).trans (if_pos ha))
  · exact refusedWith_of_accepted hr (f := requestTakeCueReplace n p q) rfl
      ((requestTakeCueReplace_found (s := serveSupervision s) h1 h2 hx hp hp4 hq).trans (if_pos ha))

/-- R127 to R129: the tests of an edit of a take that is not active. -/
theorem inactive_refuses (hr : s.canReceive = true) (h1 : 1 ≤ n.toNat) (h2 : n.toNat ≤ 16)
    (hx : s.findTake n.toNat = some x) (hp : 1 ≤ p.toNat) (hp2 : p.toNat ≤ 65) (ha : x.active = false)
    (hlen : x.cues.length ≤ 64) (hq : cueValid q = true) :
    (x.cues.length + 1 < p.toNat → RefusedWith (.takeCueInsert n p q) s .badOperand) ∧
    (p.toNat ≤ x.cues.length + 1 → x.cues.length = 64 ∨ cuesStored s.takes = 256 →
      RefusedWith (.takeCueInsert n p q) s .full) ∧
    (x.cues.length < p.toNat → p.toNat ≤ 64 → RefusedWith (.takeCueReplace n p q) s .badOperand ∧
      RefusedWith (.takeCueDelete n p) s .badOperand) ∧
    (s.findMark q.mark.toNat = none →
      (p.toNat ≤ x.cues.length + 1 → x.cues.length < 64 → cuesStored s.takes < 256 →
        RefusedWith (.takeCueInsert n p q) s .notFound) ∧
      (p.toNat ≤ x.cues.length → RefusedWith (.takeCueReplace n p q) s .notFound)) := by
  have hact : ¬x.active = true := by simp [ha]
  have hi := requestTakeCueInsert_found (s := serveSupervision s) h1 h2 hx hp hp2 hq
  rw [if_neg hact] at hi
  have hfree : (serveSupervision s).freeCues = 256 - cuesStored s.takes := rfl
  refine ⟨fun hk => ?_, fun hk hfull => ?_, fun hk hp4 => ⟨?_, ?_⟩, fun hm => ⟨fun hk hl hs => ?_, fun hk => ?_⟩⟩
  · exact refusedWith_of_accepted hr (f := requestTakeCueInsert n p q) rfl (hi.trans (if_pos hk))
  · refine refusedWith_of_accepted hr (f := requestTakeCueInsert n p q) rfl
      (hi.trans ((if_neg (by omega)).trans (if_pos ?_)))
    rw [hfree, Config.cuesPerTake]
    omega
  · exact refusedWith_of_accepted hr (f := requestTakeCueReplace n p q) rfl
      ((requestTakeCueReplace_found (s := serveSupervision s) h1 h2 hx hp hp4 hq).trans ((if_neg hact).trans (if_pos hk)))
  · exact refusedWith_of_accepted hr (f := requestTakeCueDelete n p) rfl
      ((requestTakeCueDelete_found (s := serveSupervision s) h1 h2 hx hp hp4).trans ((if_neg hact).trans (if_pos hk)))
  · refine refusedWith_of_accepted hr (f := requestTakeCueInsert n p q) rfl
      (hi.trans ((if_neg (by omega)).trans ((if_neg ?_).trans (if_pos (Option.isNone_iff_eq_none.2 hm)))))
    rw [hfree, Config.cuesPerTake]
    omega
  · exact refusedWith_of_accepted hr (f := requestTakeCueReplace n p q) rfl
      ((requestTakeCueReplace_found (s := serveSupervision s) h1 h2 hx hp (by omega) hq).trans
        ((if_neg hact).trans ((if_neg (by omega)).trans (if_pos (Option.isNone_iff_eq_none.2 hm)))))

/-- R130: a take is retired. -/
theorem takeRetire_inactive (hr : s.canReceive = true) (h : RecordsAgree s) (h1 : 1 ≤ n.toNat) (h2 : n.toNat ≤ 16)
    (hx : s.findTake n.toNat = some x) (ha : x.active = false) :
    ∃ t, Replied (.takeRetire n) s t .ok (u16 (256 - (cuesStored s.takes - x.cues.length))) ∧
      t = { servedBy s t with takes := t.takes, marks := t.marks } ∧ t.findTake n.toNat = none ∧
      (∀ j, j ≠ n.toNat → t.findTake j = s.findTake j) ∧
      ∀ m, t.findMark m = (s.findMark m).map fun k => { k with
        refCount := k.refCount - (x.cues.filter fun o => o.mark == m).length } := by
  have hf := (requestTakeRetire_found (s := serveSupervision s) h1 h2 hx).trans (if_neg (by simp [ha]))
  have hnum := findTake_number hx
  have hsum := sum_erase h.takeOrder (findTake_some hx).1 fun u => u.cues.length
  have hfree : (takeRetired x (serveSupervision s)).freeCues = 256 - (cuesStored s.takes - x.cues.length) := by
    rw [freeCues_eq]
    show 256 - ((eraseKey (·.number) x.number s.takes).map fun u => u.cues.length).sum =
      256 - ((s.takes.map fun u => u.cues.length).sum - x.cues.length)
    rw [← hsum, Nat.add_sub_cancel]
  rw [hfree] at hf
  refine ⟨_, replied_of_taken hr (f := requestTakeRetire n) rfl hf, ?_, ?_, fun j hj => ?_, fun m => ?_⟩
  · rw [serveSupervision_eq]
    rfl
  · show (eraseKey (·.number) x.number s.takes).find? (fun u => u.number == n.toNat) = none
    rw [hnum]
    exact find_eraseKey_self (fun u : Take => u.number) _ _
  · exact find_eraseKey_other (fun u : Take => u.number) (by rw [hnum]; exact hj) _
  · exact findMark_moveReferences [] x.cues s.marks m

/-- Settles O49: creation, retirement and edits by their tests in order. -/
theorem takesAreCreatedAndRetired : Obligations.TakesAreCreatedAndRetired := by
  refine ⟨fun q => ⟨cueValid_iff q, fun hq s n p hr => ⟨?_, ?_⟩⟩, fun s n tag hr => ⟨fun h => ?_, fun h1 h2 hx => ?_,
      fun h1 h2 hx => takeCreate_fresh hr h1 h2 hx, fun x h1 h2 hx hc hs hi => ?_⟩,
    fun s n p x hr h h1 h2 hx hp hp2 => ⟨fun ha => active_refuses hr h1 h2 hx hp hp2 ha, fun ha q hq => ?_,
      fun ha => takeRetire_inactive hr h h1 h2 hx ha⟩⟩
  · exact refusedWith_of_accepted hr (f := requestTakeCueInsert n p q) rfl
      (by rw [requestTakeCueInsert, if_pos (.inr (.inr hq))])
  · exact refusedWith_of_accepted hr (f := requestTakeCueReplace n p q) rfl
      (by rw [requestTakeCueReplace, if_pos (.inr (.inr hq))])
  · exact refusedWith_of_accepted hr (f := requestTakeCreate n tag) rfl
      (by rw [requestTakeCreate, if_pos (takeNumber_false h)])
  · exact refusedWith_of_accepted hr (f := requestTakeCreate n tag) rfl
      (requestTakeCreate_exists (s := serveSupervision s) h1 h2 hx)
  · exact refusedWith_of_accepted hr (f := requestTakeArm n) rfl
      (requestTakeArm_empty (s := serveSupervision s) h1 h2 hx hc hs hi)
  · exact inactive_refuses hr h1 h2 hx hp hp2 ha (h.takeLengths x (findTake_some hx).1) hq

end Takes

end Sys2Proof.Machine

/-! The lens: the limits in force, the maps and their selection, and the targets (O56). -/

namespace Sys2Proof.Machine

section Lens

variable {s : State} {c : Chan} {k : Fin 4} {b : Byte}

/-! ## The limits in force (R156, R159) -/

/-- What a fold that chooses one of two counts at each point ends with: a count in relation R to every one that it saw,
and one of them. -/
theorem foldl_chosen {f : Nat → Nat → Nat} {R : Nat → Nat → Prop} (left : ∀ a d, R (f a d) a) (right : ∀ a d, R (f a d) d)
    (refl : ∀ a, R a a) (trans : ∀ a d e, R a d → R d e → R a e) (one : ∀ a d, f a d = a ∨ f a d = d) :
    ∀ (ps : List MapPoint) (p : MapPoint),
      (∀ q ∈ p :: ps, R (ps.foldl (fun a q => f a q.count) p.count) q.count) ∧
        ∃ q ∈ p :: ps, ps.foldl (fun a q => f a q.count) p.count = q.count := by
  intro ps
  induction ps with
  | nil => exact fun p => ⟨fun q hq => by simp at hq; rw [hq]; exact refl _, p, by simp, rfl⟩
  | cons r ps ih =>
    intro p
    obtain ⟨hall, q, hq, he⟩ := ih { p with count := f p.count r.count }
    have hfirst := hall _ List.mem_cons_self
    rw [List.foldl_cons]
    refine ⟨fun x hx => ?_, ?_⟩
    · rcases List.mem_cons.1 hx with rfl | hx
      · exact trans _ _ _ hfirst (left _ _)
      · rcases List.mem_cons.1 hx with rfl | hx
        · exact trans _ _ _ hfirst (right _ _)
        · exact hall x (List.mem_cons_of_mem _ hx)
    · rcases List.mem_cons.1 hq with rfl | hq
      · rcases one p.count r.count with h | h
        · exact ⟨p, by simp, he.trans h⟩
        · exact ⟨r, by simp, he.trans h⟩
      · exact ⟨q, by simp [hq], he⟩

/-- R156: the span holds every count of the map, and each of its ends is one. -/
theorem focusSpan_spans {m : LensMap} (h : m.points ≠ []) :
    (∀ p ∈ m.points, (focusSpan m).1 ≤ Int.ofNat p.count ∧ Int.ofNat p.count ≤ (focusSpan m).2) ∧
      (∃ p ∈ m.points, (focusSpan m).1 = Int.ofNat p.count) ∧ ∃ p ∈ m.points, (focusSpan m).2 = Int.ofNat p.count := by
  obtain ⟨p, ps, hp⟩ := List.exists_cons_of_ne_nil h
  obtain ⟨hlo, q, hq, hqe⟩ := foldl_chosen (f := min) (R := (· ≤ ·)) min_le_left min_le_right le_refl
    (fun _ _ _ => le_trans) min_choice ps p
  obtain ⟨hhi, r, hr, hre⟩ := foldl_chosen (f := max) (R := (· ≥ ·)) le_max_left le_max_right le_refl
    (fun _ _ _ h1 h2 => le_trans h2 h1) max_choice ps p
  have hspan : focusSpan m = (Int.ofNat (ps.foldl (fun a q => min a q.count) p.count),
      Int.ofNat (ps.foldl (fun a q => max a q.count) p.count)) := by rw [focusSpan, hp]
  rw [hp, hspan]
  exact ⟨fun x hx => ⟨Int.ofNat_le.2 (hlo x hx), Int.ofNat_le.2 (hhi x hx)⟩,
    ⟨q, hq, congrArg Int.ofNat hqe⟩, ⟨r, hr, congrArg Int.ofNat hre⟩⟩

theorem mapLimits_of_not_lens (m : LensMap) (h : isLens c = false) : mapLimits m c = none := by
  cases c with
  | focus | iris | zoom => cases h
  | _ => rfl

theorem limits_configured (h : s.lens.selected = none ∨ isLens c = false) :
    s.limits c = ((s.cfg c).lo, (s.cfg c).hi) := by
  unfold State.limits
  rcases h with h | h
  · rw [State.selectedMap, h]
    rfl
  · cases s.selectedMap <;> simp [mapLimits_of_not_lens _ h]

theorem limits_mapped {m : LensMap} (h : s.lens.selected = some k) (hm : s.lens.banks.get k = some m) :
    s.limits c = (mapLimits m c).getD ((s.cfg c).lo, (s.cfg c).hi) := by
  have : s.selectedMap = some m := by rw [State.selectedMap, h]; exact hm
  rw [State.limits, this]
  rfl

/-! ## The lens channels -/

theorem mem_lensChans : c ∈ lensChans ↔ isLens c = true := by cases c <;> decide

theorem lensInPlay_iff : lensInPlay s = true ↔
    ∃ c, isLens c = true ∧ ((s.chan c).owner = .take ∨ (s.chan c).owner = .track) := by
  simp only [lensInPlay, List.any_eq_true, mem_lensChans, Bool.or_eq_true, beq_iff_eq]

theorem lensClaimed_iff : lensClaimed s = true ↔
    ∃ c, isLens c = true ∧ (s.chan c).owner ≠ .none ∧ (s.chan c).owner ≠ .console := by
  simp only [lensClaimed, Bool.or_eq_true, lensInPlay_iff, List.any_eq_true, mem_lensChans, beq_iff_eq, ← exists_or,
    ← and_or_left]
  refine exists_congr fun c => and_congr_right fun _ => ?_
  cases (s.chan c).owner <;> simp

theorem lensMoving_iff : lensMoving s = true ↔ ∃ c, isLens c = true ∧ (s.chan c).velocity ≠ 0 := by
  simp only [lensMoving, List.any_eq_true, mem_lensChans, decide_eq_true_eq]

/-! ## The maps (R156 to R158) -/

theorem distancesRise_iff : ∀ ps : List MapPointOperands, distancesRise ps = true ↔
    (∀ p ∈ ps, 100 ≤ p.distance.toNat ∧ p.distance.toNat ≤ 1000000) ∧
      ps.Pairwise (fun p q => p.distance.toNat < q.distance.toNat)
  | [] => by simp [distancesRise]
  | [p] => by simp [distancesRise, natRange_iff]
  | p :: q :: ps => by
    rw [distancesRise, Bool.and_eq_true, Bool.and_eq_true, natRange_iff, decide_eq_true_eq, distancesRise_iff (q :: ps),
      List.forall_mem_cons (a := p), List.pairwise_cons (a := p)]
    refine ⟨fun ⟨⟨hp, hpq⟩, hall, hw⟩ => ⟨⟨hp, hall⟩, fun x hx => ?_, hw⟩,
      fun ⟨⟨hp, hall⟩, hfirst, hw⟩ => ⟨⟨hp, hfirst q List.mem_cons_self⟩, hall, hw⟩⟩
    rcases List.mem_cons.1 hx with rfl | hx
    · exact hpq
    · exact hpq.trans ((List.pairwise_cons.1 hw).1 x hx)

theorem mapOperandsValid_iff (m : LensMapOperands) : mapOperandsValid m = true ↔
    2 ≤ m.points.length ∧ m.points.length ≤ 32 ∧
      (∀ p ∈ m.points, 100 ≤ p.distance.toNat ∧ p.distance.toNat ≤ 1000000) ∧
      m.points.Pairwise (fun p q => p.distance.toNat < q.distance.toNat) ∧
      (m.limitFlags.getLsbD 0 = true → m.irisLo.toNat ≤ m.irisHi.toNat) ∧
      (m.limitFlags.getLsbD 1 = true → m.zoomLo.toNat ≤ m.zoomHi.toNat) := by
  have given : ∀ (g : Bool) (a d : Nat), (!g || decide (a ≤ d)) = true ↔ (g = true → a ≤ d) := by
    rintro (_ | _) <;> simp
  simp only [mapOperandsValid, Bool.and_eq_true, natRange_iff, distancesRise_iff, given, irisGiven, zoomGiven]
  tauto

theorem bankOfNumber_some {n : Nat} (h : bankOfNumber n = some k) : n = k.val := by
  unfold bankOfNumber at h
  split at h
  · exact (congrArg Fin.val (Option.some.inj h))
  · cases h

/-- The state after LENS_MAP_SET stores map m in bank k. -/
def mapStored (k : Fin 4) (m : LensMapOperands) (s : State) : State :=
  let t := setBanks s (s.lens.banks.set k (some (storedMap m)))
  if s.lens.selected = some k then applyChangedLimits s t else t

theorem requestLensMapSet_invalid {m : LensMapOperands} (hl : m.points.length = m.pointCount.toNat)
    (h : 3 < m.bank.toNat ∨ mapOperandsValid m = false) (s : State) : requestLensMapSet m s = refuse s .badOperand := by
  rw [requestLensMapSet, if_neg (by simp [hl])]
  cases hk : bankOfNumber m.bank.toNat with
  | none => rfl
  | some k =>
    have := bankOfNumber_some hk
    exact if_pos (h.resolve_left (by omega))

theorem requestLensMapSet_valid {m : LensMapOperands} (hl : m.points.length = m.pointCount.toNat)
    (hk : bankOfNumber m.bank.toNat = some k) (h : mapOperandsValid m = true) (s : State) : requestLensMapSet m s =
      if s.lens.selected = some k ∧ lensInPlay s then refuse s .locked else accept (mapStored k m s) [] := by
  rw [requestLensMapSet, if_neg (by simp [hl]), hk]
  exact if_neg (by simp [h])

theorem applyChangedLimits_frame (before s : State) :
    applyChangedLimits before s = { s with channels := (applyChangedLimits before s).channels } := by
  refine foldl_keeps (P := fun u => u = { s with channels := u.channels }) lensChans rfl fun u hu c _ => ?_
  split
  · exact hu
  · rw [hu]
    rfl

theorem mapStored_frame (k : Fin 4) (m : LensMapOperands) (s : State) : mapStored k m s = { s with
    lens := { s.lens with banks := s.lens.banks.set k (some (storedMap m)) }
    channels := (mapStored k m s).channels } := by
  unfold mapStored
  dsimp only
  split
  · rw [applyChangedLimits_frame]
    rfl
  · rfl

theorem limits_mapStored (k : Fin 4) (m : LensMapOperands) (s : State) : (mapStored k m s).limits =
    (setBanks s (s.lens.banks.set k (some (storedMap m)))).limits := by
  unfold mapStored
  dsimp only
  split
  · exact limits_applyChangedLimits _ _
  · rfl

/-- R10, R157: the limits that a stored map changes act on the flags of their channels. -/
theorem chan_mapStored (k : Fin 4) (m : LensMapOperands) (s : State) (c : Chan) : (mapStored k m s).chan c =
    if (mapStored k m s).limits c = s.limits c then s.chan c
      else flaggedRecord ((mapStored k m s).lo c) ((mapStored k m s).hi c) (s.chan c) := by
  unfold State.lo State.hi
  rw [limits_mapStored]
  by_cases hs : s.lens.selected = some k
  · rw [mapStored, if_pos hs, chan_applyChangedLimits, withLimits_eq]
    by_cases he : (setBanks s (s.lens.banks.set k (some (storedMap m)))).limits c = s.limits c
    · rw [if_neg (by simp [he]), if_pos he]
      rfl
    · have hc : isLens c = true := by
        by_contra hn
        rw [Bool.not_eq_true] at hn
        exact he ((limits_configured (.inr hn)).trans (limits_configured (s := s) (.inr hn)).symm)
      rw [if_pos ⟨fun e => he e.symm, mem_lensChans.2 hc⟩, if_neg he]
      rfl
  · have hm : (setBanks s (s.lens.banks.set k (some (storedMap m)))).selectedMap = s.selectedMap := by
      show s.lens.selected.bind _ = s.lens.selected.bind _
      cases hj : s.lens.selected with
      | none => rfl
      | some j => exact (PerFour.get_set _ _ _ _).trans (if_neg fun e => hs (by rw [hj, e]))
    rw [if_pos (by unfold State.limits; rw [hm]; rfl), mapStored, if_neg hs]
    rfl

theorem lensMapSet_refused {m : LensMapOperands} (hr : s.canReceive = true)
    (hl : m.points.length = m.pointCount.toNat)
    (h : 3 < m.bank.toNat ∨ m.points.length < 2 ∨ 32 < m.points.length ∨
      (∃ p ∈ m.points, p.distance.toNat < 100 ∨ 1000000 < p.distance.toNat) ∨
      ¬m.points.Pairwise (fun p q => p.distance.toNat < q.distance.toNat) ∨
      (m.limitFlags.getLsbD 0 = true ∧ m.irisHi.toNat < m.irisLo.toNat) ∨
      (m.limitFlags.getLsbD 1 = true ∧ m.zoomHi.toNat < m.zoomLo.toNat)) :
    RefusedWith (.lensMapSet m) s .badOperand := by
  refine refusedWith_of_accepted hr (f := requestLensMapSet m) rfl (requestLensMapSet_invalid hl (h.imp id fun h => ?_) _)
  rw [← Bool.not_eq_true, mapOperandsValid_iff]
  rintro ⟨h1, h2, h3, h4, h5, h6⟩
  rcases h with h | h | ⟨p, hp, h⟩ | h | ⟨hg, h⟩ | ⟨hg, h⟩
  · omega
  · omega
  · have := h3 p hp
    omega
  · exact h h4
  · have := h5 hg
    omega
  · have := h6 hg
    omega

/-! ## Retirement and selection (R158, R160) -/

theorem requestLensMapRetire_found (hk : bankOfNumber b.toNat = some k) (hm : s.lens.banks.get k ≠ none) :
    requestLensMapRetire b s = if s.lens.selected = some k then refuse s .inUse
      else accept (setBanks s (s.lens.banks.set k none)) [] := by
  rw [requestLensMapRetire, hk]
  exact if_neg (by simpa using hm)

theorem bankOperand_none (h1 : 4 ≤ b.toNat) (h2 : b.toNat ≤ 254) : bankOperand b = none := by
  have hb : b ≠ 0xFF#8 := by rintro rfl; simp at h2
  rw [bankOperand, if_neg hb, bankOfNumber_none (by omega)]
  rfl

theorem bankOperand_some {sel : Option (Fin 4)}
    (h : (b = 0xFF#8 ∧ sel = none) ∨ (∃ k, bankOfNumber b.toNat = some k ∧ sel = some k)) : bankOperand b = some sel := by
  rcases h with ⟨rfl, rfl⟩ | ⟨k, hk, rfl⟩
  · rfl
  · have hb : b ≠ 0xFF#8 := by
      rintro rfl
      have hv : 255 = k.val := bankOfNumber_some hk
      omega
    rw [bankOperand, if_neg hb, hk]
    rfl

theorem requestLensSelect_of {sel : Option (Fin 4)} (h : bankOperand b = some sel) : requestLensSelect b s =
    if (sel.any fun k => (s.lens.banks.get k).isNone) = true then refuse s .notFound
    else if lensClaimed s then refuse s .owned
    else if lensMoving s then refuse s .moving
    else accept (selectBank sel s) [] := by
  rw [requestLensSelect, h]

theorem selectBank_frame (sel : Option (Fin 4)) (s : State) : selectBank sel s =
    { s with lens := { s.lens with selected := sel }, channels := (selectBank sel s).channels } := rfl

/-- R160: a selection that passes its tests. -/
theorem lensSelect_granted {sel : Option (Fin 4)} (hr : s.canReceive = true) (hf : requestLensSelect b (serveSupervision s) =
    accept (selectBank sel (serveSupervision s)) []) : ∃ t, Replied (.lensSelect b) s t .ok [] ∧
      t = { servedBy s t with lens := { s.lens with selected := sel }, channels := t.channels } ∧
      ∀ c, t.chan c = if isLens c = true then flaggedRecord (t.lo c) (t.hi c) (s.chan c) else s.chan c := by
  refine ⟨_, replied_of_taken hr (f := requestLensSelect b) rfl hf, ?_, fun c => ?_⟩
  · rw [selectBank_frame, serveSupervision_eq]
    rfl
  · have hc := chan_selectBank (s := serveSupervision s) sel c
    rw [withLimits_eq] at hc
    simp only [mem_lensChans] at hc
    exact hc

/-! ## Targets (R161 to R163) -/

theorem targetOperandsValid_iff {n : Byte} {x y z : BitVec 32} {a : BitVec 16} : targetOperandsValid n x y z a = true ↔
    1 ≤ n.toNat ∧ n.toNat ≤ 8 ∧ x.toInt.natAbs ≤ 2000000 ∧ y.toInt.natAbs ≤ 2000000 ∧ z.toInt.natAbs ≤ 2000000 ∧
      (a.toNat = 0 ∨ (10 ≤ a.toNat ∧ a.toNat ≤ 10000)) := by
  have hv : ∀ v : BitVec 32, inRange (-coordinateLimit) coordinateLimit v.toInt = true ↔ v.toInt.natAbs ≤ 2000000 :=
    fun v => by rw [inRange_iff, coordinateLimit]; omega
  simp only [targetOperandsValid, Bool.and_eq_true, Bool.or_eq_true, targetNumberValid_iff, hv, decide_eq_true_eq,
    natRange_iff, and_assoc]

theorem requestTargetSet_invalid {n : Byte} {x y z : BitVec 32} {a : BitVec 16}
    (h : targetOperandsValid n x y z a ≠ true) : requestTargetSet n x y z a s = refuse s .badOperand :=
  if_pos (by simpa using h)

theorem requestTargetSet_valid {n : Byte} {x y z : BitVec 32} {a : BitVec 16} (h : targetOperandsValid n x y z a = true) :
    requestTargetSet n x y z a s = accept (setTargets s
      (upsert (·.number) ⟨n.toNat, x.toInt, y.toInt, z.toInt, a.toNat, 0⟩ s.lens.targets)) [] :=
  if_neg (by simp [h])

theorem requestTargetRetire_found {n : Byte} (h1 : 1 ≤ n.toNat) (h2 : n.toNat ≤ 8) (hn : s.findTarget n.toNat ≠ none) :
    requestTargetRetire n s = if tracked s n.toNat then refuse s .inUse
      else accept (setTargets s (eraseKey (·.number) n.toNat s.lens.targets)) [] := by
  have hv : ¬targetNumberValid n.toNat = false := by simp [targetNumberValid_iff.2 ⟨h1, h2⟩]
  have hf : ¬(s.findTarget n.toNat).isNone = true := by simpa using hn
  rw [requestTargetRetire]
  rw [if_neg hv, if_neg hf]

theorem tracked_iff {n : Nat} : tracked s n = true ↔ s.lens.tracking.state ≠ .off ∧ s.lens.tracking.target = some n := by
  simp [tracked]

/-- Settles O56: the limits in force by the selected map, and each lens request by its tests. -/
theorem lensRecordsAreKept : Obligations.LensRecordsAreKept := by
  refine ⟨fun s => ⟨fun c h => ?_, fun k m hs hm => ?_⟩,
    fun s hr => ⟨fun m hl h => lensMapSet_refused hr hl h, fun m k hl hk h1 h2 h3 h4 h5 h6 => ?_,
      fun b k hk hm => ⟨fun hs => ?_, fun hs => ?_⟩, fun b h1 h2 => ?_, fun b sel h => ⟨fun hn => ?_, fun hf => ?_⟩⟩,
    fun s n hr => ⟨fun x y z a => ?_, fun x y z a h1 h2 hx hy hz ha => ?_, fun h1 h2 hn => ⟨fun ht => ?_, fun ht => ?_⟩⟩⟩
  · rw [State.lo, State.hi, limits_configured h]
    exact ⟨rfl, rfl⟩
  · have hl : ∀ c, s.limits c = (mapLimits m c).getD ((s.cfg c).lo, (s.cfg c).hi) := fun c => limits_mapped hs hm
    simp only [State.lo, State.hi, hl, mapLimits]
    exact ⟨focusSpan_spans, fun p hp => by rw [hp]; exact ⟨rfl, rfl⟩, fun hp => by rw [hp]; exact ⟨rfl, rfl⟩,
      fun p hp => by rw [hp]; exact ⟨rfl, rfl⟩, fun hp => by rw [hp]; exact ⟨rfl, rfl⟩⟩
  · have hf := requestLensMapSet_valid hl hk ((mapOperandsValid_iff m).2 ⟨h1, h2, h3, h4, h5, h6⟩) (serveSupervision s)
    refine ⟨fun hs hp => ?_, fun h => ?_⟩
    · exact refusedWith_of_accepted hr (f := requestLensMapSet m) rfl (hf.trans (if_pos ⟨hs, lensInPlay_iff.2 hp⟩))
    · have hn : ¬((serveSupervision s).lens.selected = some k ∧ lensInPlay (serveSupervision s)) := fun ⟨hs, hp⟩ => by
        obtain ⟨c, hc, ho⟩ := lensInPlay_iff.1 hp
        obtain ⟨ht, hk⟩ := h.resolve_left (fun hne => hne hs) c hc
        exact ho.elim ht hk
      refine ⟨_, storedMap m, replied_of_taken hr (f := requestLensMapSet m) rfl (hf.trans (if_neg hn)), ?_, rfl, rfl, rfl,
        rfl, chan_mapStored k m (serveSupervision s)⟩
      rw [mapStored_frame, serveSupervision_eq]
      rfl
  · exact refusedWith_of_accepted hr (f := requestLensMapRetire b) rfl
      ((requestLensMapRetire_found (s := serveSupervision s) hk hm).trans (if_pos hs))
  · refine ⟨_, replied_of_taken hr (f := requestLensMapRetire b) rfl
      ((requestLensMapRetire_found (s := serveSupervision s) hk hm).trans (if_neg hs)), ?_⟩
    rw [serveSupervision_eq]
    rfl
  · exact refusedWith_of_accepted hr (f := requestLensSelect b) rfl (by rw [requestLensSelect, bankOperand_none h1 h2])
  · have hs := requestLensSelect_of (s := serveSupervision s) (bankOperand_some h)
    obtain ⟨k, rfl, hk⟩ := hn
    exact refusedWith_of_accepted hr (f := requestLensSelect b) rfl
      (hs.trans (if_pos (Option.isNone_iff_eq_none.2 hk)))
  · have hs := requestLensSelect_of (s := serveSupervision s) (bankOperand_some h)
    have hfound : ¬(sel.any fun k => ((serveSupervision s).lens.banks.get k).isNone) = true := by
      rw [Option.any_eq_true]
      rintro ⟨k, hk, hnone⟩
      exact hf k hk (Option.isNone_iff_eq_none.1 hnone)
    have hs1 := hs.trans (if_neg hfound)
    refine ⟨fun hc => ?_, fun hfree => ⟨fun hv => ?_, fun hstill => ?_⟩⟩
    · exact refusedWith_of_accepted hr (f := requestLensSelect b) rfl (hs1.trans (if_pos (lensClaimed_iff.2 hc)))
    · have hc : ¬lensClaimed (serveSupervision s) = true := fun hc => by
        obtain ⟨c, hl, h1, h2⟩ := lensClaimed_iff.1 hc
        exact (hfree c hl).elim h1 h2
      exact refusedWith_of_accepted hr (f := requestLensSelect b) rfl
        (hs1.trans ((if_neg hc).trans (if_pos (lensMoving_iff.2 hv))))
    · have hc : ¬lensClaimed (serveSupervision s) = true := fun hc => by
        obtain ⟨c, hl, h1, h2⟩ := lensClaimed_iff.1 hc
        exact (hfree c hl).elim h1 h2
      have hm : ¬lensMoving (serveSupervision s) = true := fun hm => by
        obtain ⟨c, hl, hv⟩ := lensMoving_iff.1 hm
        exact hv (hstill c hl)
      exact lensSelect_granted hr (hs1.trans ((if_neg hc).trans (if_neg hm)))
  · by_cases hv : targetOperandsValid n x y z a = true
    · exact .inr (targetOperandsValid_iff.1 hv)
    · exact .inl (refusedWith_of_accepted hr (f := requestTargetSet n x y z a) rfl (requestTargetSet_invalid hv))
  · refine ⟨_, replied_of_taken hr (f := requestTargetSet n x y z a) rfl
      (requestTargetSet_valid (targetOperandsValid_iff.2 ⟨h1, h2, hx, hy, hz, ha⟩)), ?_,
      find_upsert_self (fun u : Target => u.number) ⟨n.toNat, x.toInt, y.toInt, z.toInt, a.toNat, 0⟩ _,
      fun k hk => find_upsert_other (fun u : Target => u.number) ⟨n.toNat, x.toInt, y.toInt, z.toInt, a.toNat, 0⟩ hk _⟩
    rw [serveSupervision_eq]
    rfl
  · exact refusedWith_of_accepted hr (f := requestTargetRetire n) rfl
      ((requestTargetRetire_found (s := serveSupervision s) h1 h2 hn).trans (if_pos (tracked_iff.2 ht)))
  · refine ⟨_, replied_of_taken hr (f := requestTargetRetire n) rfl
      ((requestTargetRetire_found (s := serveSupervision s) h1 h2 hn).trans (if_neg fun h => ht (tracked_iff.1 h))), ?_,
      find_eraseKey_self (fun u : Target => u.number) _ _, fun k hk => find_eraseKey_other (fun u : Target => u.number) hk _⟩
    rw [serveSupervision_eq]
    rfl

end Lens

end Sys2Proof.Machine

/-! Focus tracking: TRACK_ON, TRACK_OFF and the update (O57, O58). -/

namespace Sys2Proof.Machine

section Tracking

variable {s : State} {g : Target} {m : LensMap} {n : Nat}

/-! ## The measure (R161, R166 to R168) -/

theorem focusDistance_eq (h : HeadPoint) (g : Target) : focusDistance h g = distanceTo h g := by
  simp only [focusDistance, distanceTo, pow_two]

theorem targetStale_eq (g : Target) : targetStale g = staleAt g.maxAge g.age := by
  simp only [targetStale, staleAt, Bool.decide_and]

/-- R168: an evaluation that can measure the target. -/
theorem evaluateTracking_measured (ht : s.lens.tracking.target = some n) (hg : s.findTarget n = some g)
    (hm : s.selectedMap = some m) (ho : (s.chan .focus).owner = .track)
    (h : s.head.valid = true ∧ staleAt g.maxAge g.age = false) : evaluateTracking s = { s with
      lens := { s.lens with tracking := measuredRecord s.head g m s.lens.tracking }
      channels := s.channels.set .focus
        { s.chan .focus with target := some (focusLookup m.points (distanceTo s.head g)).1 } } := by
  simp only [evaluateTracking, ht, Option.bind_some, hg, hm, Option.any_some, targetStale_eq, h, focusDistance_eq,
    measuredRecord]
  exact (if_pos rfl).trans (if_pos ho)

/-- R168: an evaluation that cannot measure the target. -/
theorem evaluateTracking_suspended (ht : s.lens.tracking.target = some n) (hg : s.findTarget n = some g)
    (hm : s.selectedMap = some m) (h : ¬(s.head.valid = true ∧ staleAt g.maxAge g.age = false)) :
    evaluateTracking s = { s with lens := { s.lens with tracking := { s.lens.tracking with state := .suspended } } } := by
  have hu : (s.head.valid && (some g).any fun t => !targetStale t) = false := by
    rw [← Bool.not_eq_true, Bool.and_eq_true, Option.any_some, targetStale_eq, Bool.not_eq_true']
    exact h
  simp only [evaluateTracking, ht, Option.bind_some, hg, hm, hu]
  rfl

/-- R170: the TRACK notice of the present record. -/
theorem raiseTracking_eq (s : State) : raiseTracking s = { s with notices := noticesWith { s.notices with
    track := ⟨some ⟨s.lens.tracking.state, s.lens.tracking.range, s.lens.tracking.target⟩,
      s.notices.track.detail.isSome⟩ } } := by
  rw [raiseTracking, raiseTrack, setNotices, withAttn_eq]
  rfl

/-! ## TRACK_ON (R165) -/

theorem owner_of_trackGranted {p : Party} (hp : p = .take ∨ p = .track) {moves : Bool} {c : Chan}
    (h : claimCode p moves s c = none) :
    (s.chan c).owner = .none ∨ (s.chan c).owner = .console ∨ ((s.chan c).owner = .track ∧ p = .track) := by
  rw [claimCode_eq, ownerTest_claimed c (s.chan c) hp] at h
  by_cases ha : claimAllowed s c = false
  · rw [if_pos ha] at h
    cases h
  · have hc : ¬(p = .console ∧ moves = true ∧ isLens c = false ∧ s.gripHeld = false) := by
      rcases hp with rfl | rfl <;> exact fun h => nomatch h.1
    rw [if_neg ha, if_neg hc] at h
    by_contra hn
    rw [if_neg (by tauto), if_neg (by tauto)] at h
    cases h

/-- FOCUS, where the console loses it. -/
def losesFocus (s : State) (c : Chan) : Bool := decide (c = .focus ∧ (s.chan .focus).owner = .console)

/-- R18, R27: FOCUS granted to TRACK. -/
theorem grant_track (h : claimCode .track false s .focus = none) (x : Option Int) :
    grant .track .position none x .focus s =
      interruptMoves (losesFocus s) (s.setChan .focus (grantRecord .track .position none x (s.chan .focus))) := by
  have idle (hn : (s.chan .focus).owner ≠ .console) (u : State) : interruptMoves (losesFocus s) u = u :=
    interruptMoves_of_none fun m _ => by simp [holdsAny, losesFocus, hn]
  rcases owner_of_trackGranted (.inr rfl) h with ho | ho | ⟨ho, -⟩
  · rw [grant_of_none ho, idle (by rw [ho]; nofun)]
  · have hl : losesFocus s = fun d => d == .focus := funext fun d => by simp [losesFocus, ho, beq_eq_decide]
    rw [grant_of_console ho, hl]
  · rw [grant, ho, idle (by rw [ho]; nofun)]
    rfl

/-- FOCUS granted to TRACK, the target noted: what TRACK_ON evaluates. -/
def trackGranted (n : Nat) (s : State) : State :=
  let g := grant .track .position none (some (s.chan .focus).setpoint) .focus s
  setTracking g { g.lens.tracking with target := some n }

theorem requestTrackOn_found {b : Byte} (h1 : 1 ≤ b.toNat) (h2 : b.toNat ≤ 8) (hl : s.lens.selected ≠ none)
    (hg : s.findTarget b.toNat ≠ none) : requestTrackOn b s =
      (claimCode .track false s .focus).elim
        (accept (raiseTracking (evaluateTracking (trackGranted b.toNat s)))
          [trackCode (raiseTracking (evaluateTracking (trackGranted b.toNat s))).lens.tracking.state]) (refuse s) := by
  have hv : ¬targetNumberValid b.toNat = false := by simp [targetNumberValid_iff.2 ⟨h1, h2⟩]
  rw [requestTrackOn, if_neg hv, if_neg (by simpa using hl), if_neg (by simpa using hg)]
  cases claimCode .track false s .focus <;> rfl

theorem requestTrackOn_noMap {b : Byte} (h1 : 1 ≤ b.toNat) (h2 : b.toNat ≤ 8) (hl : s.lens.selected = none) :
    requestTrackOn b s = refuse s .noMap := by
  have hv : ¬targetNumberValid b.toNat = false := by simp [targetNumberValid_iff.2 ⟨h1, h2⟩]
  rw [requestTrackOn, if_neg hv, if_pos (by rw [hl]; rfl)]

theorem requestTrackOn_notFound {b : Byte} (h1 : 1 ≤ b.toNat) (h2 : b.toNat ≤ 8) (hl : s.lens.selected ≠ none)
    (hg : s.findTarget b.toNat = none) : requestTrackOn b s = refuse s .notFound := by
  have hv : ¬targetNumberValid b.toNat = false := by simp [targetNumberValid_iff.2 ⟨h1, h2⟩]
  rw [requestTrackOn, if_neg hv, if_neg (by simpa using hl), if_pos (by rw [hg]; rfl)]

theorem trackGranted_frame (h : claimCode .track false s .focus = none) (n : Nat) : trackGranted n s = { s with
    lens := { s.lens with tracking := { s.lens.tracking with target := some n } }
    channels := s.channels.set .focus
      (grantRecord .track .position none (some (s.chan .focus).setpoint) (s.chan .focus))
    moves := movesLeft (losesFocus s) s.moves
    notices := (trackGranted n s).notices } := by
  unfold trackGranted
  dsimp only
  rw [grant_track h, interruptMoves_frame]
  rfl

/-- R27: the notices of a grant to TRACK: MOVE alone is raised. -/
theorem trackGranted_notices (h : claimCode .track false s .focus = none) (n : Nat) :
    (trackGranted n s).notices.move = moveSourceAfter (losesFocus s) s.moves s.notices.move ∧
      (trackGranted n s).notices.track = s.notices.track := by
  unfold trackGranted
  dsimp only
  rw [grant_track h]
  obtain ⟨hmove, -, -, -, htrack, -⟩ := interruptMoves_sources (hit := losesFocus s)
    (s := s.setChan .focus (grantRecord .track .position none (some (s.chan .focus).setpoint) (s.chan .focus)))
  exact ⟨hmove, htrack⟩

theorem PerChannel.set_set {α : Type} (p : PerChannel α) (c : Chan) (a d : α) : (p.set c a).set c d = p.set c d :=
  PerChannel.ext_get fun e => by
    rw [PerChannel.get_set, PerChannel.get_set, PerChannel.get_set]
    split <;> rfl

theorem chan_trackGranted (h : claimCode .track false s .focus = none) (n : Nat) : (trackGranted n s).chan .focus =
    grantRecord .track .position none (some (s.chan .focus).setpoint) (s.chan .focus) := by
  rw [trackGranted_frame h]
  exact (PerChannel.get_set _ _ _ _).trans (if_pos rfl)

/-- R165: TRACK_ON, its tests passed, where the target can be measured. -/
theorem trackOn_measured (h : claimCode .track false s .focus = none) (hg : s.findTarget n = some g)
    (hm : s.selectedMap = some m) (hu : s.head.valid = true ∧ staleAt g.maxAge g.age = false) :
    evaluateTracking (trackGranted n s) = { s with
      lens := { s.lens with tracking := measuredRecord s.head g m { s.lens.tracking with target := some n } }
      channels := s.channels.set .focus { s.chan .focus with
        owner := .track, mode := .position, demand := none
        target := some (focusLookup m.points (distanceTo s.head g)).1, stopDecel := false, inPosition := false }
      moves := movesLeft (losesFocus s) s.moves
      notices := (trackGranted n s).notices } := by
  have hf := trackGranted_frame h n
  have hc := chan_trackGranted h n
  rw [evaluateTracking_measured (n := n) (g := g) (m := m) (by rw [hf]) (by rw [hf]; exact hg) (by rw [hf]; exact hm)
    (by rw [hc]; rfl) (by rw [hf]; exact hu), hc, hf]
  dsimp only
  rw [PerChannel.set_set]
  rfl

/-- R165: TRACK_ON, its tests passed, where the target cannot be measured. -/
theorem trackOn_suspended (h : claimCode .track false s .focus = none) (hg : s.findTarget n = some g)
    (hm : s.selectedMap = some m) (hu : ¬(s.head.valid = true ∧ staleAt g.maxAge g.age = false)) :
    evaluateTracking (trackGranted n s) = { s with
      lens := { s.lens with tracking := { s.lens.tracking with target := some n, state := .suspended } }
      channels := s.channels.set .focus { s.chan .focus with
        owner := .track, mode := .position, demand := none, target := some (s.chan .focus).setpoint
        stopDecel := false, inPosition := false }
      moves := movesLeft (losesFocus s) s.moves
      notices := (trackGranted n s).notices } := by
  have hf := trackGranted_frame h n
  rw [evaluateTracking_suspended (n := n) (g := g) (m := m) (by rw [hf]) (by rw [hf]; exact hg) (by rw [hf]; exact hm)
    (by rw [hf]; exact hu), hf]
  rfl

/-- R165, R170: an accepted TRACK_ON. -/
theorem trackOn_replied {b : Byte} (hr : s.canReceive = true) (h1 : 1 ≤ b.toNat) (h2 : b.toNat ≤ 8)
    (hg : s.findTarget b.toNat = some g) (hm : s.selectedMap = some m) (h : claimCode .track false s .focus = none)
    {after : Tracking} {goal : Int} (hn : after.target = some b.toNat)
    (he : ∀ u : State, u = serveSupervision s → evaluateTracking (trackGranted b.toNat u) = { u with
      lens := { u.lens with tracking := after }
      channels := u.channels.set .focus { u.chan .focus with
        owner := .track, mode := .position, demand := none, target := some goal, stopDecel := false, inPosition := false }
      moves := movesLeft (losesFocus u) u.moves
      notices := (trackGranted b.toNat u).notices }) :
    ∃ t, Replied (.trackOn b) s t .ok [trackCode after.state] ∧
      t = { servedBy s t with
        lens := { s.lens with tracking := after }
        channels := s.channels.set .focus { s.chan .focus with
          owner := .track, mode := .position, demand := none, target := some goal
          stopDecel := false, inPosition := false }
        moves := movesLeft (losesFocus s) s.moves
        notices := t.notices } ∧
      t.notices.move = moveSourceAfter (losesFocus s) s.moves s.notices.move ∧
      t.notices.track = ⟨some ⟨after.state, after.range, some b.toNat⟩, s.notices.track.detail.isSome⟩ := by
  have hsel : s.lens.selected ≠ none := fun hs => by rw [State.selectedMap, hs] at hm; cases hm
  have hf := requestTrackOn_found (s := serveSupervision s) h1 h2 hsel (by rw [show (serveSupervision s).findTarget b.toNat = _ from hg]; nofun)
  rw [show claimCode .track false (serveSupervision s) .focus = none from h, Option.elim_none, raiseTracking_eq,
    he _ rfl] at hf
  obtain ⟨hmove, htrack⟩ := trackGranted_notices (s := serveSupervision s) h b.toNat
  refine ⟨_, replied_of_taken hr (f := requestTrackOn b) rfl hf, ?_, hmove, ?_⟩
  · rw [serveSupervision_eq]
    rfl
  · show (⟨some ⟨after.state, after.range, after.target⟩, _⟩ : NoticeSource TrackDetail) = _
    rw [hn, htrack]
    rfl

/-! ## TRACK_OFF (R169) -/

theorem requestTrackOff_on (h : s.lens.tracking.state ≠ .off) (ho : (s.chan .focus).owner = .track) :
    requestTrackOff s = accept (trackingOff (releaseOwner .focus s)) [] := by
  rw [requestTrackOff, if_neg h, releaseTracked, if_pos ho]

theorem releaseOwner_frame (c : Chan) (s : State) : releaseOwner c s = { s with
    channels := s.channels.set c (releasedRecord (s.chan c))
    moves := movesLeft (fun d => d == c) s.moves
    notices := (releaseOwner c s).notices } := by
  unfold releaseOwner
  rw [interruptMoves_frame]
  rfl

theorem trackOff_replied (hr : s.canReceive = true) (h : s.lens.tracking.state ≠ .off)
    (ho : (s.chan .focus).owner = .track) : ∃ t, Replied .trackOff s t .ok [] ∧
      t = { servedBy s t with
        lens := { s.lens with tracking := { s.lens.tracking with state := .off, target := none, range := false } }
        channels := s.channels.set .focus (releasedRecord (s.chan .focus))
        moves := movesLeft (fun c => decide (c = .focus)) s.moves
        notices := t.notices } ∧
      t.notices.track = ⟨some ⟨.off, false, none⟩, s.notices.track.detail.isSome⟩ := by
  have hf := requestTrackOff_on (s := serveSupervision s) h ho
  have htrack : (releaseOwner .focus (serveSupervision s)).notices.track = s.notices.track := by
    obtain ⟨-, -, -, -, htrack, -⟩ := interruptMoves_sources (hit := fun d => d == Chan.focus)
      (s := (serveSupervision s).setChan .focus (releaseChannel (s.chan .focus)))
    exact htrack
  have hlens : (releaseOwner .focus (serveSupervision s)).lens = s.lens := by rw [releaseOwner_frame]; rfl
  have hoff := trackingOff_eq (releaseOwner .focus (serveSupervision s))
  rw [if_neg (by rw [hlens]; exact h)] at hoff
  rw [hoff] at hf
  refine ⟨_, replied_of_taken hr (f := requestTrackOff) rfl hf, ?_, ?_⟩
  · rw [releaseOwner_frame, serveSupervision_eq]
    rfl
  · show (⟨_, _⟩ : NoticeSource TrackDetail) = _
    rw [htrack]

/-- Settles O57: TRACK_ON by its tests, and by whether it can measure; TRACK_OFF by whether tracking is on. -/
theorem trackingStartsAndEnds : Obligations.TrackingStartsAndEnds := by
  refine fun s hr => ⟨fun b hb => ?_, fun b h1 h2 => ⟨fun hs => ?_, fun hs hg => ?_, fun code hs hg hc => ?_,
    fun g m hg hm hc => ?_⟩, fun h => ?_, fun h ho => trackOff_replied hr h ho⟩
  · exact refusedWith_of_accepted hr (f := requestTrackOn b) rfl (by rw [requestTrackOn, if_pos (targetNumber_false hb)])
  · exact refusedWith_of_accepted hr (f := requestTrackOn b) rfl (requestTrackOn_noMap (s := serveSupervision s) h1 h2 hs)
  · exact refusedWith_of_accepted hr (f := requestTrackOn b) rfl
      (requestTrackOn_notFound (s := serveSupervision s) h1 h2 hs hg)
  · refine refusedWith_of_accepted hr (f := requestTrackOn b) rfl
      ((requestTrackOn_found (s := serveSupervision s) h1 h2 hs hg).trans ?_)
    rw [show claimCode .track false (serveSupervision s) .focus = some code from hc]
    rfl
  · by_cases hu : s.head.valid = true ∧ staleAt g.maxAge g.age = false
    · dsimp only
      rw [if_pos hu, if_pos hu, if_pos hu]
      exact trackOn_replied hr h1 h2 hg hm hc (after := measuredRecord s.head g m _) rfl fun u hue => by
        subst hue
        exact trackOn_measured (s := serveSupervision s) hc hg hm hu
    · dsimp only
      rw [if_neg hu, if_neg hu, if_neg hu]
      exact trackOn_replied hr h1 h2 hg hm hc (after := { s.lens.tracking with target := some b.toNat, state := .suspended })
        rfl fun u hue => by
        subst hue
        exact trackOn_suspended (s := serveSupervision s) hc hg hm hu
  · exact refusedWith_of_accepted hr (f := requestTrackOff) rfl (if_pos h)

/-! ## The update (R161, R168) -/

theorem lensUpdate_targets (s : State) : (lensUpdate s).lens.targets = s.lens.targets.map ageTarget := by
  obtain ⟨k, hk, -⟩ := evaluateTracking_lens (setTargets s (s.lens.targets.map ageTarget))
  have ht : (evaluateTracking (setTargets s (s.lens.targets.map ageTarget))).lens.targets = s.lens.targets.map ageTarget := by
    rw [hk]
    rfl
  rw [lensUpdate, trackUpdate]
  split
  · rfl
  · dsimp only
    split
    · exact ht
    · exact ht

theorem findTarget_lensUpdate (s : State) (n : Nat) :
    (lensUpdate s).findTarget n = (s.findTarget n).map fun g => { g with age := min 65535 (g.age + 1) } := by
  rw [State.findTarget, lensUpdate_targets]
  exact findTarget_aged s n

theorem lensUpdate_off (h : s.lens.tracking.state = .off) :
    lensUpdate s = setTargets s (s.lens.targets.map ageTarget) := if_pos h

/-- R168, R170: an update while tracking is on, by what its evaluation gives. -/
theorem lensUpdate_on (hon : s.lens.tracking.state ≠ .off) {after : Tracking} {channels : PerChannel Channel}
    (he : evaluateTracking (setTargets s (s.lens.targets.map ageTarget)) = { s with
      lens := { s.lens with targets := s.lens.targets.map ageTarget, tracking := after }, channels := channels }) :
    lensUpdate s = { s with
      lens := { s.lens with targets := s.lens.targets.map ageTarget, tracking := after }
      channels := channels
      notices := if after.state = s.lens.tracking.state ∧ after.range = s.lens.tracking.range then s.notices
        else noticesWith { s.notices with
          track := ⟨some ⟨after.state, after.range, after.target⟩, s.notices.track.detail.isSome⟩ } } := by
  rw [lensUpdate, trackUpdate, if_neg (by exact hon), he]
  by_cases hc : after.state = s.lens.tracking.state ∧ after.range = s.lens.tracking.range
  · rw [if_pos hc]
    exact if_neg fun hn => hn.elim (absurd hc.1) (absurd hc.2)
  · rw [if_neg hc]
    refine (if_pos ?_).trans (raiseTracking_eq _)
    by_contra hn
    exact hc (by simpa [not_or, setTargets] using hn)

theorem exec_lensUpdate (hr : s.running = true) : exec .lensUpdate s = .next (lensUpdate s) := by
  show Host.Outcome.next _ = _
  rw [whileRunning_of_running _ _ hr]

/-- Settles O58: the ages, the evaluation by whether it can measure, and the update at which a target becomes stale. -/
theorem trackingFollowsTheTarget : Obligations.TrackingFollowsTheTarget := by
  refine fun s hr => ⟨⟨_, exec_lensUpdate hr, findTarget_lensUpdate s, fun hoff => ?_, fun n g m hon ht hg hm ho => ?_⟩,
    fun b g hg h1 h2 h3 => ⟨lensUpdate s, ?_, exec_lensUpdate hr, { g with age := min 65535 (g.age + 1) }, ?_, ?_, ?_⟩⟩
  · rw [lensUpdate_off hoff]
    rfl
  · have hfound : (setTargets s (s.lens.targets.map ageTarget)).findTarget n = some (ageTarget g) := by
      rw [findTarget_aged, hg]
      rfl
    rw [lensUpdate_targets]
    by_cases hu : s.head.valid = true ∧ staleAt g.maxAge (min 65535 (g.age + 1)) = false
    · dsimp only
      rw [if_pos hu, if_pos hu]
      refine (lensUpdate_on hon (evaluateTracking_measured (s := setTargets s _) ht hfound hm ho hu)).trans ?_
      simp only [measuredRecord, setTargets, ht]
      rfl
    · dsimp only
      rw [if_neg hu, if_neg hu]
      refine (lensUpdate_on hon (evaluateTracking_suspended (s := setTargets s _) ht hfound hm hu)).trans ?_
      simp only [setTargets, ht]
  · have hstale : staleTarget s b.toNat = false ∧ staleTarget (lensUpdate s) b.toNat = true := by
      rw [staleTarget, staleTarget, findTarget_lensUpdate, hg]
      refine ⟨?_, ?_⟩
      · rw [Option.any_some, targetStale_eq, staleAt, decide_eq_false_iff_not]
        omega
      · rw [Option.map_some, Option.any_some, targetStale_eq, staleAt, decide_eq_true_eq]
        exact ⟨h2, h3⟩
    exact congrArg Host.Outcome.next (eventOf_of_happens s lensUpdate _ hr (by simp [hstale]))
  · rw [findTarget_lensUpdate, hg]
    rfl
  · show min 65535 (g.age + 1) = g.age + 1
    omega
  · rw [targetStale_eq, staleAt, decide_eq_true_eq]
    exact ⟨h2, h3⟩

end Tracking

end Sys2Proof.Machine

/-! The end of a play, and pause, resume and abort (O55). -/

namespace Sys2Proof.Machine

section EndOfPlay

variable {s : State} {n : Nat} {x : Take} {r : TakeResult}

/-! ## The TAKE notice of a running take (R154) -/

/-- R154: the detail of the TAKE notice of a running take. -/
def runningDetail (s : State) : TakeDetail :=
  ⟨s.engine.take.getD 0, s.engine.state, if s.engine.overtaken then .partial_ else .none, s.engine.cueIndex⟩

theorem raiseTakeRunning_eq (s : State) : raiseTakeRunning s = { s with notices := noticesWith { s.notices with
    take := ⟨some (runningDetail s), s.notices.take.detail.isSome⟩ } } := by
  rw [raiseTakeRunning, raiseTake, setNotices, withAttn_eq]
  rfl

/-! ## The end step (R109, R123, R153) -/

theorem endTake_frame (ht : s.engine.take = some n) (r : TakeResult) : endTake r s = { s with
    engine := engineIdle s.engine
    takes := (endTake r s).takes
    marks := (endTake r s).marks
    channels := (endTake r s).channels
    notices := noticesWith { s.notices with
      take := ⟨some ⟨n, .idle, r, s.engine.cueIndex⟩, s.notices.take.detail.isSome⟩ } } := by
  rw [endTake_some s r ht, withAttn_eq]

theorem findTake_endTake (ht : s.engine.take = some n) (hx : s.findTake n = some x) (r : TakeResult) :
    (endTake r s).findTake n = some (storePlay r s.engine.lag x) := by
  rw [State.findTake, (endTake_store r ht).1]
  exact findTake_played hx

theorem findTake_endTake_other (ht : s.engine.take = some n) {j : Nat} (hj : j ≠ n) (r : TakeResult) :
    (endTake r s).findTake j = s.findTake j := by
  rw [State.findTake, (endTake_store r ht).1,
    find_map_key (key := fun u : Take => u.number) (number_endTake r n s.engine.lag)]
  refine (Option.map_congr (g := id) fun u hu => ?_).trans (congrFun Option.map_id _)
  have hn : u.number = j := by simpa using List.find?_some hu
  rw [if_neg (by omega), id]

theorem findMark_endTake (ht : s.engine.take = some n) (hx : s.findTake n = some x) (r : TakeResult) (j : Nat) :
    (endTake r s).findMark j = (s.findMark j).map fun k => { k with
      locked := k.locked && !(x.cues.any fun q => q.mark == j) } := by
  rw [State.findMark, (endTake_store r ht).2, hx, find_map_key (key := fun k : Mark => k.number)
    (f := fun m => if (some x).any (fun t => namesMark t m.number) then { m with locked := false } else m)
    fun k => by split <;> rfl]
  refine Option.map_congr fun k hk => ?_
  have hn : k.number = j := by simpa using List.find?_some hk
  subst hn
  rw [Option.any_some, namesMark]
  cases x.cues.any fun q => q.mark == k.number
  · rw [if_neg (by simp), Bool.not_false, Bool.and_true]
  · rw [if_pos rfl, Bool.not_true, Bool.and_false]

theorem releaseChannel_takeWritten {lo hi : Int} (h : lo ≤ hi) (w : Option Int) (fresh : Bool) (c : Channel) :
    releaseChannel (takeWritten lo hi w fresh c) = endedRecord lo hi w fresh c := by
  rw [releasedRecord_eq, endedRecord]
  cases fresh <;> cases w
  · rfl
  · rfl
  · rfl
  · exact congrArg releasedRecord (takePath_eq h _)

/-- R153: a channel after the end step. -/
theorem chan_ended (ht : s.engine.take = some n) (r : TakeResult) {c : Chan} (hl : s.lo c ≤ s.hi c) :
    (endTake r s).chan c = if s.engine.set.get c = true ∧ (s.chan c).owner = .take then
        endedRecord (s.lo c) (s.hi c) (s.engine.path.get c) (s.engine.untaken.get c) (s.chan c)
      else s.chan c := by
  rw [chan_endTake, releaseChannel_takeWritten hl]
  exact if_congr (by rw [ht]; simp) rfl rfl

theorem chan_ended_released (ht : s.engine.take = some n) (r : TakeResult) {c : Chan} (hs : s.engine.set.get c = true)
    (ho : (s.chan c).owner = .take) : (endTake r s).chan c =
      releaseChannel (takeWritten (s.lo c) (s.hi c) (s.engine.path.get c) (s.engine.untaken.get c) (s.chan c)) := by
  rw [chan_endTake, if_pos ⟨by rw [ht]; nofun, hs, ho⟩]

theorem releaseChannel_rests (r : Channel) : (releaseChannel r).owner = .none ∧
    (((releaseChannel r).mode = .hold ∧ (releaseChannel r).velocity = 0) ∨
      ((releaseChannel r).mode = .velocity ∧ (releaseChannel r).demand = some 0 ∧ (releaseChannel r).velocity ≠ 0)) := by
  unfold releaseChannel
  split
  next => exact ⟨rfl, .inl ⟨rfl, rfl⟩⟩
  next hv => exact ⟨rfl, .inr ⟨rfl, rfl, hv⟩⟩

/-! ## TAKE_PAUSE, TAKE_RESUME and TAKE_ABORT (R148 to R150) -/

theorem pausing_iff {e : Engine} : pausing e = true ↔ e.state = .paused ∨ (e.state = .playing ∧ e.pause = true) := by
  simp [pausing]

/-- R149: the engine's record after an accepted TAKE_RESUME, in s. -/
def resumed (s : State) : State := { s with engine := { s.engine with pause := false, state := .playing } }

theorem requestTakeResume_pausing (h : pausing s.engine = true) : requestTakeResume s =
    if setHasBody s.engine.set ∧ s.gripHeld = false then refuse s .noGrip
    else accept (if s.engine.state = .paused then raiseTakeRunning (resumed s) else resumed s) [] := by
  rw [requestTakeResume, if_neg (by simp [h])]
  rfl

/-- R149: TAKE_RESUME with its grip held. -/
theorem takeResume_replied (hr : s.canReceive = true) (h : pausing s.engine = true)
    (hg : setHasBody s.engine.set = true → s.gripHeld = true) : ∃ t, Replied .takeResume s t .ok [] ∧
      t = { servedBy s t with engine := { s.engine with pause := false, state := .playing }, notices := t.notices } ∧
      (s.engine.state = .playing → t.notices = s.notices) ∧
      (s.engine.state = .paused → ∃ d, t.notices.take.detail = some d ∧ d.state = .playing) := by
  have hf := requestTakeResume_pausing (s := serveSupervision s) h
  have hgrip : ¬(setHasBody (serveSupervision s).engine.set ∧ (serveSupervision s).gripHeld = false) := fun ⟨hb, hn⟩ =>
    absurd ((hg hb).symm.trans hn) (by decide)
  rw [if_neg hgrip] at hf
  by_cases hp : s.engine.state = .paused
  · have hf1 := hf.trans (congrArg (accept · []) (if_pos hp))
    rw [raiseTakeRunning_eq] at hf1
    refine ⟨_, replied_of_taken hr (f := requestTakeResume) rfl hf1, ?_, fun hs => ?_, fun _ => ⟨_, rfl, rfl⟩⟩
    · rw [resumed, serveSupervision_eq]
      rfl
    · rw [hp] at hs
      cases hs
  · have hf1 := hf.trans (congrArg (accept · []) (if_neg hp))
    refine ⟨_, replied_of_taken hr (f := requestTakeResume) rfl hf1, ?_, fun _ => rfl, fun hs => absurd hs hp⟩
    rw [resumed, serveSupervision_eq]
    rfl

/-- Settles O55: each of the three requests by the engine states in which it is taken, the abort by the end step. -/
theorem pauseResumeAbort : Obligations.PauseResumeAbort := by
  refine fun s hr => ⟨fun h => ?_, fun h => ?_, fun h => ?_, fun h => ⟨fun hb hg => ?_, fun hg => ?_⟩, fun h => ?_,
    fun n x h ht hx => ?_⟩
  · exact refusedWith_of_accepted hr (f := requestTakePause) rfl (if_neg h)
  · refine ⟨_, replied_of_taken hr (f := requestTakePause) rfl (if_pos h), ?_⟩
    rw [serveSupervision_eq]
    rfl
  · refine refusedWith_of_accepted hr (f := requestTakeResume) rfl (if_pos ?_)
    rw [← Bool.not_eq_true]
    exact fun hp => h (pausing_iff.1 hp)
  · exact refusedWith_of_accepted hr (f := requestTakeResume) rfl
      ((requestTakeResume_pausing (s := serveSupervision s) (pausing_iff.2 h)).trans (if_pos ⟨hb, hg⟩))
  · exact takeResume_replied hr (pausing_iff.2 h) hg
  · exact refusedWith_of_accepted hr (f := requestTakeAbort) rfl (if_pos h)
  · have ht' : (serveSupervision s).engine.take = some n := ht
    have hframe := endTake_frame ht' .aborted
    refine ⟨_, replied_of_taken hr (f := requestTakeAbort) rfl (if_neg h), ?_,
      ⟨_, findTake_endTake (s := serveSupervision s) ht hx .aborted, rfl⟩,
      fun j => findMark_endTake (s := serveSupervision s) ht hx .aborted j, fun c hc => ?_,
      fun c hs ho hl => (chan_ended (s := serveSupervision s) ht .aborted hl).trans (if_pos ⟨hs, ho⟩), fun c hs ho => ?_,
      fun j hj => findTake_endTake_other (s := serveSupervision s) ht hj .aborted, ?_, ?_⟩
    · rw [hframe]
      rfl
    · refine (chan_endTake (serveSupervision s) .aborted c).trans (if_neg fun ⟨_, hs, ho⟩ => ?_)
      exact hc.elim (fun hn => absurd (hs.symm.trans hn) (by decide)) (absurd ho)
    · have hrel := chan_ended_released (s := serveSupervision s) ht .aborted hs ho
      rw [show ∀ u : State, (sendReply ⟨.ok, []⟩ u).chan c = u.chan c from fun _ => rfl, hrel]
      exact releaseChannel_rests _
    · rw [hframe]
      rfl
    · rw [hframe, serveSupervision_eq]
      rfl

end EndOfPlay

end Sys2Proof.Machine

/-! The engine millisecond, and the update of a channel in PATH mode (O53, O54). -/

namespace Sys2Proof.Machine

section Engine

variable {s : State} {q r : Cue} {c : Chan}

/-! ## The rate (R142) -/

/-- The rate of an engine millisecond, stepped. -/
def engineRate (s : State) : Nat := rateStep s.config.rateSlew (rateTarget s) s.engine.pause s.engine.rate

theorem rateStep_eq (slew target rate : Nat) (pause : Bool) : rateStep slew target pause rate =
    if pause = false ∧ target < rate then target else max (rate - slew) (min (rate + slew) target) := by
  unfold rateStep
  cases pause
  · by_cases h : target < rate
    · simp [h]
    · rw [if_neg h, if_neg fun hn => h hn.2]
      omega
  · by_cases h : target < rate
    · rw [if_pos h, if_pos rfl, if_neg fun hn => nomatch hn.1]
      omega
    · rw [if_neg h, if_neg fun hn => nomatch hn.1]
      omega

theorem stepRate_eq (s : State) : stepRate s = { s with engine := { s.engine with rate := engineRate s } } := rfl

/-! ## The path (R145, R146) -/

/-- R146: the interpolation is the claims' path point. -/
theorem interpolate_eq (q : Cue) (time : Nat) (p : Span) :
    interpolate p.start p.stop (pathFraction q.curve (progress time (travelUnits q))) = pathPoint q time p := by
  have hu : Int.ofNat (progress time (travelUnits q)) =
      if q.travel * 1024 ≤ time then 65536 else Int.ofNat time * 65536 / (Int.ofNat q.travel * 1024) := by
    unfold progress travelUnits
    split <;> rfl
  have hf : ∀ u : Nat, Int.ofNat (pathFraction .ease u) = max 0 (min 65536
      (3 * (Int.ofNat u * Int.ofNat u / 65536) - 2 * (Int.ofNat u * Int.ofNat u / 65536 * Int.ofNat u / 65536))) := by
    intro u
    refine (Int.toNat_of_nonneg ?_).trans ?_
    · rw [clampInt_eq (by decide)]
      exact le_max_left _ _
    · rw [clampInt_eq (by decide)]
      rfl
  unfold interpolate pathPoint floorDiv
  rw [← hu]
  dsimp only
  cases q.curve
  · rfl
  · rw [hf]

theorem cueEndPoint_eq (s : State) (q : Cue) (c : Chan) : cueEndPoint s q c = cueEnd s q c := by
  unfold cueEndPoint cuePoint cueEnd
  split <;> rfl

/-- R145: a channel at the end of the cue in play: at its end point where the cue moves it, else at its path point. -/
def reachedPoint (e : Engine) (c : Chan) : Option Int := ((e.spans.get c).map Span.stop).or (e.path.get c)

/-- R146: the value written for a channel at this cue time. -/
def writtenPoint (q : Cue) (e : Engine) (time : Nat) (c : Chan) : Option Int :=
  ((e.spans.get c).map (pathPoint q time)).or (e.path.get c)

theorem path_writePath (q : Cue) (e : Engine) (c : Chan) : (writePath q e).path.get c = writtenPoint q e e.cueTime c := by
  unfold writePath writtenPoint
  dsimp only
  rw [PerChannel.get_ofFn]
  cases e.spans.get c with
  | none => rfl
  | some p => exact congrArg some (interpolate_eq q e.cueTime p)

theorem path_writeEnds (e : Engine) (c : Chan) : (writeEnds e).path.get c = reachedPoint e c := by
  unfold writeEnds reachedPoint
  dsimp only
  rw [PerChannel.get_ofFn]
  cases e.spans.get c <;> rfl

theorem get_written (e : Engine) (c : Chan) : (written e).get c = (e.untaken.get c || (e.spans.get c).isSome) := by
  rw [written, PerChannel.get_ofFn]

/-! ## The clock (R143, R144) -/

/-- The play after the rate, a pause reached, and the clock of one millisecond. -/
def clocked (s : State) : State := { reachPause (stepRate s) with engine := advanceClock (reachPause (stepRate s)).engine }

theorem playingMillisecond_eq (q : Cue) (s : State) : playingMillisecond q s =
    if (clocked s).engine.cueTime < cueUnits q then writeCue (clocked s)
    else if (activeCues (clocked s)).length ≤ (clocked s).engine.cueIndex then
      endTake (playResult (clocked s).engine) { clocked s with engine := writeEnds (clocked s).engine }
    else writeCue (nextCue (cueUnits q) (clocked s)) := rfl

theorem clocked_eq (h : engineRate s ≤ 1024) : clocked s = { s with
    engine := { s.engine with
      rate := engineRate s
      cueTime := s.engine.cueTime + engineRate s
      lag := min 67107840 (s.engine.lag + 1024 - engineRate s)
      state := if s.engine.state = .playing ∧ s.engine.pause = true ∧ engineRate s = 0 then .paused else s.engine.state }
    notices := (clocked s).notices } := by
  have hlag : s.engine.lag + 1024 - engineRate s = s.engine.lag + (1024 - engineRate s) := by omega
  rw [hlag]
  unfold clocked reachPause
  rw [stepRate_eq]
  dsimp only
  split
  · rw [raiseTakeRunning_eq]
    rfl
  · rfl

theorem clocked_notices (h : ¬(s.engine.state = .playing ∧ s.engine.pause = true ∧ engineRate s = 0)) :
    (clocked s).notices = s.notices := by
  unfold clocked reachPause
  rw [stepRate_eq]
  dsimp only
  rw [if_neg h]

theorem writeCue_eq (h : cueInPlay s = some q) :
    writeCue s = { s with engine := { writePath q s.engine with untaken := s.engine.set } } := by
  simp only [writeCue, h]

/-! ## CUEING (R139) -/

theorem engineMillisecond_cueing (hs : s.engine.state = .cueing) (hc : cueInPlay s = some q) :
    engineMillisecond s = cueingMillisecond q s := by
  simp only [engineMillisecond, hs, hc]

theorem cueing_continues (hs : s.engine.state = .cueing) (hc : cueInPlay s = some q)
    (ht : s.engine.cueTime + engineRate s < q.travel * 1024) : engineMillisecond s = { s with
      engine := writePath q { s.engine with rate := engineRate s, cueTime := s.engine.cueTime + engineRate s } } := by
  rw [engineMillisecond_cueing hs hc]
  exact if_neg (not_le.2 ht)

/-- The engine's record at the end of the cue-in. -/
def armedAtEnds (q : Cue) (s : State) : Engine :=
  { writeEnds s.engine with rate := engineRate s, cueTime := q.travel * 1024, state := .armed }

theorem cueing_ends (hs : s.engine.state = .cueing) (hc : cueInPlay s = some q)
    (ht : q.travel * 1024 ≤ s.engine.cueTime + engineRate s) : engineMillisecond s =
      raiseTakeRunning { s with engine := armedAtEnds q s } := by
  rw [engineMillisecond_cueing hs hc]
  exact if_pos ht

/-! ## PLAYING and PAUSED (R143 to R146) -/

theorem engineMillisecond_playing (hs : s.engine.state = .playing ∨ s.engine.state = .paused) (hc : cueInPlay s = some q) :
    engineMillisecond s = playingMillisecond q s := by
  rcases hs with hs | hs <;> simp only [engineMillisecond, hs, hc]

theorem clocked_cueTime (s : State) : (clocked s).engine.cueTime = s.engine.cueTime + engineRate s := by
  unfold clocked reachPause
  rw [stepRate_eq]
  dsimp only
  split <;> rfl

theorem playing_continues (hs : s.engine.state = .playing ∨ s.engine.state = .paused) (hc : cueInPlay s = some q)
    (hl : engineRate s ≤ 1024) (ht : s.engine.cueTime + engineRate s < (q.travel + q.dwell) * 1024) :
    engineMillisecond s =
      { clocked s with engine := { writePath q (clocked s).engine with untaken := s.engine.set } } := by
  have hcl : cueInPlay (clocked s) = some q := by
    rw [clocked_eq hl]
    exact hc
  have hset : (clocked s).engine.set = s.engine.set := by rw [clocked_eq hl]
  rw [engineMillisecond_playing hs hc, playingMillisecond_eq, if_pos (by rw [clocked_cueTime]; exact ht), writeCue_eq hcl,
    hset]

/-! ## The update in PATH mode (R8, R9, R147) -/

theorem profile_path {g : ChannelConfig} {lo hi w : Int} {k : Channel} (hd : k.drive = .active) (hm : k.mode = .path)
    (h : lo ≤ hi) (scale : Nat) : profile c g lo hi scale (some w) k = pathRecord lo hi w k := by
  rw [profile, if_neg (by simp [hd]), hm, ← takePath_eq h]

theorem pathRecord_stopDecel (lo hi w : Int) (k : Channel) : (pathRecord lo hi w k).stopDecel = k.stopDecel := by
  unfold pathRecord
  dsimp only
  split <;> rfl

theorem pathMode_update {w : Int} (h : wheelsStill s) (hd : (s.chan c).drive = .active) (hm : (s.chan c).mode = .path)
    (ho : (s.chan c).owner = .take) (hst : (s.chan c).stopDecel = false) (hw : s.engine.path.get c = some w)
    (hl : s.lo c ≤ s.hi c) : (channelUpdate s).chan c = pathRecord (s.lo c) (s.hi c) w (s.chan c) := by
  have hu : (updated s).chan c = pathRecord (s.lo c) (s.hi c) w (s.chan c) := by
    rw [updated_still h (by rw [ho]; nofun), profiled, hw, profile_path hd hm hl]
  rw [chan_channelUpdate (.inl (by rw [hu, pathRecord_stopDecel, hst])), hu]

theorem channelUpdate_still_engine (h : wheelsStill s) :
    (channelUpdate s).engine = { s.engine with untaken := .ofFn fun _ => false } := by
  rw [(channelUpdate_play s).1, handOverAll_still h]
  rfl

theorem exec_engineMillisecond (hr : s.running = true) : exec .engineMillisecond s = .next (engineMillisecond s) := by
  show Host.Outcome.next _ = _
  rw [whileRunning_of_running _ _ hr]

/-- Settles O53: the engine states one by one, and the update that takes the value written. -/
theorem engineMillisecondsAdvanceTheTake : Obligations.EngineMillisecondsAdvanceTheTake := by
  refine ⟨fun s h => ?_, fun s c w hr h hd hm ho hst hw hl =>
    ⟨_, exec_channelUpdate hr, pathMode_update h hd hm ho hst hw hl, channelUpdate_still_engine h⟩,
    fun s q hr hc _ => ?_⟩
  · have hid : engineMillisecond s = s := by rcases h with h | h <;> simp only [engineMillisecond, h]
    show Host.Outcome.next _ = _
    unfold whileRunning
    rw [hid, ite_self]
  · intro target rate time
    have hrate : rate = engineRate s := (rateStep_eq ..).symm
    clear_value rate
    subst hrate
    refine ⟨fun hs ht => ⟨_, exec_engineMillisecond hr, ?_⟩, fun hs ht => ⟨engineMillisecond s, ?_, exec_engineMillisecond hr, ?_⟩,
      fun hs ht hl => ⟨_, exec_engineMillisecond hr, ?_, fun h1 h2 h3 => ?_, fun c => ?_⟩⟩
    · rw [cueing_continues hs hc ht]
      refine ⟨rfl, fun c => get_written _ c, fun c => ?_⟩
      refine (path_writePath q _ c).trans ?_
      unfold writtenPoint
      dsimp only
      cases s.engine.spans.get c <;> rfl
    · refine congrArg Host.Outcome.next (eventOf_of_happens s engineMillisecond _ hr ?_)
      rw [cueing_ends hs hc ht, hs]
      rfl
    · rw [cueing_ends hs hc ht, raiseTakeRunning_eq]
      refine ⟨rfl, fun c => get_written _ c, ⟨_, rfl, rfl⟩, fun c => ?_⟩
      refine (path_writeEnds _ c).trans ?_
      unfold reachedPoint
      cases s.engine.spans.get c <;> rfl
    · rw [playing_continues hs hc hl ht, clocked_eq hl]
      rfl
    · refine congrArg Host.Outcome.next (eventOf_of_happens s engineMillisecond _ hr ?_)
      rw [playing_continues hs hc hl ht, clocked_eq hl, h1]
      simp [writePath, h2, h3]
    · rw [playing_continues hs hc hl ht, clocked_eq hl]
      refine (path_writePath q _ c).trans ?_
      unfold writtenPoint
      dsimp only
      cases s.engine.spans.get c <;> rfl

end Engine

end Sys2Proof.Machine

/-! The end of a cue, of a play and of the frame wait (O54). -/

namespace Sys2Proof.Machine

section CueEnd

variable {s : State} {q r : Cue} {x : Take} {n : Nat} {c : Chan}

/-! ## The start of a cue (R145) -/

/-- The spans of a cue that starts, from the path points. -/
def startSpans (s : State) (q : Cue) : PerChannel (Option Span) := .ofFn fun c => spanFrom s q c (s.engine.path.get c)

theorem startCue_some (h : cueInPlay s = some q) :
    startCue s = { s with engine := { s.engine with spans := startSpans s q } } := by
  unfold startCue
  rw [h]
  refine congrArg (fun sp => { s with engine := { s.engine with spans := sp } }) (PerChannel.ext_get fun c => ?_)
  rw [startSpans, PerChannel.get_ofFn, PerChannel.get_ofFn, spanFrom, cueEndPoint_eq]
  cases s.engine.path.get c <;> cases cueEnd s q c <;> rfl

theorem get_startSpans (s : State) (q : Cue) (c : Chan) :
    (startSpans s q).get c = spanFrom s q c (s.engine.path.get c) := by
  rw [startSpans, PerChannel.get_ofFn]

/-! ## The end of a cue (R143, R145) -/

/-- The engine's record when the next cue starts, before its first value is written. -/
def nextEngine (length : Nat) (e : Engine) : Engine :=
  { writeEnds e with cueTime := e.cueTime - length, cueIndex := e.cueIndex + 1 }

/-- The engine's record after the millisecond that ends a cue: the cue r has started, and its channels are written. -/
def cueEnded (r : Cue) (length : Nat) (s : State) : Engine :=
  let v : State := { s with engine := nextEngine length s.engine }
  { writePath r { v.engine with spans := startSpans v r } with untaken := s.engine.set }

theorem nextCue_writes {length : Nat} (h : (activeCues s)[s.engine.cueIndex]? = some r) :
    writeCue (nextCue length s) = { s with engine := cueEnded r length s } := by
  have hin : cueInPlay { s with engine := nextEngine length s.engine } = some r :=
    (if_neg (Nat.succ_ne_zero _)).trans h
  rw [nextCue]
  exact (congrArg writeCue (startCue_some hin)).trans (writeCue_eq (q := r) hin)

theorem activeCues_clocked (hl : engineRate s ≤ 1024) : activeCues (clocked s) = activeCues s := by
  rw [clocked_eq hl]
  rfl

theorem clocked_cueIndex (hl : engineRate s ≤ 1024) : (clocked s).engine.cueIndex = s.engine.cueIndex := by
  rw [clocked_eq hl]

/-- R143: the millisecond that ends a cue which another follows. -/
theorem engineMillisecond_nextCue (hs : s.engine.state = .playing ∨ s.engine.state = .paused) (hc : cueInPlay s = some q)
    (hl : engineRate s ≤ 1024) (ht : (q.travel + q.dwell) * 1024 ≤ s.engine.cueTime + engineRate s)
    (hr : (activeCues s)[s.engine.cueIndex]? = some r) :
    engineMillisecond s = { clocked s with engine := cueEnded r ((q.travel + q.dwell) * 1024) (clocked s) } := by
  have hlt : s.engine.cueIndex < (activeCues s).length := (List.getElem?_eq_some_iff.1 hr).1
  have hnext : (activeCues (clocked s))[(clocked s).engine.cueIndex]? = some r := by
    rw [activeCues_clocked hl, clocked_cueIndex hl]
    exact hr
  rw [engineMillisecond_playing hs hc, playingMillisecond_eq, if_neg (by rw [clocked_cueTime]; exact not_lt.2 ht),
    if_neg (by rw [activeCues_clocked hl, clocked_cueIndex hl]; exact not_le.2 hlt), nextCue_writes hnext]
  rfl

/-- The play at the end of its last cue, before the end step. -/
def playedOut (s : State) : State := { clocked s with engine := writeEnds (clocked s).engine }

/-- R143: the millisecond that ends the last cue. -/
theorem engineMillisecond_lastCue (hs : s.engine.state = .playing ∨ s.engine.state = .paused) (hc : cueInPlay s = some q)
    (hl : engineRate s ≤ 1024) (ht : (q.travel + q.dwell) * 1024 ≤ s.engine.cueTime + engineRate s)
    (hlast : (activeCues s).length ≤ s.engine.cueIndex) :
    engineMillisecond s = endTake (playResult (clocked s).engine) (playedOut s) := by
  rw [engineMillisecond_playing hs hc, playingMillisecond_eq, if_neg (by rw [clocked_cueTime]; exact not_lt.2 ht),
    if_pos (by rw [activeCues_clocked hl, clocked_cueIndex hl]; exact hlast), playedOut]

/-! ## The stored results (R123) -/

theorem storePlay_passes (lag : Nat) {result : TakeResult} (h : result = .done ∨ result = .slowed ∨ result = .partial_)
    (x : Take) : storePlay result lag x = { x with
      lastResult := result, lastLag := min 65535 (lag / 1024), passCount := min 65535 (x.passCount + 1)
      active := false } := by
  rw [storePlay, if_pos h, lagMs]

theorem playResult_passes (e : Engine) : playResult e = .done ∨ playResult e = .slowed ∨ playResult e = .partial_ := by
  unfold playResult
  split
  · exact .inr (.inr rfl)
  · split
    · exact .inr (.inl rfl)
    · exact .inl rfl

/-! ## The frame wait (R141) -/

/-- The frame wait one millisecond on, at k + 1. -/
def waited (k : Nat) (s : State) : State := { s with engine := { s.engine with frameWait := some (k + 1) } }

theorem waitFrame_millisecond (hs : s.engine.state = .waitFrame) {k : Nat} (hk : s.engine.frameWait = some k) :
    engineMillisecond s = if 250 ≤ k + 1 then endTake .failed (waited k s) else waited k s := by
  have hm : engineMillisecond s = waitMillisecond s := by simp only [engineMillisecond, hs]
  rw [hm, waitMillisecond, hk]
  rfl

theorem cueEnds (hr : s.running = true) (hc : cueInPlay s = some q)
    (hs : s.engine.state = .playing ∨ s.engine.state = .paused) (hl : engineRate s ≤ 1024)
    (ht : (q.travel + q.dwell) * 1024 ≤ s.engine.cueTime + engineRate s)
    (hn : (activeCues s)[s.engine.cueIndex]? = some r) :
    exec .cueEnd s = .next (engineMillisecond s) ∧
      engineMillisecond s = { s with
        engine := { s.engine with
          rate := engineRate s
          lag := min 67107840 (s.engine.lag + 1024 - engineRate s)
          cueTime := s.engine.cueTime + engineRate s - (q.travel + q.dwell) * 1024
          cueIndex := s.engine.cueIndex + 1
          state := if s.engine.state = .playing ∧ s.engine.pause = true ∧ engineRate s = 0 then .paused
            else s.engine.state
          path := (engineMillisecond s).engine.path
          spans := (engineMillisecond s).engine.spans
          untaken := s.engine.set }
        notices := (clocked s).notices } ∧
      ∀ c, (engineMillisecond s).engine.spans.get c = spanFrom s r c (reachedPoint s.engine c) ∧
        (engineMillisecond s).engine.path.get c = (((engineMillisecond s).engine.spans.get c).map
          (pathPoint r (engineMillisecond s).engine.cueTime)).or (reachedPoint s.engine c) := by
  have hm := engineMillisecond_nextCue hs hc hl ht hn
  have hframe : engineMillisecond s = { s with
        engine := { s.engine with
          rate := engineRate s
          lag := min 67107840 (s.engine.lag + 1024 - engineRate s)
          cueTime := s.engine.cueTime + engineRate s - (q.travel + q.dwell) * 1024
          cueIndex := s.engine.cueIndex + 1
          state := if s.engine.state = .playing ∧ s.engine.pause = true ∧ engineRate s = 0 then .paused
            else s.engine.state
          path := (engineMillisecond s).engine.path
          spans := (engineMillisecond s).engine.spans
          untaken := s.engine.set }
        notices := (clocked s).notices } := by
    rw [hm, clocked_eq hl]
    rfl
  refine ⟨?_, hframe, fun c => ?_⟩
  · refine congrArg Host.Outcome.next (eventOf_of_happens s engineMillisecond _ hr ?_)
    rw [hframe]
    exact decide_eq_true (Nat.lt_succ_self _)
  · have hreached : (nextEngine ((q.travel + q.dwell) * 1024) (clocked s).engine).path.get c = reachedPoint s.engine c := by
      refine (path_writeEnds _ c).trans ?_
      rw [clocked_eq hl]
      rfl
    rw [hm]
    refine ⟨?_, ?_⟩
    · refine (get_startSpans _ r c).trans ?_
      dsimp only
      rw [hreached, clocked_eq hl]
      rfl
    · refine (path_writePath r _ c).trans ?_
      unfold writtenPoint
      dsimp only
      rw [hreached]
      rfl

/-! ## The end of a play (R143, R152, R153) -/

theorem playedOut_eq (hl : engineRate s ≤ 1024) : playedOut s = { s with
    engine := { writeEnds s.engine with
      rate := engineRate s
      cueTime := s.engine.cueTime + engineRate s
      lag := min 67107840 (s.engine.lag + 1024 - engineRate s)
      state := if s.engine.state = .playing ∧ s.engine.pause = true ∧ engineRate s = 0 then .paused else s.engine.state }
    notices := (clocked s).notices } := by
  rw [playedOut, clocked_eq hl]
  rfl

theorem playResult_clocked (hl : engineRate s ≤ 1024) : playResult (clocked s).engine =
    if s.engine.overtaken = true then .partial_
    else if 1024 ≤ min 67107840 (s.engine.lag + 1024 - engineRate s) then .slowed else .done := by
  rw [clocked_eq hl]
  rfl

/-- R123, R153: what the end of a play leaves. -/
theorem playedOut_ends (hl : engineRate s ≤ 1024) (ht : s.engine.take = some n) (hx : s.findTake n = some x)
    {result : TakeResult} (hres : result = .done ∨ result = .slowed ∨ result = .partial_) {t : State}
    (he : t = endTake result (playedOut s)) :
    let lag := min 67107840 (s.engine.lag + 1024 - engineRate s)
    t.engine.state = .idle ∧ t.engine.take = none ∧ (∀ c, t.engine.set.get c = false) ∧ t.engine.lag = lag ∧
      t.findTake n = some { x with
        lastResult := result, lastLag := min 65535 (lag / 1024), passCount := min 65535 (x.passCount + 1)
        active := false } ∧
      (∀ j, j ≠ n → t.findTake j = s.findTake j) ∧
      (∀ j, t.findMark j = (s.findMark j).map fun k => { k with
        locked := k.locked && !(x.cues.any fun q => q.mark == j) }) ∧
      (∀ c, s.lo c ≤ s.hi c → t.chan c = if s.engine.set.get c = true ∧ (s.chan c).owner = .take then
          endedRecord (s.lo c) (s.hi c) (reachedPoint s.engine c)
            (s.engine.untaken.get c || (s.engine.spans.get c).isSome) (s.chan c)
        else s.chan c) ∧
      t = { s with
        engine := t.engine, takes := t.takes, marks := t.marks, channels := t.channels, notices := t.notices } ∧
      t.notices.take.detail = some ⟨n, .idle, result, s.engine.cueIndex⟩ := by
  intro lag
  have hv := playedOut_eq hl
  have hvt : (playedOut s).engine.take = some n := by rw [hv]; exact ht
  have hvx : (playedOut s).findTake n = some x := by rw [hv]; exact hx
  have hframe : t = _ := he.trans (endTake_frame hvt result)
  have hengine : t.engine = engineIdle (playedOut s).engine := by rw [hframe]
  have hlag : (playedOut s).engine.lag = lag := by rw [hv]
  refine ⟨by rw [hengine]; rfl, by rw [hengine]; rfl, fun c => ?_, by rw [hengine, ← hlag]; rfl, ?_, fun j hj => ?_,
    fun j => ?_, fun c hlo => ?_, ?_, ?_⟩
  · rw [hengine]
    exact PerChannel.get_ofFn _ c
  · rw [he, findTake_endTake hvt hvx, hlag, storePlay_passes _ hres]
  · rw [he, findTake_endTake_other hvt hj, hv]
    rfl
  · rw [he, findMark_endTake hvt hvx, hv]
    rfl
  · have hpath : (playedOut s).engine.path.get c = reachedPoint s.engine c := by rw [hv]; exact path_writeEnds _ c
    have huntaken : (playedOut s).engine.untaken.get c = (s.engine.untaken.get c || (s.engine.spans.get c).isSome) := by
      rw [hv]
      exact get_written _ c
    rw [he, chan_ended hvt result (by rw [hv]; exact hlo), hpath, huntaken, hv]
    rfl
  · rw [hframe, hv]
  · rw [hframe, hv]
    rfl

/-- Settles O54: the cue that another follows, the last cue, and the frame wait. -/
theorem cuesAndPlaysEnd : Obligations.CuesAndPlaysEnd := by
  refine ⟨fun s q n hr hc ht hs => ?_, fun s n hr ht hs => ⟨fun k hk hlt => ?_, fun k hk hle => ?_⟩⟩
  · intro target rate length lag pausing reached hl hle
    have hrate : rate = engineRate s := (rateStep_eq ..).symm
    have hreached : reached = reachedPoint s.engine := funext fun c => by
      unfold reachedPoint
      dsimp only [reached]
      cases s.engine.spans.get c <;> rfl
    clear_value rate reached
    subst hrate hreached
    refine ⟨fun r hn => ?_, fun x hlast hx => ?_⟩
    · obtain ⟨hev, hframe, hspans⟩ := cueEnds hr hc hs hl hle hn
      refine ⟨_, hev, exec_engineMillisecond hr, ?_, fun hp => ?_, fun c => ⟨(hspans c).1, ?_⟩⟩
      · rw [hframe]
      · rw [hframe]
        exact clocked_notices hp
      · rw [(hspans c).2]
        cases (engineMillisecond s).engine.spans.get c <;> rfl
    · intro result
      have hres : playResult (clocked s).engine = result := playResult_clocked hl
      have hm := engineMillisecond_lastCue hs hc hl hle hlast
      rw [hres] at hm
      have hends := playedOut_ends hl ht hx (hres ▸ playResult_passes (clocked s).engine) hm
      refine ⟨_, congrArg Host.Outcome.next (eventOf_of_happens s engineMillisecond _ hr ?_), exec_engineMillisecond hr, hends⟩
      rw [hends.1]
      rcases hs with hs | hs <;> rw [hs] <;> rfl
  · rw [exec_engineMillisecond hr, waitFrame_millisecond hs hk, if_neg (by omega)]
    rfl
  · have hm : engineMillisecond s = endTake .failed (waited k s) :=
      (waitFrame_millisecond hs hk).trans (if_pos hle)
    have hframe := hm.trans (endTake_frame (s := waited k s) ht .failed)
    have hidle : (engineMillisecond s).engine.state = .idle := by rw [hframe]; rfl
    refine ⟨_, congrArg Host.Outcome.next (eventOf_of_happens s engineMillisecond _ hr ?_), exec_engineMillisecond hr,
      hidle, by rw [hframe]; rfl, fun x hx =>
        ⟨storePlay .failed s.engine.lag x, ?_, rfl, rfl, rfl⟩,
      ⟨⟨n, .idle, .failed, s.engine.cueIndex⟩, by rw [hframe]; rfl, rfl, rfl⟩⟩
    · rw [hidle, hs]
      rfl
    · rw [hm]
      exact findTake_endTake (s := waited k s) ht hx .failed

end CueEnd

end Sys2Proof.Machine

/-! TAKE_GO and the FRAME edge (O52). -/

namespace Sys2Proof.Machine

section Go

variable {s : State} {q : Cue} {x : Take} {n : Nat} {m : Byte} {onFrame : Bool}

/-! ## The start of a play (R140) -/

/-- The engine in PLAYING at the start of cue k, before its spans and its rate are set. -/
def playFrom (k : Nat) (s : State) : State :=
  { s with engine := { s.engine with state := .playing, cueIndex := k, cueTime := 0, frameWait := none } }

theorem startPlay_two (h : 2 ≤ (activeCues s).length) :
    startPlay s = raiseTakeRunning (setRate (startCue (playFrom 2 s))) := by
  have h1 : decide ((activeCues s).length ≤ 1) = false := decide_eq_false (by omega)
  unfold startPlay
  rw [h1]
  rfl

/-- A take of one cue at its start, which is its end (log entry 17). -/
def oneCuePlayed (s : State) : State := raiseTakeRunning (setRate (playFrom 1 s))

theorem startPlay_one (h : (activeCues s).length ≤ 1) :
    startPlay s = endTake (if s.engine.overtaken = true then .partial_ else .done) (oneCuePlayed s) := by
  have h1 : decide ((activeCues s).length ≤ 1) = true := decide_eq_true h
  unfold startPlay
  rw [h1]
  rfl

/-- The engine's record when cue 2 starts. -/
def playedEngine (q : Cue) (s : State) : Engine :=
  { s.engine with
    state := .playing, cueIndex := 2, cueTime := 0, frameWait := none, spans := startSpans s q
    rate := if setHasArm s.engine.set = true then s.zoneMonitor.scale else 1024 }

theorem startPlay_eq (hq : (activeCues s)[1]? = some q) (hp : s.engine.pause = false) :
    startPlay s = raiseTakeRunning { s with engine := playedEngine q s } := by
  have h2 : 2 ≤ (activeCues s).length := (List.getElem?_eq_some_iff.1 hq).1
  have hin : cueInPlay (playFrom 2 s) = some q := (if_neg (show ¬(2 : Nat) = 0 by decide)).trans hq
  have hrate : ∀ u : State, u.engine.pause = false → setRate u = { u with engine := { u.engine with
      rate := if setHasArm u.engine.set = true then u.zoneMonitor.scale else 1024 } } := fun u hu => by
    rw [setRate, rateTarget, hu, if_neg (by decide)]
  rw [startPlay_two h2, startCue_some hin]
  exact congrArg raiseTakeRunning (hrate _ hp)

/-! ## TAKE_GO (R140, R141) -/

theorem requestTakeGo_eq (h : twoValued m = some onFrame) : requestTakeGo m s =
    if s.engine.state ≠ .armed then refuse s .state
    else if setHasBody s.engine.set ∧ s.gripHeld = false then refuse s .noGrip
    else accept (if onFrame then startFrameWait s else startPlay s) [] := by
  rw [requestTakeGo, h]

theorem twoValued_some (h : m = 0#8 ∨ m = 1#8) : ∃ onFrame, twoValued m = some onFrame := by
  rcases h with rfl | rfl
  · exact ⟨false, rfl⟩
  · exact ⟨true, rfl⟩

theorem requestTakeGo_granted (h : twoValued m = some onFrame) (hs : s.engine.state = .armed)
    (hg : setHasBody s.engine.set = true → s.gripHeld = true) :
    requestTakeGo m s = accept (if onFrame then startFrameWait s else startPlay s) [] := by
  rw [requestTakeGo_eq h, if_neg (not_not.2 hs), if_neg fun ⟨hb, hn⟩ => absurd ((hg hb).symm.trans hn) (by decide)]

/-! ## The FRAME edge (R83, R141) -/

theorem renewFrame_eq (s : State) : renewFrame s = { s with
    stops := { s.stops with frame := ⟨true, s.stops.frame.changed || !s.stops.frame.present, 0⟩ }
    notices := (renewFrame s).notices } := by
  unfold renewFrame
  dsimp only
  cases hp : s.stops.frame.present
  · rw [Bool.not_false, Bool.or_true]
    rfl
  · rw [Bool.not_true, Bool.or_false, if_pos rfl]

theorem frameEdge_waiting (h : s.engine.state = .waitFrame) : frameEdge s = startPlay (renewFrame s) := by
  unfold frameEdge
  exact if_pos (by rw [renewFrame_eq]; exact h)

theorem frameEdge_elsewhere (h : s.engine.state ≠ .waitFrame) : frameEdge s = renewFrame s := by
  unfold frameEdge
  exact if_neg (by rw [renewFrame_eq]; exact h)

theorem exec_frameEdge (hr : s.running = true) : exec .frameEdge s = .next (frameEdge s) := by
  show Host.Outcome.next _ = _
  rw [whileRunning_of_running _ _ hr]

/-- The engine in WAIT_FRAME. -/
def waitingWith (w : Option Nat) (s : State) : State :=
  { s with engine := { s.engine with state := .waitFrame, frameWait := w } }

theorem exec_frameEdge_waiting (hr : s.running = true) (w : Option Nat) :
    exec .frameEdge (waitingWith w s) = .next (startPlay (renewFrame (waitingWith w s))) := by
  rw [exec_frameEdge (s := waitingWith w s) hr, frameEdge_waiting rfl]

/-- R141: the edge starts the play that TAKE_GO would have started. -/
theorem edge_starts (hr : s.running = true) (hq : (activeCues s)[1]? = some q) (hp : s.engine.pause = false) (w : Option Nat) :
    ∃ u, exec .frameEdge (waitingWith w s) = .next u ∧ u.engine = playedEngine q s ∧ u.channels = s.channels ∧
      u.stops.frame.present = true := by
  have hf := renewFrame_eq (waitingWith w s)
  have hstart : startPlay (renewFrame (waitingWith w s)) = _ :=
    startPlay_eq (q := q) (by rw [hf]; exact hq) (by rw [hf]; exact hp)
  refine ⟨_, exec_frameEdge_waiting hr w, ?_⟩
  rw [hstart, hf]
  exact ⟨rfl, rfl, rfl⟩

/-- R140: an accepted TAKE_GO of a take of two cues or more. -/
theorem go_plays (hr : s.canReceive = true) (hs : s.engine.state = .armed)
    (hg : setHasBody s.engine.set = true → s.gripHeld = true) (h2 : 2 ≤ (activeCues s).length)
    (hp : s.engine.pause = false) : ∃ t, Replied (.takeGo .unit 0#8) s t .ok [] ∧
      t = { servedBy s t with engine := t.engine, notices := t.notices } ∧ t.engine.state = .playing ∧
      t.engine.cueIndex = 2 ∧ t.engine.cueTime = 0 ∧ t.engine.take = s.engine.take ∧ t.engine.set = s.engine.set ∧
      t.engine = { s.engine with
        state := .playing, cueIndex := 2, cueTime := 0, frameWait := none, spans := t.engine.spans
        rate := if setHasArm s.engine.set = true then s.zoneMonitor.scale else 1024 } ∧
      (∀ q c, (activeCues s)[1]? = some q → t.engine.spans.get c = spanFrom s q c (s.engine.path.get c)) ∧
      (∃ d, t.notices.take.detail = some d ∧ d.state = .playing ∧ d.cueIndex = 2) ∧
      ∀ w, s.running = true → s.engine.state = .armed → s.engine.frameWait = none →
        ∃ u, exec .frameEdge { s with engine := { s.engine with state := .waitFrame, frameWait := w } } = .next u ∧
          u.engine = t.engine ∧ u.channels = s.channels ∧ u.stops.frame.present = true := by
  obtain ⟨q, hq⟩ : ∃ q, (activeCues s)[1]? = some q := ⟨_, List.getElem?_eq_getElem h2⟩
  have hf := requestTakeGo_granted (s := serveSupervision s) (m := 0#8) rfl hs hg
  rw [if_neg (by decide), startPlay_eq (s := serveSupervision s) (q := q) hq hp, raiseTakeRunning_eq] at hf
  refine ⟨_, replied_of_taken hr (f := requestTakeGo 0#8) rfl hf, ?_, rfl, rfl, rfl, rfl, rfl, rfl, fun r c hrq => ?_,
    ⟨_, rfl, rfl, rfl⟩, fun w hrun _ _ => edge_starts hrun hq hp w⟩
  · rw [serveSupervision_eq]
    rfl
  · obtain rfl : r = q := Option.some.inj (hrq.symm.trans hq)
    exact get_startSpans s r c

/-! ## A take of one cue (R140; log entry 17) -/

/-- The end step reads neither link nor stops nor notices for what it writes elsewhere. -/
theorem endTake_independent (r : TakeResult) (v : State) (st : StopRecord) (li : LinkRecord) (no : NoticeUnit) :
    let t := endTake r { v with stops := st, link := li, notices := no }
    t.engine = (endTake r v).engine ∧ t.takes = (endTake r v).takes ∧ t.marks = (endTake r v).marks ∧
      t.channels = (endTake r v).channels := by
  unfold endTake
  dsimp only
  cases v.engine.take <;> exact ⟨rfl, rfl, rfl, rfl⟩

theorem oneCuePlayed_eq (s : State) : oneCuePlayed s = { setRate (playFrom 1 s) with notices := (oneCuePlayed s).notices } := by
  rw [oneCuePlayed, raiseTakeRunning_eq]

theorem go_ends (hr : s.canReceive = true) (hs : s.engine.state = .armed)
    (hg : setHasBody s.engine.set = true → s.gripHeld = true) (h1 : (activeCues s).length ≤ 1)
    (ht : s.engine.take = some n) (hx : s.findTake n = some x) (hlag : s.engine.lag = 0) :
    let result := if s.engine.overtaken = true then TakeResult.partial_ else .done
    ∃ t, Replied (.takeGo .unit 0#8) s t .ok [] ∧ t.engine.state = .idle ∧ t.engine.take = none ∧
      t.engine.cueIndex = 1 ∧ t.engine.lag = 0 ∧ (∀ c, t.engine.set.get c = false) ∧
      t.findTake n = some { x with
        lastResult := result, lastLag := 0, passCount := min 65535 (x.passCount + 1), active := false } ∧
      (∀ c, s.lo c ≤ s.hi c → t.chan c = if s.engine.set.get c = true ∧ (s.chan c).owner = .take then
          endedRecord (s.lo c) (s.hi c) (s.engine.path.get c) (s.engine.untaken.get c) (s.chan c)
        else s.chan c) ∧
      t.notices.take = ⟨some ⟨n, .idle, result, 1⟩, true⟩ ∧
      ∀ w, ∃ u, exec .frameEdge { s with engine := { s.engine with state := .waitFrame, frameWait := w } } = .next u ∧
        u.engine = t.engine ∧ u.takes = t.takes ∧ u.marks = t.marks ∧ u.channels = t.channels := by
  intro result
  set v := serveSupervision s with hv
  have hf := requestTakeGo_granted (s := v) (m := 0#8) rfl hs hg
  rw [if_neg (by decide), startPlay_one (s := v) h1] at hf
  have hpass : result = .done ∨ result = .slowed ∨ result = .partial_ := by
    by_cases ho : s.engine.overtaken = true
    · exact .inr (.inr (if_pos ho))
    · exact .inl (if_neg ho)
  have hone := oneCuePlayed_eq v
  have htake : (oneCuePlayed v).engine.take = some n := by rw [hone]; exact ht
  have hfind : (oneCuePlayed v).findTake n = some x := by rw [hone]; exact hx
  have hlag' : (oneCuePlayed v).engine.lag = 0 := by rw [hone]; exact hlag
  have hframe := endTake_frame htake result
  have hengine : (endTake result (oneCuePlayed v)).engine = engineIdle (oneCuePlayed v).engine := by rw [hframe]
  refine ⟨_, replied_of_taken hr (f := requestTakeGo 0#8) rfl hf, ?_, ?_, ?_, ?_, fun c => ?_, ?_, fun c hl => ?_, ?_,
    fun w => ⟨_, exec_frameEdge_waiting (running_of_canReceive s hr) w, ?_⟩⟩
  · exact congrArg Engine.state hengine
  · exact congrArg Engine.take hengine
  · refine (congrArg Engine.cueIndex hengine).trans ?_
    rw [hone]
    rfl
  · exact (congrArg Engine.lag hengine).trans hlag'
  · exact (congrArg (fun e => e.set.get c) hengine).trans (PerChannel.get_ofFn _ c)
  · have hk := findTake_endTake htake hfind result
    rw [hlag', storePlay_passes 0 hpass] at hk
    exact hk
  · refine (chan_ended htake result (by rw [hone]; exact hl)).trans ?_
    rw [hone]
    rfl
  · have hindex : (oneCuePlayed v).engine.cueIndex = 1 := by rw [hone]; rfl
    refine (congrArg (fun u => u.notices.take) hframe).trans ?_
    dsimp only [noticesWith]
    rw [hindex]
    rfl
  · have hplayed (u : State) (hu : playFrom 1 u = { playFrom 1 s with stops := u.stops, link := u.link, notices := u.notices }) :
        oneCuePlayed u = { setRate (playFrom 1 s) with
          stops := u.stops, link := u.link, notices := (oneCuePlayed u).notices } := by
      rw [oneCuePlayed_eq, hu]
      rfl
    have hr := renewFrame_eq (waitingWith w s)
    have hone1 := hplayed v (by rw [hv, serveSupervision_eq]; rfl)
    have hone2 := hplayed (renewFrame (waitingWith w s)) (by rw [hr]; rfl)
    have hstart : startPlay (renewFrame (waitingWith w s)) = endTake result (oneCuePlayed (renewFrame (waitingWith w s))) := by
      rw [startPlay_one (by rw [hr]; exact h1)]
      rw [hr]
      rfl
    rw [hstart, hone2]
    obtain ⟨he, htk, hm, hch⟩ := endTake_independent result (setRate (playFrom 1 s)) (renewFrame (waitingWith w s)).stops
      (renewFrame (waitingWith w s)).link (oneCuePlayed (renewFrame (waitingWith w s))).notices
    obtain ⟨he1, htk1, hm1, hch1⟩ := endTake_independent result (setRate (playFrom 1 s)) v.stops v.link (oneCuePlayed v).notices
    rw [← hone1] at he1 htk1 hm1 hch1
    exact ⟨he.trans he1.symm, htk.trans htk1.symm, hm.trans hm1.symm, hch.trans hch1.symm⟩

/-- Settles O52: TAKE_GO by its tests and by the number of cues, and the edge in WAIT_FRAME and elsewhere. -/
theorem goStartsThePlay : Obligations.GoStartsThePlay := by
  refine fun s => ⟨fun hr => ⟨fun m h0 h1 => ?_, fun m hm hs => ?_, fun m hm hs hb hg => ?_, fun hs hg =>
    ⟨?_, fun h2 hp => go_plays hr hs hg h2 hp, fun n x h1 ht hx hlag _ => go_ends hr hs hg h1 ht hx hlag⟩⟩, fun hr hs => ?_⟩
  · have hm : twoValued m = none := by simp [twoValued, h0, h1]
    exact refusedWith_of_accepted hr (f := requestTakeGo m) rfl (by rw [requestTakeGo, hm])
  · obtain ⟨onFrame, hm⟩ := twoValued_some hm
    exact refusedWith_of_accepted hr (f := requestTakeGo m) rfl
      ((requestTakeGo_eq (s := serveSupervision s) hm).trans (if_pos hs))
  · obtain ⟨onFrame, hm⟩ := twoValued_some hm
    exact refusedWith_of_accepted hr (f := requestTakeGo m) rfl
      ((requestTakeGo_eq (s := serveSupervision s) hm).trans ((if_neg (not_not.2 hs)).trans (if_pos ⟨hb, hg⟩)))
  · have hf := requestTakeGo_granted (s := serveSupervision s) (m := 1#8) rfl hs hg
    rw [if_pos rfl, startFrameWait, raiseTakeRunning_eq] at hf
    refine ⟨_, replied_of_taken hr (f := requestTakeGo 1#8) rfl hf, ?_, _, rfl, rfl⟩
    rw [serveSupervision_eq]
    rfl
  · refine ⟨_, exec_frameEdge hr, ?_⟩
    rw [frameEdge_elsewhere hs, renewFrame_eq]
    exact ⟨rfl, rfl, rfl, rfl⟩

end Go

end Sys2Proof.Machine

/-! TAKE_ARM (O51). -/

namespace Sys2Proof.Machine

section Speeds

variable {s : State} {q : Cue} {c : Chan}

/-! ## The channel set and the velocity checks (R135, R137) -/

theorem get_channelSet (s : State) (cues : List Cue) (c : Chan) :
    (channelSet s cues).get c = true ↔ ∃ q ∈ cues, cueEnd s q c ≠ none := by
  rw [channelSet, PerChannel.get_ofFn, List.any_eq_true]
  refine exists_congr fun q => and_congr_right fun _ => ?_
  rw [← cueEndPoint_eq, cueEndPoint, Ne, Option.map_eq_none_iff, Option.isSome_iff_ne_none]

/-- R137: the cue would carry the channel, which stands at its point, faster than its vmax. -/
def carriesTooFast (s : State) (points : PerChannel Int) (q : Cue) (c : Chan) : Bool :=
  (cueEnd s q c).any fun e => !speedAllowed (s.cfg c).vmax q (points.get c) e

theorem failingChannel_eq (s : State) (q : Cue) (points : PerChannel Int) :
    failingChannel s q points = allChans.find? (carriesTooFast s points q) := by
  unfold failingChannel
  refine congrArg (allChans.find? ·) (funext fun c => ?_)
  rw [carriesTooFast, cueEndPoint_eq]
  cases cueEnd s q c <;> rfl

/-- Where the channels stand after the cues of a list. -/
def StandAfter (s : State) (earlier : List Cue) (points : PerChannel Int) : Prop :=
  ∀ c, points.get c = startAfter s earlier c

theorem tooFast_iff {earlier later : List Cue} {points : PerChannel Int} (h : StandAfter s earlier points) :
    tooFast s (earlier ++ q :: later) earlier.length c ↔ carriesTooFast s points q c = true := by
  have hcue : (earlier ++ q :: later)[earlier.length]? = some q := by simp
  simp only [tooFast, hcue, List.take_left, carriesTooFast, Option.any_eq_true, speedAllowed, h c, Bool.not_eq_true',
    decide_eq_false_iff_not, not_le, Option.some.injEq]
  constructor
  · rintro ⟨_, e, rfl, he, hlt⟩
    refine ⟨e, he, ?_⟩
    cases hq : q.curve <;> rw [hq] at hlt <;> exact hlt
  · rintro ⟨e, he, hlt⟩
    refine ⟨q, e, rfl, he, ?_⟩
    cases hq : q.curve <;> rw [hq] at hlt <;> exact hlt

theorem standAfter_next {earlier : List Cue} {points : PerChannel Int} (h : StandAfter s earlier points) (q : Cue) :
    StandAfter s (earlier ++ [q]) (.ofFn fun c => (cueEndPoint s q c).getD (points.get c)) := by
  intro c
  rw [PerChannel.get_ofFn, cueEndPoint_eq, h c]
  unfold startAfter
  rw [List.reverse_append, List.reverse_singleton, List.singleton_append, List.findSome?_cons]
  cases cueEnd s q c <;> rfl

theorem firstTooFast_cons (s : State) (k : Nat) (q : Cue) (later : List Cue) (points : PerChannel Int) :
    firstTooFast s k (q :: later) points = ((allChans.find? (carriesTooFast s points q)).map fun c => (k, c)).or
      (firstTooFast s (k + 1) later (.ofFn fun c => (cueEndPoint s q c).getD (points.get c))) := by
  rw [firstTooFast, failingChannel_eq]
  cases allChans.find? (carriesTooFast s points q) <;> rfl

theorem not_tooFast_beyond {cues : List Cue} {k : Nat} (h : cues.length ≤ k) : ¬tooFast s cues k c := by
  rintro ⟨q, e, hq, -⟩
  rw [List.getElem?_eq_none h] at hq
  cases hq

/-- R137: no cue of the rest carries a channel too fast. -/
theorem firstTooFast_none : ∀ (later earlier : List Cue) (points : PerChannel Int), StandAfter s earlier points →
    (∀ k c, ¬tooFast s (earlier ++ later) k c) → firstTooFast s (earlier.length + 1) later points = none
  | [], _, _, _, _ => rfl
  | q :: later, earlier, points, h, hn => by
    have hfind : allChans.find? (carriesTooFast s points q) = none := List.find?_eq_none.2 fun c _ hc =>
      hn earlier.length c ((tooFast_iff h).2 hc)
    have ih := firstTooFast_none later (earlier ++ [q]) _ (standAfter_next h q) (by simpa using hn)
    rw [List.length_append, List.length_singleton] at ih
    rw [firstTooFast_cons, hfind, ih]
    rfl

/-- R137: the lowest channel of the first cue of the rest that carries one too fast. -/
theorem firstTooFast_some {k : Nat} : ∀ (later earlier : List Cue) (points : PerChannel Int), StandAfter s earlier points →
    earlier.length ≤ k → tooFast s (earlier ++ later) k c →
    (∀ d, chanIndex d < chanIndex c → ¬tooFast s (earlier ++ later) k d) →
    (∀ j d, j < k → ¬tooFast s (earlier ++ later) j d) →
    firstTooFast s (earlier.length + 1) later points = some (k + 1, c)
  | [], earlier, _, _, hk, hc, _, _ => absurd hc (not_tooFast_beyond (by simpa using hk))
  | q :: later, earlier, points, h, hk, hc, hlow, hfirst => by
    rw [firstTooFast_cons]
    rcases hk.eq_or_lt with rfl | hlt
    · have hfind : allChans.find? (carriesTooFast s points q) = some c :=
        find?_chan_of_lowest ((tooFast_iff h).1 hc) fun d hd =>
          Bool.eq_false_iff.2 fun hd' => hlow d hd ((tooFast_iff h).2 hd')
      rw [hfind]
      rfl
    · have hfind : allChans.find? (carriesTooFast s points q) = none := List.find?_eq_none.2 fun d _ hd =>
        hfirst earlier.length d hlt ((tooFast_iff h).2 hd)
      have happ : earlier ++ [q] ++ later = earlier ++ q :: later := by simp
      have ih := firstTooFast_some later (earlier ++ [q]) _ (standAfter_next h q) (by simpa using hlt) (happ ▸ hc)
        (happ ▸ hlow) (happ ▸ hfirst)
      rw [List.length_append, List.length_singleton] at ih
      rw [hfind, ih]
      rfl

theorem standAfter_nil (s : State) : StandAfter s [] (setpoints s) := fun c => PerChannel.get_ofFn _ c

end Speeds

section Arming

variable {s : State} {x : Take} {set : PerChannel Bool} {n : Nat} {b : Byte}

/-! ## The claims (R16 to R18, R27, R138) -/

/-- A channel that a take arms away from the console. -/
def losesTo (set : PerChannel Bool) (s : State) (c : Chan) : Bool := set.get c && decide ((s.chan c).owner = .console)

/-- Grants on channels that nobody owns, or that the console owns outside any move, write their records alone. -/
theorem foldl_grant_take : ∀ (l : List Chan) (v : State), l.Nodup →
    (∀ c ∈ l, (v.chan c).owner = .none ∨ ((v.chan c).owner = .console ∧ ∀ k ∈ v.moves, k.remaining.get c = false)) →
    l.foldl (fun v c => grant .take .path none none c v) v =
      { v with channels := (l.foldl (fun v c => grant .take .path none none c v) v).channels }
  | [], _, _, _ => rfl
  | c :: l, v, hn, ho => by
    rw [List.nodup_cons] at hn
    have hg : grant .take .path none none c v = v.setChan c (grantRecord .take .path none none (v.chan c)) := by
      rcases ho c List.mem_cons_self with hf | ⟨hf, hm⟩
      · exact grant_of_none hf
      · exact grant_of_free (.inr hf) hm
    rw [List.foldl_cons, hg]
    refine foldl_grant_take l _ hn.2 fun d hd => ?_
    have hne : d ≠ c := fun he => hn.1 (he ▸ hd)
    rw [chan_setChan, if_neg hne]
    exact ho d (List.mem_cons_of_mem _ hd)

theorem owner_of_takeGranted {c : Chan} (h : claimCode .take false s c = none) :
    (s.chan c).owner = .none ∨ (s.chan c).owner = .console := by
  rcases owner_of_trackGranted (.inl rfl) h with ho | ho | ⟨-, hp⟩
  · exact .inl ho
  · exact .inr ho
  · cases hp

/-- R18, R27: the claims of an accepted TAKE_ARM: channels and moves. -/
theorem grantedTake_frame (hcl : ∀ c, set.get c = true → claimCode .take false s c = none) :
    grantedTake set s = { s with
      channels := (grantedTake set s).channels
      moves := movesLeft (losesTo set s) s.moves
      notices := (interruptMoves (losesTo set s) s).notices } := by
  have hhit : (fun c => set.get c && ((s.chan c).owner == .console)) = losesTo set s :=
    funext fun c => by rw [losesTo, beq_eq_decide]
  have hg := foldl_grant_take (setChans set) (interruptMoves (losesTo set s) s) (setChans_nodup set) fun c hc => by
    rw [chan_interruptMoves]
    refine (owner_of_takeGranted (hcl c (mem_setChans_iff.1 hc))).imp id fun ho => ⟨ho, fun k hk => ?_⟩
    rw [interruptMoves_moves] at hk
    by_contra hr
    have hh := (mem_movesLeft.1 hk).2 c (by simpa using hr)
    rw [losesTo, mem_setChans_iff.1 hc, ho] at hh
    exact absurd hh (by decide)
  unfold grantedTake
  rw [hhit]
  generalize (setChans set).foldl (fun v c => grant .take .path none none c v) (interruptMoves (losesTo set s) s) = g at hg ⊢
  refine hg.trans ?_
  conv_lhs => rw [interruptMoves_frame]

/-! ## The record of an armed take (R109, R124, R138, R145) -/

theorem findTake_locked (hx : s.findTake n = some x) (j : Nat) :
    (lockTake x s).findTake j = (s.findTake j).map fun y => { y with active := y.active || decide (j = n) } := by
  have hn : x.number = n := (findTake_some hx).2
  have hkey : ∀ u : Take, (if u.number = x.number then { u with active := true } else u).number = u.number := fun u => by
    split <;> rfl
  show (s.takes.map _).find? _ = _
  rw [find_map_key (key := fun u : Take => u.number) hkey]
  refine Option.map_congr fun u hu => ?_
  have hj : u.number = j := by simpa using List.find?_some hu
  subst hj hn
  by_cases he : u.number = x.number
  · rw [if_pos he, decide_eq_true he, Bool.or_true]
  · rw [if_neg he, decide_eq_false he, Bool.or_false]

theorem findMark_locked (x : Take) (s : State) (j : Nat) : (lockTake x s).findMark j =
    (s.findMark j).map fun k => { k with locked := k.locked || x.cues.any fun q => q.mark == j } := by
  show (s.marks.map _).find? _ = _
  rw [find_map_key (key := fun k : Mark => k.number)
    (f := fun m => if namesMark x m.number then { m with locked := true } else m) fun k => by split <;> rfl]
  refine Option.map_congr fun k hk => ?_
  have hj : k.number = j := by simpa using List.find?_some hk
  subst hj
  rw [namesMark]
  cases x.cues.any fun q => q.mark == k.number
  · rw [if_neg (by simp), Bool.or_false]
  · rw [if_pos rfl, Bool.or_true]

theorem cueEnd_of_same {u : State} (hlo : u.lo = s.lo) (hhi : u.hi = s.hi)
    (hm : ∀ j, (u.findMark j).map (·.values) = (s.findMark j).map (·.values)) (q : Cue) (c : Chan) :
    cueEnd u q c = cueEnd s q c := by
  have hv : ∀ o : Option Mark, (o.bind fun k => k.values.get c) = (o.map (·.values)).bind fun v => v.get c := fun o => by
    cases o <;> rfl
  unfold cueEnd
  rw [hv, hv, hm, hlo, hhi]

/-- The engine's record after an accepted TAKE_ARM whose first cue is q. -/
def armedWith (q : Cue) (n : Nat) (set : PerChannel Bool) (s : State) : Engine :=
  { armedEngine n set s with
    spans := .ofFn fun c => if set.get c = true then (cueEnd s q c).map fun e => ⟨(s.chan c).setpoint, e⟩ else none
    rate := if setHasArm set = true then s.zoneMonitor.scale else 1024 }

theorem lockedTake_frame (hcl : ∀ c, set.get c = true → claimCode .take false s c = none) (x : Take) :
    lockedTake x set s = lockTake x { s with
      channels := (grantedTake set s).channels
      moves := movesLeft (losesTo set s) s.moves
      notices := (interruptMoves (losesTo set s) s).notices
      engine := armedEngine x.number set s } := by
  rw [lockedTake, grantedTake_frame hcl]

/-- R138, R145: an accepted TAKE_ARM, whole. -/
theorem armTake_frame (hcl : ∀ c, set.get c = true → claimCode .take false s c = none) (hx : s.findTake n = some x)
    {q : Cue} {rest : List Cue} (hq : x.cues = q :: rest) :
    armTake x set s = raiseTakeRunning { lockTake x s with
      channels := (grantedTake set s).channels
      moves := movesLeft (losesTo set s) s.moves
      notices := (interruptMoves (losesTo set s) s).notices
      engine := armedWith q n set s } := by
  obtain rfl : x.number = n := (findTake_some hx).2
  have hl := lockedTake_frame hcl x
  set w := lockedTake x set s with hw
  have hfound : w.findTake x.number = some { x with active := x.active || decide (x.number = x.number) } := by
    rw [hl]
    exact (findTake_locked (s := s) hx x.number).trans (by rw [hx]; rfl)
  have hengine : w.engine = armedEngine x.number set s := by rw [hl]; rfl
  have hin : cueInPlay w = some q := by
    have hcues : activeCues w = x.cues := by
      rw [activeCues, hengine]
      show ((w.findTake x.number).map _).getD [] = _
      rw [hfound]
      rfl
    rw [cueInPlay, hengine, hcues, hq]
    rfl
  have hend (c : Chan) : cueEnd w q c = cueEnd s q c := by
    refine cueEnd_of_same (by rw [hl]; rfl) (by rw [hl]; rfl) (fun j => ?_) q c
    rw [hl]
    show ((lockTake x s).findMark j).map _ = _
    rw [findMark_locked, Option.map_map]
    rfl
  have hspans : startSpans w q =
      .ofFn fun c => if set.get c = true then (cueEnd s q c).map fun e => ⟨(s.chan c).setpoint, e⟩ else none := by
    refine PerChannel.ext_get fun c => ?_
    rw [get_startSpans, PerChannel.get_ofFn, spanFrom, hengine, hend]
    refine if_ctx_congr Iff.rfl (fun hs => ?_) fun _ => rfl
    have hpath : (armedEngine x.number set s).path.get c = some (s.chan c).setpoint :=
      (PerChannel.get_ofFn _ c).trans (if_pos hs)
    rw [hpath]
    rfl
  rw [armTake_eq, ← hw, startCue_some hin, hspans, hl]
  rfl

/-! ## The tests (R136 to R138) -/

/-- R137, R138: TAKE_ARM after its tests of the crane, of the set and of GRIP. -/
def armChecked (x : Take) (s : State) : State × Reply :=
  let set := channelSet s x.cues
  (firstTooFast s 1 x.cues (setpoints s)).elim
    ((claimAllCode .take false s (setChans set)).elim (accept (armTake x set s) (maskBytes (maskOf set))) (refuse s))
    fun p => (s, ⟨.tooFast, [BitVec.ofNat 8 p.1, chanByte p.2]⟩)

theorem requestTakeArm_found (h1 : 1 ≤ b.toNat) (h2 : b.toNat ≤ 16) (hx : s.findTake b.toNat = some x) :
    requestTakeArm b s =
      if s.crane.state ≠ .ready ∨ s.engine.state ≠ .idle then refuse s .state
      else if x.cues = [] ∨ setEmpty (channelSet s x.cues) then refuse s .badOperand
      else if setHasBody (channelSet s x.cues) ∧ s.gripHeld = false then refuse s .noGrip
      else armChecked x s := by
  rw [requestTakeArm, if_neg (by simp [takeNumberValid_iff.2 ⟨h1, h2⟩]), hx, armChecked]
  dsimp only
  cases firstTooFast s 1 x.cues (setpoints s)
  · cases claimAllCode .take false s (setChans (channelSet s x.cues)) <;> rfl
  · rfl

theorem setHasBody_iff : setHasBody set = true ↔ ∃ c, set.get c = true ∧ isLens c = false := by
  simp [setHasBody, isBody, mem_allChans]

theorem cues_ne_nil {c : Chan} (h : (channelSet s x.cues).get c = true) : x.cues ≠ [] := by
  obtain ⟨q, hq, -⟩ := (get_channelSet s x.cues c).1 h
  exact List.ne_nil_of_mem hq

/-- R136: the set is not empty, and GRIP is held where it must be. -/
theorem requestTakeArm_checked (h1 : 1 ≤ b.toNat) (h2 : b.toNat ≤ 16) (hx : s.findTake b.toNat = some x)
    (hr : s.crane.state = .ready) (hi : s.engine.state = .idle) (hc : x.cues ≠ [])
    (hs : ∃ c, (channelSet s x.cues).get c = true)
    (hg : (∃ c, (channelSet s x.cues).get c = true ∧ isLens c = false) → s.gripHeld = true) :
    requestTakeArm b s = armChecked x s := by
  have hempty : ¬setEmpty (channelSet s x.cues) = true := by
    rw [Bool.not_eq_true]
    exact setEmpty_false_iff.2 hs
  rw [requestTakeArm_found h1 h2 hx, if_neg (not_or.2 ⟨not_not.2 hr, not_not.2 hi⟩), if_neg (not_or.2 ⟨hc, hempty⟩), if_neg]
  rintro ⟨hb, hn⟩
  exact absurd ((hg (setHasBody_iff.1 hb)).symm.trans hn) (by decide)

theorem armChecked_tooFast {k : Nat} {c : Chan} (hc : tooFast s x.cues k c)
    (hlow : ∀ d, chanIndex d < chanIndex c → ¬tooFast s x.cues k d) (hfirst : ∀ j d, j < k → ¬tooFast s x.cues j d) :
    armChecked x s = (s, ⟨.tooFast, [BitVec.ofNat 8 (k + 1), chanByte c]⟩) := by
  have h := firstTooFast_some x.cues [] _ (standAfter_nil s) (Nat.zero_le k) hc hlow hfirst
  rw [List.length_nil, Nat.zero_add] at h
  rw [armChecked, h]
  rfl

theorem armChecked_slow (h : ∀ k d, ¬tooFast s x.cues k d) : armChecked x s =
    (claimAllCode .take false s (setChans (channelSet s x.cues))).elim
      (accept (armTake x (channelSet s x.cues) s) (maskBytes (maskOf (channelSet s x.cues)))) (refuse s) := by
  have hn := firstTooFast_none x.cues [] _ (standAfter_nil s) h
  rw [List.length_nil, Nat.zero_add] at hn
  rw [armChecked, hn]
  rfl

theorem armChecked_refused (h : ∀ k d, ¬tooFast s x.cues k d) {c : Chan} {code : ResultCode}
    (hs : (channelSet s x.cues).get c = true) (hc : claimCode .take false s c = some code)
    (hlow : ∀ d, (channelSet s x.cues).get d = true → chanIndex d < chanIndex c → claimCode .take false s d = none) :
    armChecked x s = refuse s code := by
  have hfind : claimAllCode .take false s (setChans (channelSet s x.cues)) = some code :=
    findSome?_of_lowest hc (allChans_ascending.filter _) (mem_setChans_iff.2 hs) fun d hd => hlow d (mem_setChans_iff.1 hd)
  rw [armChecked_slow h, hfind]
  rfl

theorem armChecked_granted (h : ∀ k d, ¬tooFast s x.cues k d)
    (hc : ∀ c, (channelSet s x.cues).get c = true → claimCode .take false s c = none) :
    armChecked x s = accept (armTake x (channelSet s x.cues) s) (maskBytes (maskOf (channelSet s x.cues))) := by
  have hall : claimAllCode .take false s (setChans (channelSet s x.cues)) = none :=
    List.findSome?_eq_none_iff.2 fun c hm => hc c (mem_setChans_iff.1 hm)
  rw [armChecked_slow h, hall]
  rfl

theorem interruptMoves_take (hit : Chan → Bool) (s : State) :
    (interruptMoves hit s).notices.take = s.notices.take := by
  obtain ⟨-, -, -, htake, -⟩ := interruptMoves_sources (hit := hit) (s := s)
  exact htake

/-- R109, R138, R145, R154: what an accepted TAKE_ARM leaves. -/
theorem takeArm_replied (hr : s.canReceive = true) (hx : s.findTake b.toNat = some x) (hset : channelSet s x.cues = set)
    (hne : x.cues ≠ []) (hcl : ∀ c, set.get c = true → claimCode .take false s c = none)
    (hf : requestTakeArm b (serveSupervision s) = accept (armTake x set (serveSupervision s)) (maskBytes (maskOf set))) :
    ∃ t, Replied (.takeArm b) s t .ok (maskBytes (maskOf set)) ∧
      t.engine.state = .cueing ∧ t.engine.take = some b.toNat ∧ t.engine.cueIndex = 1 ∧ t.engine.cueTime = 0 ∧
      t.engine.lag = 0 ∧ t.engine.pause = false ∧ t.engine.overtaken = false ∧ t.engine.frameWait = none ∧
      t.engine.set = set ∧
      t.engine.rate = (if setHasArm set = true then s.zoneMonitor.scale else 1024) ∧
      (∀ c, t.engine.path.get c = if set.get c = true then some (s.chan c).setpoint else none) ∧
      t.engine.untaken = set ∧
      (∀ q rest, x.cues = q :: rest → ∀ c, t.engine.spans.get c =
        (cueEnd s q c).map fun e => ⟨(s.chan c).setpoint, e⟩) ∧
      (∀ c, t.chan c = if set.get c = true then { s.chan c with
          owner := .take, mode := .path, demand := none, target := none, stopDecel := false, inPosition := false }
        else s.chan c) ∧
      (∀ j, t.findTake j = (s.findTake j).map fun y => { y with active := y.active || decide (j = b.toNat) }) ∧
      (∀ j, t.findMark j = (s.findMark j).map fun k => { k with
        locked := k.locked || x.cues.any fun q => q.mark == j }) ∧
      t.moves = movesLeft (losesTo set s) s.moves ∧
      t.notices.move = moveSourceAfter (losesTo set s) s.moves s.notices.move ∧
      t.notices.take = ⟨some ⟨b.toNat, .cueing, .none, 1⟩, s.notices.take.detail.isSome⟩ ∧
      t = { servedBy s t with
        engine := t.engine, channels := t.channels, takes := t.takes, marks := t.marks, moves := t.moves
        notices := t.notices } := by
  obtain ⟨q, rest, hq⟩ := List.exists_cons_of_ne_nil hne
  rw [armTake_frame (s := serveSupervision s) hcl hx hq, raiseTakeRunning_eq] at hf
  refine ⟨_, replied_of_taken hr (f := requestTakeArm b) rfl hf, rfl, rfl, rfl, rfl, rfl, rfl, rfl, rfl, rfl, rfl,
    fun c => PerChannel.get_ofFn _ c, rfl, fun r rest' hq' c => ?_, fun c => chan_grantedTake (s := serveSupervision s) set c,
    findTake_locked (s := serveSupervision s) hx, findMark_locked x (serveSupervision s), rfl, ?_, ?_, ?_⟩
  · obtain rfl : r = q := by
      rw [hq'] at hq
      exact (List.cons.inj hq).1
    refine (PerChannel.get_ofFn _ c).trans ?_
    split
    · rfl
    next hs =>
      have hend : cueEnd s r c = none := by
        by_contra hn
        exact hs (hset ▸ (get_channelSet s x.cues c).2 ⟨r, by simp [hq'], hn⟩)
      rw [hend]
      rfl
  · obtain ⟨hmove, -⟩ := interruptMoves_sources (hit := losesTo set (serveSupervision s)) (s := serveSupervision s)
    exact hmove
  · dsimp only [sendReply, noticesWith]
    rw [interruptMoves_take]
    rfl
  · rw [serveSupervision_eq]
    rfl

/-- Settles O51: TAKE_ARM by its tests in their order. -/
theorem takeArmClaimsTheSet : Obligations.TakeArmClaimsTheSet := by
  intro s b x hr h1 h2 hx set
  have hfound := requestTakeArm_found (s := serveSupervision s) h1 h2 hx
  refine ⟨get_channelSet s x.cues, fun h => ?_, fun hs hi hn => ?_, fun hs hi hb hg => ?_, fun hs hi hne hc hg => ?_⟩
  · exact refusedWith_of_accepted hr (f := requestTakeArm b) rfl (hfound.trans (if_pos h))
  · exact refusedWith_of_accepted hr (f := requestTakeArm b) rfl
      (hfound.trans ((if_neg (not_or.2 ⟨not_not.2 hs, not_not.2 hi⟩)).trans (if_pos (.inr (setEmpty_iff.2 hn)))))
  · obtain ⟨c, hc, hl⟩ := hb
    have hempty : ¬(x.cues = [] ∨ setEmpty set = true) := by
      rw [not_or, Bool.not_eq_true]
      exact ⟨cues_ne_nil hc, setEmpty_false_iff.2 ⟨c, hc⟩⟩
    exact refusedWith_of_accepted hr (f := requestTakeArm b) rfl
      (hfound.trans ((if_neg (not_or.2 ⟨not_not.2 hs, not_not.2 hi⟩)).trans
        ((if_neg hempty).trans (if_pos ⟨setHasBody_iff.2 ⟨c, hc, hl⟩, hg⟩))))
  · have hchecked := requestTakeArm_checked (s := serveSupervision s) h1 h2 hx hs hi hne hc hg
    refine ⟨fun k c hk hlow hfirst => ?_, fun c code hslow hcs hcc hlow => ?_, fun hslow hcl => ?_⟩
    · have hf := hchecked.trans (armChecked_tooFast (s := serveSupervision s) hk hlow hfirst)
      refine ⟨_, replied_of_taken hr (f := requestTakeArm b) rfl hf, ?_⟩
      rw [OnlyLink, serveSupervision_eq]
      rfl
    · exact refusedWith_of_accepted hr (f := requestTakeArm b) rfl
        (hchecked.trans (armChecked_refused (s := serveSupervision s) hslow hcs hcc hlow))
    · exact takeArm_replied hr hx rfl hne hcl
        (hchecked.trans (armChecked_granted (s := serveSupervision s) hslow hcl))

end Arming

end Sys2Proof.Machine
